-- ==== Sys2Proof/Word.lean ====
section
/-! DEFINITION. The word types of the ELZ4160: what the manual treats as bits. Everything the manual
counts (sums, indices, energies) is a plain `Nat` or `Int`. -/

namespace Sys2Proof

/-- One character of the station line (R149), one byte of a block (R150). -/
abbrev Byte := BitVec 8

/-- One word of the sample port, SD0–SD15 (R30). -/
abbrev Word := BitVec 16

/-- A program number, P0 to P3 (I.4). -/
abbrev Prog := Fin 4

end Sys2Proof
end

