-- ==== Sys2Proof/Syntax.lean ====
section
/-! DEFINITION. The commands of the ELZ4160: one constructor per row of spec/opcode_table.json. Half of
them are events of the part's surroundings and clocks, half are the command blocks that the station
computer sends (chapter 9). -/

namespace Sys2Proof

/-- One command block as the station computer sends it, less its kind (R150, R174): the frame tag, the
segment number, the last flag (bit 0 of the flags byte) and the payload. The payload of each kind is
laid out by R177; a block may carry any bytes, and the checks of R165 judge them. -/
structure CmdBlock where
  tag     : Byte
  segment : Byte
  last    : Bool
  payload : List Byte
deriving DecidableEq, Repr

/-- The commands of the part, in the order of the table. -/
inductive Instr where
  /-- RESET held low and released; `rate` is the level of the RATE pins then (R149), RATE1 the higher
  bit (DESIGN CHOICE, log entry 35). -/
  | powerOnReset (rate : BitVec 2)
  /-- The shot-period timer expires (R5). -/
  | slotTime
  /-- INTERLOCK goes low (R22). -/
  | interlockOpens
  /-- The burst timeout expires (R9). -/
  | burstTimeout
  /-- The digitizer strobes the word `w` into the sample port (R31). -/
  | sampleWordArrival (w : Word)
  /-- The burst parser takes the word at the head of the elastic buffer (R33). -/
  | parserTakesWord
  /-- The truncation timer of the burst being sampled expires (R40). -/
  | truncationTimerExpiry
  /-- The copying of the staging vector ends (R55). -/
  | commitEnd
  /-- The PCU takes the CLOSED bank at the head of the queue (R71). -/
  | conditioningBegin
  /-- The conditioning in progress ends (R72). -/
  | conditioningComplete
  /-- The LDU takes the oldest READY Result Buffer (R92). -/
  | detectionBegin
  /-- The detection in progress ends (R93). -/
  | detectionComplete
  /-- A character arrives on SLRX; `stopOk` says that its stop bit had the right level (R151). -/
  | inboundCharacter (c : Byte) (stopOk : Bool)
  /-- The inter-character timeout expires (R151). -/
  | interCharacterTimeout
  /-- The stop bit of the last character of the block on SLTX has been sent (R155). -/
  | blockComplete
  /-- The interval elapsed count has reached P (R160). -/
  | intervalDue
  /-- A SET_PROGRAM block arrives (R166). -/
  | setProgram (b : CmdBlock)
  /-- A SET_FIRING block arrives (R25). -/
  | setFiring (b : CmdBlock)
  /-- A SET_SCHEDULE block arrives (R25). -/
  | setSchedule (b : CmdBlock)
  /-- A START block arrives (R26). -/
  | start (b : CmdBlock)
  /-- A STOP block arrives (R27). -/
  | stop (b : CmdBlock)
  /-- A CLEAR_TRIP block arrives (R28). -/
  | clearTrip (b : CmdBlock)
  /-- A LOAD_GATES block arrives (R51). -/
  | loadGates (b : CmdBlock)
  /-- A LOAD_CORRECTION block arrives (R89). -/
  | loadCorrection (b : CmdBlock)
  /-- A LOAD_THRESHOLDS block arrives (R109). -/
  | loadThresholds (b : CmdBlock)
  /-- A SET_TRACKING block arrives (R116). -/
  | setTracking (b : CmdBlock)
  /-- A RESET_TRACKS block arrives (R130). -/
  | resetTracks (b : CmdBlock)
  /-- A SET_SKY block arrives (R145). -/
  | setSky (b : CmdBlock)
  /-- A SET_CAPTURE block arrives (R146). -/
  | setCapture (b : CmdBlock)
  /-- An INJECT_ECHO block arrives (R86). -/
  | injectEcho (b : CmdBlock)
  /-- A PATH_CHECK block arrives (R43). -/
  | pathCheck (b : CmdBlock)
  /-- An INJECT_CRC block arrives (R161). -/
  | injectCrc (b : CmdBlock)
  /-- A TIME_MARK block arrives (R159). -/
  | timeMark (b : CmdBlock)
  /-- A SET_REPORTING block arrives (R167). -/
  | setReporting (b : CmdBlock)
  /-- A READ_STATUS block arrives (R168). -/
  | readStatus (b : CmdBlock)
  /-- A READ_COUNTERS block arrives (R169). -/
  | readCounters (b : CmdBlock)
  /-- A READ_TRACKS block arrives (R170). -/
  | readTracks (b : CmdBlock)
  /-- A SOFT_RESET block arrives (R171). -/
  | softReset (b : CmdBlock)
  /-- A block arrives whose kind is no command's, or that is no single-block command (R165). -/
  | unknownCommand (kind : Byte) (b : CmdBlock)
  /-- INTERLOCK returns high (R22). -/
  | interlockCloses
  /-- One microsecond of CLKIN passes (R159, R160). -/
  | timebaseAdvance
deriving DecidableEq, Repr

end Sys2Proof
end

