-- ==== Sys2Proof/Decode.lean ====
section
/-! DEFINITION. The part has no instruction words: no row of spec/opcode_table.json gives bits, so no
word spells a command. Command blocks are read by Machine/Operands.lean and Machine/Mgu.lean. -/

namespace Sys2Proof

/-- The command that a table word spells. The table gives no row any bits, so there is none. -/
def decodeTableWord (_nbits _w : Nat) : Option Instr := none

end Sys2Proof
end

