-- ==== Sys2Proof/Config.lean ====
section
/-! DEFINITION. The sizes that fix the part (introduction, section I.7), and the one value that the
manual leaves open. -/

namespace Sys2Proof.Config

/-- Words of the elastic buffer (R31). -/
def bufferWords : Nat := 8192
/-- Slot charges in the budget window (R10). -/
def windowSlots : Nat := 1024
/-- The greatest value of a counter (I.5). -/
def counterMax : Nat := 4294967295
/-- Entries of the Gate Map Store, the Correction Table and the Threshold Table (R50, R88, R95). -/
def tableSize : Nat := 2048
/-- The magnitude that bounds every β and every injected amplitude (R82, R85). -/
def betaMax : Nat := 8388607
/-- Dark captures that one bank can hold (R64). -/
def darkCap : Nat := 16384
/-- Candidates that one profile can report (R101). -/
def candMax : Nat := 8
/-- Tracks that the Track Table can hold (R112). -/
def trackMax : Nat := 10
/-- Layers that one layer report lists (R141). -/
def reportLayers : Nat := 5
/-- Bytes of the Report Buffer (R154). -/
def reportBytes : Nat := 16384
/-- Descriptors of the descriptor queue (R154). -/
def descriptors : Nat := 32
/-- Entries of the Response Queue (R154). -/
def responseSlots : Nat := 4
/-- Entries of the Inbound Command Queue (R152). -/
def inboundSlots : Nat := 4
/-- Frames that the suspension stack can hold (R155). -/
def stackSlots : Nat := 3
/-- Payload bytes of one block (R150). -/
def blockBytes : Nat := 256
/-- Counters of the part (R169). -/
abbrev counterCount : Nat := 117

/-- What the four-byte span field of an INTERVAL frame (R179) holds once the span of R160 no longer
fits it. The manual gives the span no upper bound and the field 32 bits, and states no value for the
case. No body: nothing can be proved of it. DESIGN CHOICE (log entry 3), safe. -/
opaque spanBeyond32 : Nat → BitVec 32

end Sys2Proof.Config
end

