-- ==== Sys2Proof/Machine/State.lean ====
section
/-! DEFINITION. Everything the manual says the ELZ4160 remembers, block by block, and its value after
power-on reset. -/

namespace Sys2Proof.Machine

/-- Why the part stops. No rule of the manual stops it: every event and every command leaves a next
state, so there is no fault (log entry 1). -/
inductive Fault
deriving DecidableEq, Repr

/-- Why a command has no meaning in the model. -/
inductive Refusal where
  /-- Raised by the arm of `exec` of a command that the model has not reached. Safe: the model stops. -/
  | notModelled (mnemonic : String)
deriving DecidableEq, Repr

/-- A table of the part (Gate Map Store, Correction Table, Threshold Table) in its one canonical form:
index and entry pairs, indices strictly rising, no pair equal to what an unlisted index reads as. -/
abbrev Tab (α : Type) := List (Nat × α)

/-- A timebase value with its valid flag (R159). -/
structure Stamp where
  sec   : Nat
  usec  : Nat
  valid : Bool
deriving DecidableEq, Repr

/-! ### Program records (R166) -/

/-- The background method of a program (R78, R79). -/
inductive BgMethod where
  | dark | tail | none
deriving DecidableEq, Repr

/-- One program record (R166). `autoServo` is the servo field (MANUAL or AUTO), `hitsOnly` the
tracking role (FULL or HITS_ONLY). -/
structure ProgramRec where
  enabled     : Bool
  gateBase    : Nat
  gateCount   : Nat
  nTarget     : Nat
  eRef        : Nat
  autoServo   : Bool
  startDrive  : Nat
  driveMax    : Nat
  bgMethod    : BgMethod
  tailGates   : Nat
  corrBase    : Nat
  thrBase     : Nat
  detectStart : Nat
  detection   : Bool
  hitsOnly    : Bool
  noiseFactor : Nat
  vvLimit     : Nat
  divider     : Nat
deriving DecidableEq, Repr

/-- The reset values of a program record (R166). -/
def ProgramRec.reset : ProgramRec where
  enabled := false
  gateBase := 0
  gateCount := 1
  nTarget := 16
  eRef := 64
  autoServo := false
  startDrive := 0
  driveMax := 0
  bgMethod := .none
  tailGates := 0
  corrBase := 0
  thrBase := 0
  detectStart := 0
  detection := false
  hitsOnly := false
  noiseFactor := 0
  vvLimit := 1
  divider := 0

/-! ### Fire Control Unit (chapter 1) -/

/-- The FCU states (R1). -/
inductive FcuState where
  | halted | running | tripped
deriving DecidableEq, Repr

/-- One entry of the Shot Schedule (R3). -/
inductive SlotEntry where
  | fire (p : Prog)
  | dark (p : Prog)
  | skip
deriving DecidableEq, Repr

/-- The trip causes (R21). -/
inductive TripCause where
  | interlock | overEnergy | uncommandedEmission | misfire | noReceiver
deriving DecidableEq, Repr

/-- A trip record (R23). The additional-causes set is empty or holds INTERLOCK. -/
structure TripRecord where
  cause : TripCause
  time  : Stamp
  slot  : Fin 32
  additionalInterlock : Bool
deriving DecidableEq, Repr

/-- The kind of a shot in flight (R8). -/
inductive ShotKind where
  | fire | dark
deriving DecidableEq, Repr

/-- The shot in flight (R8). -/
structure Shot where
  kind : ShotKind
  prog : Prog
  slot : Fin 32
  tag  : Byte
  headerTaken : Bool
  weak : Bool
deriving DecidableEq, Repr

/-- The servo modes (R17). -/
inductive ServoMode where
  | manual | acquire | track
deriving DecidableEq, Repr

/-- One energy servo record (R17). -/
structure Servo where
  mode       : ServoMode
  drive      : Nat
  lockRun    : Nat
  groupSum   : Int
  groupCount : Nat
  armed      : Bool
deriving DecidableEq, Repr

/-- The servo record as R17 initialises it from a program record. -/
def Servo.init (p : ProgramRec) : Servo where
  mode := if p.autoServo then .acquire else .manual
  drive := p.startDrive
  lockRun := 0
  groupSum := 0
  groupCount := 0
  armed := true

/-- The global firing settings (R25): shot period and burst timeout in µs, record length L, budget limit. -/
structure Firing where
  shotPeriod   : Nat
  recordLen    : Nat
  burstTimeout : Nat
  budgetLimit  : Nat
deriving DecidableEq, Repr

/-- The defaults of R25. -/
def Firing.reset : Firing where
  shotPeriod := 1000
  recordLen := 2048
  burstTimeout := 100
  budgetLimit := 4193280

/-- The running burst timeout: the capture it was started for, and its length in µs (R9). -/
structure BurstTimer where
  tag  : Byte
  usec : Nat
deriving DecidableEq, Repr

/-- Which output pins were pulsed at the most recent slot time (R5 to R7, R44). -/
structure Pulses where
  fire     : Bool
  capture  : Bool
  pathTest : Bool
deriving DecidableEq, Repr

/-- No pin pulsed. -/
def Pulses.quiet : Pulses := ⟨false, false, false⟩

/-- The state of the FCU. `timerPeriod` is the length of the shot period in progress (R2). `window`
holds the slot charges newest first (R10). -/
structure Fcu where
  state       : FcuState
  schedule    : Vector SlotEntry 32
  pointer     : Fin 32
  firing      : Firing
  timerPeriod : Nat
  window      : List Nat
  budgetHold  : Bool
  shot        : Option Shot
  shotTag     : Byte
  drive       : Nat
  weakRun     : Nat
  lostRun     : Nat
  servos      : Vector Servo 4
  trip        : Option TripRecord
  lastTrip    : Option TripRecord
  alert       : Bool
  interlockClosed : Bool
  burstTimer  : Option BurstTimer
  pulses      : Pulses
deriving DecidableEq, Repr

/-- Section 1.11. The INTERLOCK pin is an input: the manual gives it no reset level, and the model
takes it closed. DESIGN CHOICE (log entry 2), unsafe. -/
def Fcu.reset : Fcu where
  state := .halted
  schedule := Vector.replicate 32 .skip
  pointer := 0
  firing := Firing.reset
  timerPeriod := 1000
  window := List.replicate Config.windowSlots 0
  budgetHold := false
  shot := none
  shotTag := 255
  drive := 0
  weakRun := 0
  lostRun := 0
  servos := Vector.replicate 4 (Servo.init ProgramRec.reset)
  trip := none
  lastTrip := none
  alert := false
  interlockClosed := true
  burstTimer := none
  pulses := Pulses.quiet

/-! ### Receiver Sample Port (chapter 2) -/

/-- What the elastic buffer holds: words, and slip points, which take no room (R31, R32). -/
inductive BufItem where
  | word (w : Word)
  | slip
deriving DecidableEq, Repr

/-- A burst in SAMPLES: whether it answers a path-check capture, the tag it is bound to, the expected
count and the index of the next sample (R36, R37). -/
structure Burst where
  path     : Bool
  tag      : Byte
  expected : Nat
  next     : Nat
deriving DecidableEq, Repr

/-- The burst parser (R33). HEADER holds the mark and perhaps the reading. -/
inductive Parser where
  | hunt
  | header (mark : Word) (reading : Option Word)
  | samples (b : Burst)
  | trail
deriving DecidableEq, Repr

/-- The outstanding path-check capture: its tag, the L in force at its pulse, its header-taken mark (R42). -/
structure PathCapture where
  tag : Byte
  len : Nat
  headerTaken : Bool
deriving DecidableEq, Repr

/-- The path-check record (R42). -/
structure PathCheck where
  running     : Bool
  n           : Nat
  issued      : Nat
  settled     : Nat
  capture     : Option PathCapture
  inSync      : Bool
  correctRun  : Nat
  wordIndex   : Nat
  windowErrors : Nat
  compared    : Nat
  errors      : Nat
  syncChanges : Nat
deriving DecidableEq, Repr

/-- The path-check record after both resets (R42). -/
def PathCheck.reset : PathCheck where
  running := false
  n := 0
  issued := 0
  settled := 0
  capture := none
  inSync := false
  correctRun := 0
  wordIndex := 0
  windowErrors := 0
  compared := 0
  errors := 0
  syncChanges := 0

/-- The state of the RSP. `truncTimer` is the length in µs of the truncation timer of the burst in
SAMPLES (R40). -/
structure Rsp where
  buffer     : List BufItem
  slipSpell  : Bool
  highWater  : Nat
  parser     : Parser
  truncTimer : Option Nat
  path       : PathCheck
deriving DecidableEq, Repr

/-- Section 2.10. -/
def Rsp.reset : Rsp where
  buffer := []
  slipSpell := false
  highWater := 0
  parser := .hunt
  truncTimer := none
  path := PathCheck.reset

/-! ### Gate Accumulation Unit (chapter 3) -/

/-- One entry of the Gate Map Store (R50). -/
structure GateEntry where
  first : Nat
  width : Nat
deriving DecidableEq, Repr

/-- What an entry of the Gate Map Store holds after both resets (R50). -/
def GateEntry.reset : GateEntry := ⟨0, 1⟩

/-- One gate of the staging vector: its sample sum and its saturated count (R53). -/
structure Bin where
  sum : Nat
  sat : Nat
deriving DecidableEq, Repr

/-- The staging vector's contents (R53). -/
structure StageVec where
  prog   : Prog
  kind   : ShotKind
  energy : Nat
  bins   : List Bin
deriving DecidableEq, Repr

/-- An open that is held until the commit in progress ends (R53). -/
structure OpenReq where
  prog   : Prog
  kind   : ShotKind
  energy : Nat
deriving DecidableEq, Repr

/-- The staging vector's three states (R53). -/
inductive Staging where
  | idle
  | staging (v : StageVec)
  | committing (v : StageVec) (held : Option OpenReq)
deriving DecidableEq, Repr

/-- The states of a bank (R56). -/
inductive BankState where
  | free | accumulating | closed | conditioning
deriving DecidableEq, Repr

/-- The sums of one gate in a bank: S_g, C_g and Dk_g (R57). -/
structure GateSums where
  sig  : Nat
  sat  : Nat
  dark : Nat
deriving DecidableEq, Repr

/-- A profile's outcome (R63). -/
inductive ProfileOutcome where
  | complete | degraded | void
deriving DecidableEq, Repr

/-- A bank record (R57). `waitCounted` says that this bank's wait at the head of the queue has been
counted (R90). -/
structure Bank where
  state     : BankState
  prog      : Prog
  copy      : ProgramRec
  seq       : Nat
  openTime  : Stamp
  elapsed   : Nat
  ownShot   : Option (Fin 32)
  nAcc      : Nat
  dAcc      : Nat
  eSum      : Nat
  gates     : List GateSums
  outcome   : Option ProfileOutcome
  waitCounted : Bool
deriving DecidableEq, Repr

/-- A FREE bank. Its fields carry no meaning (R57); the model keeps one value for them. -/
def Bank.freed : Bank where
  state := .free
  prog := 0
  copy := ProgramRec.reset
  seq := 0
  openTime := ⟨0, 0, false⟩
  elapsed := 0
  ownShot := none
  nAcc := 0
  dAcc := 0
  eSum := 0
  gates := []
  outcome := none
  waitCounted := false

/-- The state of the GAU. -/
structure Gau where
  gateMap : Tab GateEntry
  staging : Staging
  banks   : Vector Bank 6
  queue   : List (Fin 6)
  nextSeq : Vector Nat 4
  starved : Vector Bool 4
deriving DecidableEq, Repr

/-- Section 3.14. -/
def Gau.reset : Gau where
  gateMap := []
  staging := .idle
  banks := Vector.replicate 6 Bank.freed
  queue := []
  nextSeq := Vector.replicate 4 0
  starved := Vector.replicate 4 false

/-! ### Profile Conditioner (chapter 4) -/

/-- One entry of the Correction Table, the factor mant × 2^exp / 2^24 (R88). -/
structure CorrEntry where
  mant : Nat
  exp  : Nat
deriving DecidableEq, Repr

/-- What an entry of the Correction Table holds after both resets (R88). -/
def CorrEntry.reset : CorrEntry := ⟨32768, 9⟩

/-- A test-echo injection (R86). -/
structure Injection where
  first : Nat
  count : Nat
  amp   : Int
deriving DecidableEq, Repr

/-- A HELD record of the Background Hold Store (R77). -/
structure HeldRec where
  gateCount : Nat
  seq       : Nat
  values    : List Nat
deriving DecidableEq, Repr

/-- The conditioning in progress: its bank, its Result Buffer, and the inputs fixed at its begin (R71,
step 4). -/
structure PcuJob where
  bank : Fin 6
  buf  : Fin 2
  corr : List CorrEntry
  held : Option HeldRec
  inj  : Option Injection
deriving DecidableEq, Repr

/-- The states of a Result Buffer (R73). -/
inductive BufState where
  | free | filling | ready | detecting
deriving DecidableEq, Repr

/-- What the arithmetic gives for one gate: β and the clipped mark (R74). -/
structure GateBeta where
  beta    : Int
  clipped : Bool
deriving DecidableEq, Repr

/-- The fields of a result record that a VOID profile lacks (R74). -/
structure Conditioned where
  eMean      : Nat
  bgHeld     : Bool
  bgNone     : Bool
  noise      : Nat
  anyClipped : Bool
  betas      : List GateBeta
deriving DecidableEq, Repr

/-- The result record (R74). `shape` holds the first sample and width of each gate. The DEGRADED flag
is the outcome's, the background method the program copy's. -/
structure ResultRec where
  prog     : Prog
  copy     : ProgramRec
  seq      : Nat
  openTime : Stamp
  nTarget  : Nat
  nAcc     : Nat
  dAcc     : Nat
  outcome  : ProfileOutcome
  test     : Bool
  clamped  : Bool
  shape    : List GateEntry
  cond     : Option Conditioned
deriving DecidableEq, Repr

/-- One Result Buffer (R73). A FREE buffer holds no record. -/
structure ResultBuf where
  state  : BufState
  record : Option ResultRec
deriving DecidableEq, Repr

/-- A FREE Result Buffer. -/
def ResultBuf.freed : ResultBuf := ⟨.free, none⟩

/-- The state of the PCU. `job` is none while the PCU is IDLE. `readyOrder` lists the READY buffers,
the one whose conditioning completed first at its head (R92). -/
structure Pcu where
  job        : Option PcuJob
  bufs       : Vector ResultBuf 2
  readyOrder : List (Fin 2)
  corrTable  : Tab CorrEntry
  held       : Vector (Option HeldRec) 4
  pendingInj : Vector (Option Injection) 4
deriving DecidableEq, Repr

/-- Section 4.13. -/
def Pcu.reset : Pcu where
  job := none
  bufs := Vector.replicate 2 ResultBuf.freed
  readyOrder := []
  corrTable := []
  held := Vector.replicate 4 none
  pendingInj := Vector.replicate 4 none

/-! ### Layer Detector (chapter 5) -/

/-- A candidate record (R100). -/
structure Candidate where
  base      : Nat
  top       : Option Nat
  peakIndex : Nat
  peak      : Int
  clipped   : Bool
deriving DecidableEq, Repr

/-- The detection in progress: its Result Buffer and, where it took threshold entries, the on
threshold of each gate (R92, R96). -/
structure LduJob where
  buf : Fin 2
  on  : Option (List Nat)
deriving DecidableEq, Repr

/-- What the LDU keeps of the most recent detection (R104, R110). -/
structure LastDetection where
  prog     : Prog
  seq      : Nat
  cands    : List Candidate
  obscured : Bool
  vv       : Option Nat
deriving DecidableEq, Repr

/-- The state of the LDU. `job` is none while the LDU is IDLE. -/
structure Ldu where
  job        : Option LduJob
  thrTable   : Tab Nat
  last       : Option LastDetection
  frameCount : Vector Nat 4
deriving DecidableEq, Repr

/-- Section 5.13. -/
def Ldu.reset : Ldu where
  job := none
  thrTable := []
  last := none
  frameCount := Vector.replicate 4 0

/-! ### Layer Tracker (chapter 6) -/

/-- The states of a track (R113). -/
inductive TrackState where
  | tentative | confirmed | coasting
deriving DecidableEq, Repr

/-- A track (R113). The history lists HIT as true and MISS as false, newest first; bit p of `sources`
stands for program p. -/
structure Track where
  id        : Nat
  state     : TrackState
  base      : Nat
  top       : Option Nat
  peak      : Int
  history   : List Bool
  misses    : Nat
  totalHits : Nat
  age       : Nat
  sources   : BitVec 4
  test      : Bool
deriving DecidableEq, Repr

/-- The tracking parameters M, N, L, W, Dm and a (R115). -/
structure TrackParams where
  confirm   : Nat
  histLen   : Nat
  loss      : Nat
  assocWin  : Nat
  mergeDist : Nat
  smooth    : Nat
deriving DecidableEq, Repr

/-- The state of the LTU. -/
structure Ltu where
  tracks : List Track
  nextId : Nat
  params : TrackParams
deriving DecidableEq, Repr

/-- Section 6.16. -/
def Ltu.reset : Ltu where
  tracks := []
  nextId := 1
  params := ⟨4, 5, 3, 40, 16, 4⟩

/-! ### Sky Condition Unit (chapter 7) -/

/-- The sky states (R135). -/
inductive Sky where
  | unknown | clear | layered | obscured
deriving DecidableEq, Repr

/-- The conditions of a Capture Trigger Table entry (R142). -/
inductive CaptureCond where
  | none | ceilingBelow | obscured | skyChange | trackNew
deriving DecidableEq, Repr

/-- An entry of the Capture Trigger Table (R142). -/
structure CaptureEntry where
  cond    : CaptureCond
  height  : Nat
  prog    : Prog
  armed   : Bool
  pending : Bool
deriving DecidableEq, Repr

/-- An empty entry (R142): condition NONE, armed and pending clear. Its h and program after a reset are not
given: the model takes 0 and P0. DESIGN CHOICE (log entry 27), unsafe. -/
def CaptureEntry.reset : CaptureEntry := ⟨.none, 0, 0, false, false⟩

/-- The state of the SKU (R135). `ceilingLow` is the ceiling state. -/
structure Sku where
  sky         : Sky
  lastVv      : Option Nat
  hold        : Nat
  clearRearm  : Bool
  ceiling     : Option Nat
  ceilingLow  : Bool
  threshold   : Nat
  hysteresis  : Nat
  divider     : Nat
  reportCount : Nat
  captures    : Vector CaptureEntry 4
deriving DecidableEq, Repr

/-- Section 7.12. -/
def Sku.reset : Sku where
  sky := .unknown
  lastVv := none
  hold := 0
  clearRearm := false
  ceiling := none
  ceilingLow := false
  threshold := 0
  hysteresis := 0
  divider := 1
  reportCount := 0
  captures := Vector.replicate 4 CaptureEntry.reset

/-! ### Station Link Controller (chapter 8) -/

/-- The frame kinds (R153). -/
inductive FrameKind where
  | response | notice | layer | interval | profile
deriving DecidableEq, Repr

/-- What the completion of a response sets off besides the freeing of its entry (R161, R171). -/
inductive AfterSend where
  | nothing | crcInject | softReset
deriving DecidableEq, Repr

/-- A frame: a descriptor (R154) with its payload, or a response. `size` is the payload's length in
bytes, `sent` the number of its blocks completed. The payload of a NOTICE frame is filled when its
first block starts (R157). Where a frame stands (queue, CURRENT, stack) is its state. -/
structure Frame where
  kind    : FrameKind
  level   : Nat
  tag     : Byte
  size    : Nat
  payload : List Byte
  sent    : Nat
  after   : AfterSend
deriving DecidableEq, Repr

/-- The level of each frame kind (R153). -/
structure Levels where
  response : Nat
  notice   : Nat
  layer    : Nat
  interval : Nat
  profile  : Nat
deriving DecidableEq, Repr

/-- The inbound parser (R151): the header bytes collected, then the payload bytes, then the first CRC
byte. A list holds the bytes in order of arrival. -/
inductive InParser where
  | hunt
  | header (got : List Byte)
  | payload (hdr got : List Byte) (need : Nat)
  | check (hdr body : List Byte) (high : Option Byte)
deriving DecidableEq, Repr

/-- An entry of the Inbound Command Queue: the header fields and the payload of a good block (R152). -/
structure InBlock where
  kind    : Byte
  tag     : Byte
  segment : Byte
  last    : Bool
  payload : List Byte
deriving DecidableEq, Repr

/-- What SLTX is doing: idle, sending a block, or, inside an event only, at a moment of choice that has not
been made yet: at a block boundary (R155), or while a tracking update holds an idle line (log entry 33). -/
inductive LinePhase where
  | idle | sending | boundary
deriving DecidableEq, Repr

/-- The state of the SLC. `queue` holds the QUEUED descriptors oldest first, `current` the CURRENT
frame, `stack` the SUSPENDED ones, top first; `responses` holds the responses not yet started, oldest
first (R154). `rate` holds the RATE pins, whose baud rate `baud` gives (R149). `txBlock` holds the
characters of the block on SLTX. `gapTimeout` is the inter-character timeout of the gap in progress (R151).
`runUsec` counts the microseconds of the running second since the release of reset (R160). -/
structure Slc where
  rate       : BitVec 2
  inParser   : InParser
  charTimeout : Nat
  gapTimeout : Nat
  inbound    : List InBlock
  queue      : List Frame
  responses  : List Frame
  current    : Option Frame
  stack      : List Frame
  phase      : LinePhase
  txBlock    : List Byte
  levels     : Levels
  tagCounter : Byte
  noticeSet  : BitVec 16
  noticeMask : BitVec 16
  crcInject  : Bool
  time       : Stamp
  runUsec    : Nat
  interval   : Nat
  elapsed    : Nat
  span       : Nat
  snapshots  : Vector Nat 16
deriving DecidableEq, Repr

/-- The default levels (R153). -/
def Levels.reset : Levels := ⟨0, 1, 1, 2, 3⟩

/-- Section 8.12, power-on reset, with the line rate given by `rate`. -/
def Slc.reset (rate : BitVec 2) : Slc where
  rate := rate
  inParser := .hunt
  charTimeout := 16
  gapTimeout := 16
  inbound := []
  queue := []
  responses := []
  current := none
  stack := []
  phase := .idle
  txBlock := []
  levels := Levels.reset
  tagCounter := 0
  noticeSet := 0
  noticeMask := 0
  crcInject := false
  time := ⟨0, 0, false⟩
  runUsec := 0
  interval := 0
  elapsed := 0
  span := 0
  snapshots := Vector.replicate 16 0

/-! ### Management Unit (chapter 9) and the whole part -/

/-- The states of the MGU (R163). -/
inductive MguState where
  | ready | resetting
deriving DecidableEq, Repr

/-- The 117 counters by identifier (R180). -/
abbrev Counters := Vector Nat Config.counterCount

/-- The ELZ4160, and the commands that wait for it, first in, first out. -/
structure State where
  progs   : Vector ProgramRec 4
  fcu     : Fcu
  rsp     : Rsp
  gau     : Gau
  pcu     : Pcu
  ldu     : Ldu
  ltu     : Ltu
  sku     : Sku
  slc     : Slc
  mgu     : MguState
  ctrs    : Counters
  pending : List Instr
deriving DecidableEq, Repr

/-- The part after power-on reset with the line rate given by `rate` (the reset tables of every
chapter), no command waiting. -/
def State.powerOn (rate : BitVec 2) : State where
  progs := Vector.replicate 4 ProgramRec.reset
  fcu := Fcu.reset
  rsp := Rsp.reset
  gau := Gau.reset
  pcu := Pcu.reset
  ldu := Ldu.reset
  ltu := Ltu.reset
  sku := Sku.reset
  slc := Slc.reset rate
  mgu := .ready
  ctrs := Vector.replicate Config.counterCount 0
  pending := []

/-- The part right after power-on reset, the RATE pins read as 00 (115,200 baud). The manual leaves
the pins to the station. DESIGN CHOICE (log entry 2), unsafe. -/
def State.reset : State := State.powerOn 0

end Sys2Proof.Machine
end

