-- ==== Sys2Proof/Machine/Ops.lean ====
section
/-! DEFINITION. The operations that every block uses: the manual's arithmetic (I.5), the canonical
tables, the counters with their identifiers (R180), the notice kinds (R157), program sets. -/

namespace Sys2Proof.Machine

/-! ### Arithmetic (I.5) -/

/-- A quotient of naturals rounded half away from zero. -/
def roundDivNat (a b : Nat) : Nat := (2 * a + b) / (2 * b)

/-- A quotient rounded half away from zero; the divisor is positive wherever the manual divides. -/
def roundDiv (a : Int) (b : Nat) : Int :=
  if 0 ≤ a then (roundDivNat a.natAbs b : Int) else -(roundDivNat a.natAbs b : Int)

/-- `a` clamped to `lo … hi`. -/
def clampInt (lo hi a : Int) : Int := if a < lo then lo else if hi < a then hi else a

/-- A range index in whole metres: times 3.75, rounded half up (I.5, R175). -/
def metres (r : Nat) : Nat := (15 * r + 2) / 4

/-- The distance of two range indices. -/
def dist (a b : Nat) : Nat := (a - b) + (b - a)

/-- Whether the runs `[a, a + m)` and `[b, b + n)` share an index. -/
def runsMeet (a m b n : Nat) : Bool := a < b + n && b < a + m && 0 < m && 0 < n

/-- The last range index of a gate: its first sample plus its width, minus one (R50). -/
def GateEntry.lastIndex (g : GateEntry) : Nat := g.first + g.width - 1

/-- A 16-bit sequence number's successor, 65535 to 0 (R66). -/
def nextSeqOf (n : Nat) : Nat := (n + 1) % 65536

/-- An increase by one that saturates at `top`. -/
def satInc (top n : Nat) : Nat := if n < top then n + 1 else top

/-! ### Tables -/

/-- What index `i` of a table reads as; `d` is what an unlisted index reads as. -/
def Tab.read {α : Type} (d : α) : Tab α → Nat → α
  | [], _ => d
  | (j, v) :: r, i => if j = i then v else Tab.read d r i

/-- A table with `v` written at index `i`, in canonical form again. -/
def Tab.write {α : Type} [DecidableEq α] (d : α) : Tab α → Nat → α → Tab α
  | [], i, v => if v = d then [] else [(i, v)]
  | (j, u) :: r, i, v =>
    if i < j then (if v = d then (j, u) :: r else (i, v) :: (j, u) :: r)
    else if i = j then (if v = d then r else (i, v) :: r)
    else (j, u) :: Tab.write d r i v

/-- A run of entries written from index `i` up, as the LOAD commands write them (R51, R89, R109). -/
def Tab.writeRun {α : Type} [DecidableEq α] (d : α) : Tab α → Nat → List α → Tab α
  | t, _, [] => t
  | t, i, v :: vs => Tab.writeRun d (Tab.write d t i v) (i + 1) vs

/-- The canonical form, all indices at least `lo`. -/
def Tab.wfFrom {α : Type} [DecidableEq α] (d : α) : Nat → Tab α → Bool
  | _, [] => true
  | lo, (j, v) :: r => lo ≤ j && v ≠ d && Tab.wfFrom d (j + 1) r

/-- The canonical form: indices strictly rising, no entry equal to what an unlisted index reads as. -/
def Tab.wf {α : Type} [DecidableEq α] (d : α) (t : Tab α) : Bool := Tab.wfFrom d 0 t

/-- The `n` entries from index `i` up. -/
def Tab.readRun {α : Type} (d : α) (t : Tab α) (i n : Nat) : List α :=
  (List.range n).map fun k => Tab.read d t (i + k)

/-! ### Counters (I.5, R180) -/

/-- A counter identifier (R180). -/
abbrev Ctr := Fin Config.counterCount

/-- Counter `c` increased by `k`, saturating at 4,294,967,295 (I.5). -/
def Counters.add (v : Counters) (c : Ctr) (k : Nat) : Counters :=
  v.set c (min (v[c] + k) Config.counterMax)

/-- Counter `c` increased by one. -/
def State.bump (s : State) (c : Ctr) : State := { s with ctrs := Counters.add s.ctrs c 1 }

/-- Counter `c` increased by `k` occurrences of its cause. -/
def State.bumpBy (s : State) (c : Ctr) (k : Nat) : State := { s with ctrs := Counters.add s.ctrs c k }

/-! Counters of the FCU (R29). -/
/-- SHOTS_FIRED. -/
def Ctr.shotsFired : Ctr := 0
/-- DARK_CAPTURES. -/
def Ctr.darkCaptures : Ctr := 1
/-- WITHHELD_BUSY. -/
def Ctr.withheldBusy : Ctr := 2
/-- WITHHELD_BUDGET. -/
def Ctr.withheldBudget : Ctr := 3
/-- WEAK_SHOTS. -/
def Ctr.weakShots : Ctr := 4
/-- LOST_CAPTURES. -/
def Ctr.lostCaptures : Ctr := 5
/-- ENERGY_BIN_1. -/
def Ctr.energyBin1 : Ctr := 6
/-- ENERGY_BIN_2. -/
def Ctr.energyBin2 : Ctr := 7
/-- ENERGY_BIN_3. -/
def Ctr.energyBin3 : Ctr := 8
/-- ENERGY_BIN_4. -/
def Ctr.energyBin4 : Ctr := 9
/-- ENERGY_BIN_5. -/
def Ctr.energyBin5 : Ctr := 10
/-- ENERGY_BIN_6. -/
def Ctr.energyBin6 : Ctr := 11
/-- ENERGY_BIN_7. -/
def Ctr.energyBin7 : Ctr := 12
/-- SERVO_LOCKS. -/
def Ctr.servoLocks : Ctr := 13
/-- SERVO_UNLOCKS. -/
def Ctr.servoUnlocks : Ctr := 14
/-- TRIPS_INTERLOCK. -/
def Ctr.tripsInterlock : Ctr := 15
/-- TRIPS_OVER_ENERGY. -/
def Ctr.tripsOverEnergy : Ctr := 16
/-- TRIPS_UNCOMMANDED. -/
def Ctr.tripsUncommanded : Ctr := 17
/-- TRIPS_MISFIRE. -/
def Ctr.tripsMisfire : Ctr := 18
/-- TRIPS_NO_RECEIVER. -/
def Ctr.tripsNoReceiver : Ctr := 19
/-- INTERLOCK_OPENINGS. -/
def Ctr.interlockOpenings : Ctr := 20
/-! Counters of the RSP (R49). -/
/-- FIRED_ACCEPTED. -/
def Ctr.firedAccepted : Ctr := 21
/-- DARK_ACCEPTED. -/
def Ctr.darkAccepted : Ctr := 22
/-- STRAY_BURSTS. -/
def Ctr.strayBursts : Ctr := 23
/-- TAG_ERRORS. -/
def Ctr.tagErrors : Ctr := 24
/-- LENGTH_ERRORS. -/
def Ctr.lengthErrors : Ctr := 25
/-- SHORT_BURSTS. -/
def Ctr.shortBursts : Ctr := 26
/-- TRUNCATED_BURSTS. -/
def Ctr.truncatedBursts : Ctr := 27
/-- SLIPPED_BURSTS. -/
def Ctr.slippedBursts : Ctr := 28
/-- SLIPPED_WORDS. -/
def Ctr.slippedWords : Ctr := 29
/-- OVER_RANGE_SAMPLES. -/
def Ctr.overRangeSamples : Ctr := 30
/-- SATURATED_SAMPLES. -/
def Ctr.saturatedSamples : Ctr := 31
/-- EXCESS_WORDS. -/
def Ctr.excessWords : Ctr := 32
/-- DISCARDED_WORDS. -/
def Ctr.discardedWords : Ctr := 33
/-- PATH_BURSTS. -/
def Ctr.pathBursts : Ctr := 34
/-- PATH_LOST. -/
def Ctr.pathLost : Ctr := 35
/-- PATH_WORDS_COMPARED. -/
def Ctr.pathWordsCompared : Ctr := 36
/-- PATH_WORD_ERRORS. -/
def Ctr.pathWordErrors : Ctr := 37
/-- PATH_SYNC_CHANGES. -/
def Ctr.pathSyncChanges : Ctr := 38
/-! Counters of the GAU (R68). -/
/-- PROFILES_OPENED. -/
def Ctr.profilesOpened : Ctr := 39
/-- PROFILES_COMPLETE. -/
def Ctr.profilesComplete : Ctr := 40
/-- PROFILES_DEGRADED. -/
def Ctr.profilesDegraded : Ctr := 41
/-- PROFILES_VOID. -/
def Ctr.profilesVoid : Ctr := 42
/-- PROFILES_ABANDONED. -/
def Ctr.profilesAbandoned : Ctr := 43
/-- PROFILES_CONDITIONED. -/
def Ctr.profilesConditioned : Ctr := 44
/-- WITHHELD_NO_BANK. -/
def Ctr.withheldNoBank : Ctr := 45
/-- STARVATION_SPELLS. -/
def Ctr.starvationSpells : Ctr := 46
/-- SLOTS_PAST_WINDOW. -/
def Ctr.slotsPastWindow : Ctr := 47
/-- DARK_ADDED. -/
def Ctr.darkAdded : Ctr := 48
/-- DARK_NO_BANK. -/
def Ctr.darkNoBank : Ctr := 49
/-- DARK_OVER_CAP. -/
def Ctr.darkOverCap : Ctr := 50
/-! Counters of the PCU (R91). -/
/-- VOID_PASSED. -/
def Ctr.voidPassed : Ctr := 51
/-- BG_HELD_PROFILES. -/
def Ctr.bgHeldProfiles : Ctr := 52
/-- BG_NONE_PROFILES. -/
def Ctr.bgNoneProfiles : Ctr := 53
/-- BETA_CLAMPED_GATES. -/
def Ctr.betaClampedGates : Ctr := 54
/-- BETA_CLAMPED_PROFILES. -/
def Ctr.betaClampedProfiles : Ctr := 55
/-- CLIPPED_GATES. -/
def Ctr.clippedGates : Ctr := 56
/-- CLIPPED_PROFILES. -/
def Ctr.clippedProfiles : Ctr := 57
/-- INJECTIONS_APPLIED. -/
def Ctr.injectionsApplied : Ctr := 58
/-- INJECTIONS_REPLACED. -/
def Ctr.injectionsReplaced : Ctr := 59
/-- INJECTIONS_CLEARED. -/
def Ctr.injectionsCleared : Ctr := 60
/-- CORRECTION_BUSY. -/
def Ctr.correctionBusy : Ctr := 61
/-- CONDITIONING_WAITS. -/
def Ctr.conditioningWaits : Ctr := 62
/-! Counters of the LDU (R111). -/
/-- PROFILES_DETECTED. -/
def Ctr.profilesDetected : Ctr := 63
/-- NO_OBS_DETECTION_OFF. -/
def Ctr.noObsDetectionOff : Ctr := 64
/-- CANDIDATES_FOUND. -/
def Ctr.candidatesFound : Ctr := 65
/-- CANDIDATES_DROPPED. -/
def Ctr.candidatesDropped : Ctr := 66
/-- CAND_OVERFLOW_PROFILES. -/
def Ctr.candOverflowProfiles : Ctr := 67
/-- PROFILES_OBSCURED. -/
def Ctr.profilesObscured : Ctr := 68
/-- VV_AT_REACH. -/
def Ctr.vvAtReach : Ctr := 69
/-- PROFILE_FRAMES_OFFERED. -/
def Ctr.profileFramesOffered : Ctr := 70
/-- CAPTURE_FRAMES_OFFERED. -/
def Ctr.captureFramesOffered : Ctr := 71
/-- THRESHOLD_BUSY. -/
def Ctr.thresholdBusy : Ctr := 72
/-! Counters of the LTU (R133). -/
/-- TRACK_UPDATES. -/
def Ctr.trackUpdates : Ctr := 73
/-- NO_OBS_RESULTS. -/
def Ctr.noObsResults : Ctr := 74
/-- TRACK_HITS. -/
def Ctr.trackHits : Ctr := 75
/-- TRACK_MISSES. -/
def Ctr.trackMisses : Ctr := 76
/-- TRACKS_CREATED. -/
def Ctr.tracksCreated : Ctr := 77
/-- TRACKS_CONFIRMED. -/
def Ctr.tracksConfirmed : Ctr := 78
/-- TRACKS_RECOVERED. -/
def Ctr.tracksRecovered : Ctr := 79
/-- TRACKS_LOST. -/
def Ctr.tracksLost : Ctr := 80
/-- TENTATIVE_DROPPED. -/
def Ctr.tentativeDropped : Ctr := 81
/-- TRACKS_DISPLACED. -/
def Ctr.tracksDisplaced : Ctr := 82
/-- CANDIDATES_DISCARDED. -/
def Ctr.candidatesDiscarded : Ctr := 83
/-- TRACKS_MERGED. -/
def Ctr.tracksMerged : Ctr := 84
/-- TRACKS_CLEARED. -/
def Ctr.tracksCleared : Ctr := 85
/-- TRACKING_SETS. -/
def Ctr.trackingSets : Ctr := 86
/-! Counters of the SKU (R148). -/
/-- SKY_EVALUATIONS. -/
def Ctr.skyEvaluations : Ctr := 87
/-- SKY_CHANGE_RAISES. -/
def Ctr.skyChangeRaises : Ctr := 88
/-- CLEAR_SUPPRESSED. -/
def Ctr.clearSuppressed : Ctr := 89
/-- CEILING_LOW_RAISES. -/
def Ctr.ceilingLowRaises : Ctr := 90
/-- CEILING_OK_RAISES. -/
def Ctr.ceilingOkRaises : Ctr := 91
/-- LAYER_REPORTS_OFFERED. -/
def Ctr.layerReportsOffered : Ctr := 92
/-- CAPTURE_TRIGGERS. -/
def Ctr.captureTriggers : Ctr := 93
/-- CAPTURE_REPOSTS. -/
def Ctr.captureReposts : Ctr := 94
/-! Counters of the SLC (R162). -/
/-- INBOUND_GOOD. -/
def Ctr.inboundGood : Ctr := 95
/-- INBOUND_TIMEOUT. -/
def Ctr.inboundTimeout : Ctr := 96
/-- INBOUND_LINE_ERROR. -/
def Ctr.inboundLineError : Ctr := 97
/-- INBOUND_LENGTH. -/
def Ctr.inboundLength : Ctr := 98
/-- INBOUND_CRC. -/
def Ctr.inboundCrc : Ctr := 99
/-- INBOUND_OVERRUN. -/
def Ctr.inboundOverrun : Ctr := 100
/-- BLOCKS_SENT. -/
def Ctr.blocksSent : Ctr := 101
/-- FRAMES_SENT. -/
def Ctr.framesSent : Ctr := 102
/-- PREEMPTIONS. -/
def Ctr.preemptions : Ctr := 103
/-- DROPPED_NOTICE. -/
def Ctr.droppedNotice : Ctr := 104
/-- DROPPED_LAYER. -/
def Ctr.droppedLayer : Ctr := 105
/-- DROPPED_INTERVAL. -/
def Ctr.droppedInterval : Ctr := 106
/-- DROPPED_PROFILE. -/
def Ctr.droppedProfile : Ctr := 107
/-- NOTICES_RAISED. -/
def Ctr.noticesRaised : Ctr := 108
/-- NOTICE_FRAMES. -/
def Ctr.noticeFrames : Ctr := 109
/-- INTERVAL_FRAMES. -/
def Ctr.intervalFrames : Ctr := 110
/-- TIME_MARKS. -/
def Ctr.timeMarks : Ctr := 111
/-- TIME_STEPS. -/
def Ctr.timeSteps : Ctr := 112
/-- CRC_INJECTED. -/
def Ctr.crcInjected : Ctr := 113
/-! Counters of the MGU (R172). -/
/-- COMMANDS_TAKEN. -/
def Ctr.commandsTaken : Ctr := 114
/-- COMMANDS_REFUSED. -/
def Ctr.commandsRefused : Ctr := 115
/-- COMMANDS_DISCARDED. -/
def Ctr.commandsDiscarded : Ctr := 116
/-- The interval list of R160, in its order. -/
def intervalList : Vector Ctr 16 :=
  #v[Ctr.shotsFired, Ctr.withheldBusy, Ctr.withheldBudget, Ctr.weakShots, Ctr.lostCaptures,
    Ctr.firedAccepted, Ctr.strayBursts, Ctr.slippedBursts, Ctr.withheldNoBank,
    Ctr.profilesComplete, Ctr.profilesDegraded, Ctr.profilesVoid, Ctr.profilesAbandoned,
    Ctr.profilesObscured, Ctr.droppedLayer, Ctr.droppedProfile]

/-! ### Notice kinds (R157) -/

/-- The sixteen notice kinds, in the order of R157. -/
inductive NoticeKind where
  | layerNew | layerLost | skyChange | ceilingLow | ceilingOk | trip | driveLimit | budgetHold
  | profileStarved | slip | inboundOverrun | reportDrop | pathSyncChange | trackTableFull
  | candOverflow | timeStep
deriving DecidableEq, Repr

/-- A kind's bit in the notice set and in the mask (R175). -/
def NoticeKind.bit : NoticeKind → Nat
  | .layerNew => 0 | .layerLost => 1 | .skyChange => 2 | .ceilingLow => 3 | .ceilingOk => 4
  | .trip => 5 | .driveLimit => 6 | .budgetHold => 7 | .profileStarved => 8 | .slip => 9
  | .inboundOverrun => 10 | .reportDrop => 11 | .pathSyncChange => 12 | .trackTableFull => 13
  | .candOverflow => 14 | .timeStep => 15

/-- The set that holds one kind. -/
def NoticeKind.flag (k : NoticeKind) : BitVec 16 := 1#16 <<< k.bit

/-! ### Program sets (R113, R175) -/

/-- The set that holds one program. -/
def progSet (p : Prog) : BitVec 4 := 1#4 <<< p.val

/-- The four programs in order. -/
def allProgs : List Prog := [0, 1, 2, 3]

/-- The six banks in order. -/
def allBanks : List (Fin 6) := [0, 1, 2, 3, 4, 5]

end Sys2Proof.Machine
end

