-- ==== Sys2Proof/Machine/Operands.lean ====
section
/-! DEFINITION. Fields of payloads: how bytes carry numbers (R175), how each command block carries its
operands (R177) with the ranges that its owning rule gives them, and the same operands as bytes. A
reader answers none where a field is out of range; the command is then refused with BAD_VALUE. -/

namespace Sys2Proof.Machine

/-- The number in the `n` bytes of `p` from offset `off`, most significant byte first (R175). -/
def field (p : List Byte) (off n : Nat) : Nat :=
  ((p.drop off).take n).foldl (fun acc b => acc * 256 + b.toNat) 0

/-- The number `v` as `n` bytes, most significant byte first (R175). -/
def be : Nat → Nat → List Byte
  | 0, _ => []
  | n + 1, v => BitVec.ofNat 8 (v / 256 ^ n) :: be n v

/-- The signed number `v` as `n` bytes of two's complement (R175). -/
def beInt (n : Nat) (v : Int) : List Byte := be n (v % (256 ^ n : Nat)).toNat

/-- The two's complement reading of a field of `n` bytes (R175). -/
def signed (n v : Nat) : Int := if 2 * v < 256 ^ n then (v : Int) else (v : Int) - (256 ^ n : Nat)

/-- A two-valued enumeration of R175, whether it is the second named of its pair: code 0 is the first named
and code 1 the second, any other code is out of range (R176). -/
def boolCode (v : Nat) : Option Bool := if v = 0 then some false else if v = 1 then some true else none

/-- The answer that a code of yes/no or on/off gives: code 0 is yes and on, the first named, code 1 is no
and off (R175). DEDUCED (log entry 32). -/
def yesCode (v : Nat) : Option Bool := (boolCode v).map (!·)

/-- A program number, 0 to 3. -/
def progOf (v : Nat) : Option Prog := if h : v < 4 then some ⟨v, h⟩ else none

/-- A flag, or a two-valued enumeration, as a byte: 1 where set, or where it is the second named of its
pair (R175). -/
def bit1 (b : Bool) : Byte := if b then 1 else 0

/-- Yes or no, on or off, as a byte: 0 is yes and on, 1 is no and off (R175). DEDUCED (log entry 32). -/
def yesByte (b : Bool) : Byte := bit1 (!b)

/-! ### SET_PROGRAM (R166, R177) -/

/-- Background method codes (R175). -/
def bgOf (v : Nat) : Option BgMethod :=
  if v = 0 then some .dark else if v = 1 then some .tail else if v = 2 then some .none else Option.none

/-- Background method codes (R175). -/
def BgMethod.code : BgMethod → Byte
  | .dark => 0 | .tail => 1 | .none => 2

/-- The ranges of R166. -/
def ProgramRec.valid (r : ProgramRec) : Bool :=
  r.gateBase ≤ 2047 && 1 ≤ r.gateCount && r.gateCount ≤ 1024 && r.gateBase + r.gateCount ≤ 2048
    && 16 ≤ r.nTarget && r.nTarget ≤ 16384 && 64 ≤ r.eRef && r.eRef ≤ 4000
    && r.startDrive ≤ 255 && r.driveMax ≤ 255 && r.startDrive ≤ r.driveMax
    && r.tailGates ≤ 64 && r.tailGates ≤ r.gateCount && (r.bgMethod ≠ .tail || 1 ≤ r.tailGates)
    && r.corrBase ≤ 2047 && r.corrBase + r.gateCount ≤ 2048
    && r.thrBase ≤ 2047 && r.thrBase + r.gateCount ≤ 2048
    && r.detectStart ≤ r.gateCount - 1 && r.noiseFactor ≤ 255
    && 1 ≤ r.vvLimit && r.vvLimit ≤ 4294967295 && r.divider ≤ 255

/-- The operands of SET_PROGRAM: the program and its record. -/
def readProgram (p : List Byte) : Option (Prog × ProgramRec) :=
  match progOf (field p 0 1), yesCode (field p 1 1), boolCode (field p 10 1), bgOf (field p 13 1),
      yesCode (field p 21 1), boolCode (field p 22 1) with
  | some n, some en, some auto, some bg, some det, some role =>
    let r : ProgramRec :=
      { enabled := en, gateBase := field p 2 2, gateCount := field p 4 2, nTarget := field p 6 2,
        eRef := field p 8 2, autoServo := auto, startDrive := field p 11 1, driveMax := field p 12 1,
        bgMethod := bg, tailGates := field p 14 1, corrBase := field p 15 2, thrBase := field p 17 2,
        detectStart := field p 19 2, detection := det, hitsOnly := role,
        noiseFactor := field p 23 1, vvLimit := field p 24 4, divider := field p 28 1 }
    if r.valid then some (n, r) else none
  | _, _, _, _, _, _ => none

/-- A program record as SET_PROGRAM carries it (R177). -/
def programBytes (n : Prog) (r : ProgramRec) : List Byte :=
  be 1 n.val ++ [yesByte r.enabled] ++ be 2 r.gateBase ++ be 2 r.gateCount ++ be 2 r.nTarget
    ++ be 2 r.eRef ++ [bit1 r.autoServo] ++ be 1 r.startDrive ++ be 1 r.driveMax
    ++ [r.bgMethod.code] ++ be 1 r.tailGates ++ be 2 r.corrBase ++ be 2 r.thrBase
    ++ be 2 r.detectStart ++ [yesByte r.detection] ++ [bit1 r.hitsOnly] ++ be 1 r.noiseFactor
    ++ be 4 r.vvLimit ++ be 1 r.divider

/-! ### SET_FIRING and SET_SCHEDULE (R25, R177) -/

/-- The ranges of R25. -/
def Firing.valid (f : Firing) : Bool :=
  100 ≤ f.shotPeriod && f.shotPeriod ≤ 10000 && 512 ≤ f.recordLen && f.recordLen ≤ 4096
    && 10 ≤ f.burstTimeout && f.burstTimeout ≤ 1000 && f.budgetLimit ≤ 4193280
    && f.burstTimeout < f.shotPeriod

/-- The operands of SET_FIRING. -/
def readFiring (p : List Byte) : Option Firing :=
  let f : Firing := ⟨field p 0 2, field p 2 2, field p 4 2, field p 6 4⟩
  if f.valid then some f else none

/-- The firing settings as SET_FIRING carries them (R177). -/
def firingBytes (f : Firing) : List Byte :=
  be 2 f.shotPeriod ++ be 2 f.recordLen ++ be 2 f.burstTimeout ++ be 4 f.budgetLimit

/-- A schedule byte: kind × 16 + program, kind 0 SKIP, 1 FIRE, 2 DARK; a kind above 2 or a program
above 3 is out of range (R175, R176). -/
def slotOf (v : Nat) : Option SlotEntry :=
  match progOf (v % 16) with
  | none => none
  | some p => if v / 16 = 0 then some .skip else if v / 16 = 1 then some (.fire p)
              else if v / 16 = 2 then some (.dark p) else none

/-- A schedule entry as a byte (R175). -/
def SlotEntry.code : SlotEntry → Byte
  | .skip => 0
  | .fire p => BitVec.ofNat 8 (16 + p.val)
  | .dark p => BitVec.ofNat 8 (32 + p.val)

/-- The operands of SET_SCHEDULE. -/
def readSchedule (p : List Byte) : Option (Vector SlotEntry 32) :=
  if (List.range 32).all fun i => (slotOf (field p i 1)).isSome then
    some (Vector.ofFn fun i : Fin 32 => (slotOf (field p i.val 1)).getD .skip)
  else none

/-- The schedule as SET_SCHEDULE carries it (R177). -/
def scheduleBytes (v : Vector SlotEntry 32) : List Byte := v.toList.map SlotEntry.code

/-! ### Table loads (R51, R89, R109, R177) -/

/-- The operands of a table load: the start index and the entries. -/
structure TableLoad (α : Type) where
  start   : Nat
  entries : List α
deriving DecidableEq, Repr

/-- The operands of a table load whose entries `entry` reads at their offset, where `ok` accepts each
entry and at most `most` entries may come (check 1 of R51, R89 and R109). -/
def readLoad {α : Type} (most : Nat) (entry : List Byte → Nat → α) (ok : α → Bool) (p : List Byte) :
    Option (TableLoad α) :=
  let start := field p 0 2
  let count := field p 2 1
  let es := (List.range count).map fun k => entry p (3 + 3 * k)
  if start + count ≤ Config.tableSize && 1 ≤ count && count ≤ most && es.all ok then some ⟨start, es⟩
  else none

/-- The operands of LOAD_GATES (R51, check 1). -/
def readGates : List Byte → Option (TableLoad GateEntry) :=
  readLoad 63 (fun p o => ⟨field p o 2, field p (o + 2) 1⟩)
    (fun g => 1 ≤ g.width && g.width ≤ 64 && g.first + g.width ≤ 4096)

/-- The operands of LOAD_CORRECTION (R89, check 1). -/
def readCorrection : List Byte → Option (TableLoad CorrEntry) :=
  readLoad 84 (fun p o => ⟨field p o 2, field p (o + 2) 1⟩) (fun c => c.exp ≤ 23)

/-- The operands of LOAD_THRESHOLDS (R109, check 1). -/
def readThresholds : List Byte → Option (TableLoad Nat) :=
  readLoad 84 (fun p o => field p o 3) (fun t => t ≤ Config.betaMax)

/-! ### Tracking, sky, capture (R116, R145, R146) -/

/-- The ranges of R116. -/
def TrackParams.valid (t : TrackParams) : Bool :=
  3 ≤ t.histLen && t.histLen ≤ 10 && 1 ≤ t.confirm && t.confirm ≤ t.histLen
    && 1 ≤ t.loss && t.loss ≤ 15 && t.assocWin ≤ 4095 && t.mergeDist ≤ 4095
    && 1 ≤ t.smooth && t.smooth ≤ 8

/-- The operands of SET_TRACKING. -/
def readTracking (p : List Byte) : Option TrackParams :=
  let t : TrackParams :=
    ⟨field p 0 1, field p 1 1, field p 2 1, field p 3 2, field p 5 2, field p 7 1⟩
  if t.valid then some t else none

/-- The tracking parameters as SET_TRACKING carries them (R177). -/
def trackingBytes (t : TrackParams) : List Byte :=
  be 1 t.confirm ++ be 1 t.histLen ++ be 1 t.loss ++ be 2 t.assocWin ++ be 2 t.mergeDist
    ++ be 1 t.smooth

/-- The operands of SET_SKY: threshold, hysteresis, divider. -/
structure SkySettings where
  threshold  : Nat
  hysteresis : Nat
  divider    : Nat
deriving DecidableEq, Repr

/-- The operands of SET_SKY (R145). -/
def readSky (p : List Byte) : Option SkySettings :=
  let t := field p 0 2
  let h := field p 2 2
  let r := field p 4 1
  if t ≤ 4095 && h ≤ 4095 && 1 ≤ r then some ⟨t, h, r⟩ else none

/-- Capture condition codes (R175). -/
def condOf (v : Nat) : Option CaptureCond :=
  if v = 0 then some .none else if v = 1 then some .ceilingBelow else if v = 2 then some .obscured
  else if v = 3 then some .skyChange else if v = 4 then some .trackNew else Option.none

/-- Capture condition codes (R175). -/
def CaptureCond.code : CaptureCond → Byte
  | .none => 0 | .ceilingBelow => 1 | .obscured => 2 | .skyChange => 3 | .trackNew => 4

/-- The operands of SET_CAPTURE: the entry number, the condition, h and the program (R146). -/
structure CaptureSet where
  entry  : Fin 4
  cond   : CaptureCond
  height : Nat
  prog   : Prog
deriving DecidableEq, Repr

/-- The operands of SET_CAPTURE (R146). -/
def readCapture (p : List Byte) : Option CaptureSet :=
  match progOf (field p 0 1), condOf (field p 1 1), progOf (field p 4 1) with
  | some e, some c, some n =>
    if field p 2 2 ≤ 4095 then some ⟨e, c, field p 2 2, n⟩ else none
  | _, _, _ => none

/-! ### The other commands -/

/-- The operands of INJECT_ECHO as carried; R86 checks them against the program records. -/
structure EchoArgs where
  prog  : Nat
  first : Nat
  count : Nat
  amp   : Int
deriving DecidableEq, Repr

/-- The operands of INJECT_ECHO (R177). -/
def readEcho (p : List Byte) : EchoArgs :=
  ⟨field p 0 1, field p 1 2, field p 3 1, signed 3 (field p 4 3)⟩

/-- The operands of SET_REPORTING (R167). -/
structure Reporting where
  levels  : Levels
  mask    : BitVec 16
  period  : Nat
  timeout : Nat
deriving DecidableEq, Repr

/-- The operands of SET_REPORTING with the ranges of R167. -/
def readReporting (p : List Byte) : Option Reporting :=
  let l : Levels := ⟨field p 0 1, field p 1 1, field p 2 1, field p 3 1, field p 4 1⟩
  let per := field p 7 2
  let tmo := field p 9 1
  if l.response ≤ 3 && l.notice ≤ 3 && l.layer ≤ 3 && l.interval ≤ 3 && l.profile ≤ 3
      && per ≤ 3600 && 1 ≤ tmo then
    some ⟨l, BitVec.ofNat 16 (field p 5 2), per, tmo⟩
  else none

/-- The reporting settings as SET_REPORTING carries them (R177). -/
def reportingBytes (r : Reporting) : List Byte :=
  be 1 r.levels.response ++ be 1 r.levels.notice ++ be 1 r.levels.layer ++ be 1 r.levels.interval
    ++ be 1 r.levels.profile ++ be 2 r.mask.toNat ++ be 2 r.period ++ be 1 r.timeout

/-- The operands of TIME_MARK: seconds and microseconds (R159). -/
def readTimeMark (p : List Byte) : Option (Nat × Nat) :=
  if field p 4 4 ≤ 999999 then some (field p 0 4, field p 4 4) else none

/-- The operands of READ_COUNTERS: first identifier, count, clear flag (R169). The clear flag is bit 0
of its byte; bits without a meaning are ignored (R176). DEDUCED (log entry 8). -/
def readCounterRange (p : List Byte) : Option (Nat × Nat × Bool) :=
  let first := field p 0 1
  let count := field p 1 1
  if 1 ≤ count && count ≤ 63 && first + count ≤ Config.counterCount then
    some (first, count, field p 2 1 % 2 = 1)
  else none

end Sys2Proof.Machine
end

