-- ==== Sys2Proof/Machine/Flags.lean ====
section
/-! DEFINITION. The codes and flag bytes of outbound records (R175, R178, R179). -/

namespace Sys2Proof.Machine

/-- A flag byte: the value of bit i is the i-th entry of the list (R175: other bits are sent 0). -/
def flagBits : List Bool → Nat
  | [] => 0
  | b :: r => (if b then 1 else 0) + 2 * flagBits r

/-- A range index with its metres (R175). -/
def rangeBytes (r : Nat) : List Byte := be 2 r ++ be 2 (metres r)

/-- An optional range index with its metres, sent as 0 when absent (R175). -/
def optRangeBytes (r : Option Nat) : List Byte :=
  match r with
  | some v => rangeBytes v
  | none => be 4 0

/-- Seconds and microseconds of a timebase value. -/
def timeBytes (t : Stamp) : List Byte := be 4 t.sec ++ be 4 t.usec

/-- FCU state codes (R175). -/
def FcuState.code : FcuState → Byte
  | .halted => 0 | .running => 1 | .tripped => 2

/-- Sky state codes (R175). -/
def Sky.code : Sky → Byte
  | .unknown => 0 | .clear => 1 | .layered => 2 | .obscured => 3

/-- Track state codes (R175). -/
def TrackState.code : TrackState → Byte
  | .tentative => 0 | .confirmed => 1 | .coasting => 2

/-- Outcome codes (R175). -/
def ProfileOutcome.code : ProfileOutcome → Byte
  | .complete => 0 | .degraded => 1 | .void => 2

/-- Servo mode codes (R178). -/
def ServoMode.code : ServoMode → Byte
  | .manual => 0 | .acquire => 1 | .track => 2

/-- Trip cause codes (R178). -/
def TripCause.code : TripCause → Byte
  | .interlock => 0 | .overEnergy => 1 | .uncommandedEmission => 2 | .misfire => 3 | .noReceiver => 4

/-- Shot kind codes (R178). -/
def ShotKind.code : ShotKind → Byte
  | .fire => 0 | .dark => 1

/-- Parser state codes (R178). -/
def Parser.code : Parser → Byte
  | .hunt => 0 | .header _ _ => 1 | .samples _ => 2 | .trail => 3

/-- Bank state codes (R178). -/
def BankState.code : BankState → Byte
  | .free => 0 | .accumulating => 1 | .closed => 2 | .conditioning => 3

/-- Result Buffer state codes (R178). -/
def BufState.code : BufState → Byte
  | .free => 0 | .filling => 1 | .ready => 2 | .detecting => 3

/-- Outbound frame kind codes (R174); the tie order of R153 is the same number. -/
def FrameKind.code : FrameKind → Nat
  | .response => 1 | .notice => 2 | .layer => 3 | .interval => 4 | .profile => 5

/-- The results of R164. -/
inductive Result where
  | ok | replaced | badCommand | badLength | badValue | wrongState | inUse | busy | interlock
  | notReady | badConfig
deriving DecidableEq, Repr

/-- Result codes (R175). -/
def Result.code : Result → Byte
  | .ok => 0 | .replaced => 1 | .badCommand => 2 | .badLength => 3 | .badValue => 4
  | .wrongState => 5 | .inUse => 6 | .busy => 7 | .interlock => 8 | .notReady => 9
  | .badConfig => 10

/-- Whether a result is a refusal: any but OK and REPLACED (R164). -/
def Result.refusal : Result → Bool
  | .ok | .replaced => false
  | _ => true

end Sys2Proof.Machine
end

