-- ==== Sys2Proof/Machine/Link.lean ====
section
/-! DEFINITION. The outbound side of the Station Link Controller (chapter 8): the stores, the drop
policy, the notices, the blocks and their arbitration. It works on the SLC and the counters alone, so
nothing it does can touch another block. -/

namespace Sys2Proof.Machine

/-- The SLC with the counters: what the outbound side can change. -/
structure Link where
  slc  : Slc
  ctrs : Counters
deriving DecidableEq, Repr

/-- The part's SLC and counters. -/
def State.link (s : State) : Link := ⟨s.slc, s.ctrs⟩

/-- The part with another SLC and other counters. -/
def State.withLink (s : State) (l : Link) : State := { s with slc := l.slc, ctrs := l.ctrs }

/-- Counter `c` increased by one. -/
def Link.bump (l : Link) (c : Ctr) : Link := { l with ctrs := Counters.add l.ctrs c 1 }

/-! ### CRC and blocks (R150, R174) -/

/-- One bit of the CRC with polynomial x^16 + x^12 + x^5 + 1 (R150). -/
def crcBit (c : BitVec 16) : BitVec 16 := if c.msb then (c <<< 1) ^^^ 0x1021 else c <<< 1

/-- One byte of the CRC, most significant bit first (R150). -/
def crcByte (c : BitVec 16) (b : Byte) : BitVec 16 :=
  crcBit (crcBit (crcBit (crcBit (crcBit (crcBit (crcBit (crcBit (c ^^^ (b.setWidth 16 <<< 8)))))))))

/-- The CRC of R150 over a list of bytes, from FFFFH. -/
def crc16 (bs : List Byte) : BitVec 16 := bs.foldl crcByte 0xFFFF

/-- The start character (R174). -/
def startChar : Byte := 0xA5

/-- The characters of a block (R174); `invert` complements its CRC (R161). -/
def blockChars (kind tag segment : Byte) (last : Bool) (payload : List Byte) (invert : Bool) : List Byte :=
  let body := [kind, tag, segment, bit1 last] ++ be 2 payload.length ++ payload
  let crc := if invert then ~~~ crc16 body else crc16 body
  startChar :: body ++ be 2 crc.toNat

/-- How many blocks carry a frame: the smallest number of 256-byte blocks that holds it (R153). -/
def Frame.blocks (f : Frame) : Nat := max 1 ((f.size + 255) / Config.blockBytes)

/-- The payload of a frame's next block (R153). -/
def Frame.nextPayload (f : Frame) : List Byte :=
  (f.payload.drop (Config.blockBytes * f.sent)).take Config.blockBytes

/-- The characters of a frame's next block (R153, R174). -/
def Frame.nextChars (f : Frame) (invert : Bool) : List Byte :=
  blockChars (BitVec.ofNat 8 f.kind.code) f.tag (BitVec.ofNat 8 f.sent) (f.sent + 1 = f.blocks)
    f.nextPayload invert

/-! ### The stores (R154) -/

/-- The level of a frame kind (R153). -/
def Levels.of (l : Levels) : FrameKind → Nat
  | .response => l.response | .notice => l.notice | .layer => l.layer | .interval => l.interval
  | .profile => l.profile

/-- The frames of the descriptor queue: QUEUED, CURRENT and SUSPENDED (R154). -/
def Slc.described (s : Slc) : List Frame :=
  s.queue ++ (s.current.toList.filter (·.kind ≠ .response)) ++ s.stack

/-- Report Buffer bytes in use (R154). -/
def Slc.bytesUsed (s : Slc) : Nat := (s.described.map Frame.size).sum

/-- Descriptors in use (R154). -/
def Slc.descUsed (s : Slc) : Nat := s.described.length

/-- Response Queue entries in use: a response holds its entry until its block completes (R154). -/
def Slc.responsesUsed (s : Slc) : Nat :=
  s.responses.length + (s.current.toList.filter (·.kind = .response)).length

/-- Whether a frame of `size` bytes finds room and a descriptor (R156). -/
def Slc.fits (s : Slc) (size : Nat) : Bool :=
  s.bytesUsed + size ≤ Config.reportBytes && s.descUsed < Config.descriptors

/-! ### Choosing frames (R155, R156) -/

/-- Whether `a` is sent before `b` whatever their ages: a smaller level, or the same level and an
earlier place in the tie order (R155). -/
def Frame.before (a b : Frame) : Bool :=
  a.level < b.level || (a.level = b.level && a.kind.code < b.kind.code)

/-- The frame of a list, oldest first, that is sent first (R155). -/
def firstToSend : List Frame → Option Frame
  | [] => none
  | f :: r =>
    match firstToSend r with
    | none => some f
    | some g => if g.before f then some g else some f

/-- The highest pending frame: a response or a QUEUED frame (R155). -/
def Slc.highest (s : Slc) : Option Frame := firstToSend (s.responses ++ s.queue)

/-- A pending frame taken out of its store. -/
def Slc.without (s : Slc) (f : Frame) : Slc :=
  if f.kind = .response then { s with responses := s.responses.erase f }
  else { s with queue := s.queue.erase f }

/-- The QUEUED frame given up first for a frame of level `lv`: of strictly lower priority, with the
largest level number, then the latest in tie order, then the oldest (R156). -/
def victim (lv : Nat) : List Frame → Option Frame
  | [] => none
  | f :: r =>
    match victim lv r with
    | none => if lv < f.level then some f else none
    | some g => if lv < f.level && !(f.before g) then some f else some g

/-! ### Starting blocks (R155, R157, R161) -/

/-- The payload of a NOTICE frame: the whole pending set with the timebase (R157, R179). -/
def Slc.noticePayload (s : Slc) : List Byte :=
  timeBytes s.time ++ [bit1 s.time.valid] ++ be 2 s.noticeSet.toNat

/-- A frame as its next block starts: a NOTICE frame's content is fixed at its first block (R157). -/
def Slc.filled (s : Slc) (f : Frame) : Frame :=
  if f.kind = .notice ∧ f.sent = 0 then { f with payload := s.noticePayload } else f

/-- Frame `f` is CURRENT and its next block starts: a NOTICE frame's first block takes the pending set
and clears it (R157), and a set CRC-inject flag inverts the CRC of this one block (R161), whatever its
kind: also where it is the response of a second INJECT_CRC (DESIGN CHOICE, log entry 29). -/
def Link.startBlock (l : Link) (f : Frame) : Link :=
  let f' := l.slc.filled f
  let c1 := if f.kind = .notice ∧ f.sent = 0 then Counters.add l.ctrs Ctr.noticeFrames 1 else l.ctrs
  let c2 := if l.slc.crcInject then Counters.add c1 Ctr.crcInjected 1 else c1
  { slc :=
      { l.slc with
        current := some f'
        phase := .sending
        txBlock := f'.nextChars l.slc.crcInject
        crcInject := false
        noticeSet := if f.kind = .notice ∧ f.sent = 0 then 0 else l.slc.noticeSet }
    ctrs := c2 }

/-- A pending frame leaves its store, becomes CURRENT and starts (R155). -/
def Link.startPending (l : Link) (f : Frame) : Link :=
  Link.startBlock { l with slc := l.slc.without f } f

/-- The first row of R155: on an idle line the highest pending frame starts. -/
def Link.kick (l : Link) : Link :=
  if l.slc.phase = .idle then
    match l.slc.highest with
    | some f => l.startPending f
    | none => l
  else l

/-- The line held while one event is taken as a whole: nothing starts before `Link.release` (log entry
33). -/
def Link.hold (l : Link) : Link :=
  if l.slc.phase = .idle then { l with slc := { l.slc with phase := .boundary } } else l

/-- The line let go at the end of that event, `was` its phase before the hold: a line that was idle starts
the highest pending frame (the first row of R155). -/
def Link.release (l : Link) (was : LinePhase) : Link :=
  if was = .idle then Link.kick { l with slc := { l.slc with phase := .idle } } else l

/-! ### The drop policy (R156) -/

/-- The drop counter of a kind (R156). Responses are never placed by the drop policy. -/
def FrameKind.dropCtr : FrameKind → Ctr
  | .notice => Ctr.droppedNotice
  | .layer => Ctr.droppedLayer
  | .interval => Ctr.droppedInterval
  | .profile | .response => Ctr.droppedProfile

/-- What a placement answers: the stores after it, whether the frame was enqueued, and whether any
frame was discarded or dropped. -/
structure Placed where
  link     : Link
  enqueued : Bool
  lost     : Bool
deriving DecidableEq, Repr

/-- The frame joins the descriptor queue QUEUED and takes the next outbound tag (R153, R156). -/
def Link.enqueue (l : Link) (f : Frame) : Link :=
  { l with slc := { l.slc with queue := l.slc.queue ++ [{ f with tag := l.slc.tagCounter }]
                               tagCounter := l.slc.tagCounter + 1 } }

/-- A QUEUED frame is discarded and counted (R156). -/
def Link.discard (l : Link) (g : Frame) : Link :=
  Link.bump { l with slc := { l.slc with queue := l.slc.queue.erase g } } g.kind.dropCtr

/-- The placement of a frame (R156), tried at most `n` times. `lost` says whether a frame has been
discarded already. -/
def Link.placeLoop : Nat → Link → Frame → Bool → Placed
  | 0, l, f, _ => ⟨l.bump f.kind.dropCtr, false, true⟩
  | n + 1, l, f, lost =>
    if l.slc.fits f.size then ⟨l.enqueue f, true, lost⟩
    else
      match victim f.level l.slc.queue with
      | some g => Link.placeLoop n (l.discard g) f true
      | none => ⟨l.bump f.kind.dropCtr, false, true⟩

/-- The placement of a frame (R156). Every try but the last discards a QUEUED frame. -/
def Link.place (l : Link) (f : Frame) : Placed := Link.placeLoop (l.slc.queue.length + 1) l f false

/-! ### Notices (R157, R158) -/

/-- A raise sets the kind's flag and is counted (R157). -/
def Link.setFlag (l : Link) (k : NoticeKind) : Link :=
  { slc := { l.slc with noticeSet := l.slc.noticeSet ||| k.flag }
    ctrs := Counters.add l.ctrs Ctr.noticesRaised 1 }

/-- A NOTICE frame as it is offered: 11 bytes whose content is not fixed yet (R157, R179). -/
def Slc.noticeFrame (s : Slc) : Frame := ⟨.notice, s.levels.notice, 0, 11, [], 0, .nothing⟩

/-- A notice attempt (R157): unless a NOTICE frame is QUEUED, one is offered. If that placement lost a
frame, the REPORT_DROP flag is set without a further attempt (R158). -/
def Link.noticeAttempt (l : Link) : Link :=
  if l.slc.queue.any (·.kind = .notice) then l
  else
    let p := l.place l.slc.noticeFrame
    Link.kick (if p.lost then p.link.setFlag .reportDrop else p.link)

/-- Whether a kind is masked (R157, R175). -/
def Slc.masked (s : Slc) (k : NoticeKind) : Bool := s.noticeMask.getLsbD k.bit

/-- Whether an unmasked kind's flag is set (R157). -/
def Slc.unmaskedPending (s : Slc) : Bool := s.noticeSet &&& ~~~ s.noticeMask ≠ 0

/-- A raise of a notice kind (R157). -/
def Link.raise (l : Link) (k : NoticeKind) : Link :=
  if l.slc.masked k then l.setFlag k else (l.setFlag k).noticeAttempt

/-- A notice attempt if an unmasked kind's flag is set (R157). -/
def Link.attemptIfPending (l : Link) : Link :=
  if l.slc.unmaskedPending then l.noticeAttempt else l

/-- A raise by any block of the part. -/
def State.raise (s : State) (k : NoticeKind) : State := s.withLink (s.link.raise k)

/-! ### Offers and responses -/

/-- A frame other than a response or a NOTICE, offered with its payload at the level of its kind now in
force (R153, R156); REPORT_DROP is raised after a placement that lost a frame (R158). The answer says
whether the frame was enqueued. -/
def Link.offer (l : Link) (kind : FrameKind) (payload : List Byte) : Link × Bool :=
  let p := l.place ⟨kind, l.slc.levels.of kind, 0, payload.length, payload, 0, .nothing⟩
  let l1 := p.link.kick
  (if p.lost then l1.raise .reportDrop else l1, p.enqueued)

/-- A response joins the Response Queue at the RESPONSE level now in force (R164). -/
def Link.putResponse (l : Link) (tag : Byte) (payload : List Byte) (after : AfterSend) : Link :=
  let f : Frame := ⟨.response, l.slc.levels.response, tag, payload.length, payload, 0, after⟩
  Link.kick { l with slc := { l.slc with responses := l.slc.responses ++ [f] } }

/-! ### Arbitration at a block boundary (R155) -/

/-- Rows 2 and 3 of R155: the CURRENT frame `f` has more blocks. -/
def Link.arbitrateMore (l : Link) (f : Frame) : Link :=
  match l.slc.highest with
  | some g =>
    if g.level < f.level ∧ l.slc.stack.length < Config.stackSlots then
      Link.startPending (Link.bump { l with slc := { l.slc with stack := f :: l.slc.stack } } Ctr.preemptions) g
    else l.startBlock f
  | none => l.startBlock f

/-- Rows 4 to 7 of R155: the block that completed ended its frame. -/
def Link.arbitrateEnd (l : Link) : Link :=
  match l.slc.stack with
  | [] =>
    match l.slc.highest with
    | some g => l.startPending g
    | none => { l with slc := { l.slc with phase := .idle, current := none, txBlock := [] } }
  | top :: below =>
    match l.slc.highest with
    | some g =>
      if g.level < top.level then l.startPending g
      else Link.startBlock { l with slc := { l.slc with stack := below } } top
    | none => Link.startBlock { l with slc := { l.slc with stack := below } } top

end Sys2Proof.Machine
end

