-- ==== Sys2Proof/Machine/Gau.lean ====
section
/-! DEFINITION. The Gate Accumulation Unit (chapter 3): binning, the staging vector, the Bank Pool, the
opening, settling, closing and abandoning of profiles. -/

namespace Sys2Proof.Machine

/-! ### Bank Pool (R56 to R66) -/

/-- The ACCUMULATING bank of program `p` (R56). -/
def Gau.accBank (g : Gau) (p : Prog) : Option (Fin 6) :=
  allBanks.find? fun b => g.banks[b].state = .accumulating && g.banks[b].prog = p

/-- The lowest-numbered FREE bank (R58). -/
def Gau.freeBank (g : Gau) : Option (Fin 6) := allBanks.find? fun b => g.banks[b].state = .free

/-- The ACCUMULATING bank whose own-shot mark holds `slot` (R61). -/
def Gau.ownBank (g : Gau) (slot : Fin 32) : Option (Fin 6) :=
  allBanks.find? fun b => g.banks[b].state = .accumulating && g.banks[b].ownShot = some slot

/-- The GAU with another record in bank `b`. -/
def Gau.setBank (g : Gau) (b : Fin 6) (k : Bank) : Gau := { g with banks := g.banks.set b k }

/-- The part with another GAU. -/
def State.withGau (s : State) (g : Gau) : State := { s with gau := g }

/-- A bank as it is opened for `p` (R58). -/
def Bank.opened (p : Prog) (r : ProgramRec) (seq : Nat) (t : Stamp) : Bank where
  state := .accumulating
  prog := p
  copy := r
  seq := seq
  openTime := t
  elapsed := 0
  ownShot := none
  nAcc := 0
  dAcc := 0
  eSum := 0
  gates := List.replicate r.gateCount ⟨0, 0, 0⟩
  outcome := none
  waitCounted := false

/-- Bank `b` opened for `p`: the program copy, the next sequence number and the open time are taken and
the starved flag is cleared (R58, R59, R66). -/
def State.openBank (s : State) (p : Prog) (b : Fin 6) : State :=
  let k := Bank.opened p s.progs[p] s.gau.nextSeq[p] s.slc.time
  let g := { s.gau.setBank b k with
             nextSeq := s.gau.nextSeq.set p (nextSeqOf s.gau.nextSeq[p])
             starved := s.gau.starved.set p false }
  State.bump (s.withGau g) Ctr.profilesOpened

/-- A refusal NO_BANK (R59): counted, and the first of a spell raises PROFILE_STARVED. -/
def State.starve (s : State) (p : Prog) : State :=
  let s1 := s.bump Ctr.withheldNoBank
  if s.gau.starved[p] then s1
  else
    let s2 := s1.withGau { s1.gau with starved := s1.gau.starved.set p true }
    (s2.bump Ctr.starvationSpells).raise .profileStarved

/-- The FCU's request for p's bank at a FIRE slot (R58): the state after it and the bank granted, none
for NO_BANK. -/
def State.bankRequest (s : State) (p : Prog) : State × Option (Fin 6) :=
  match s.gau.accBank p with
  | some b => (s, some b)
  | none =>
    match s.gau.freeBank with
    | some b => (s.openBank p b, some b)
    | none => (s.starve p, none)

/-- The outcome of a profile (R63). -/
def outcomeOf (nAcc nTarget : Nat) : ProfileOutcome :=
  if nTarget ≤ 2 * nAcc then .complete else if 1 ≤ nAcc then .degraded else .void

/-- The counter of an outcome (R63). -/
def ProfileOutcome.ctr : ProfileOutcome → Ctr
  | .complete => Ctr.profilesComplete
  | .degraded => Ctr.profilesDegraded
  | .void => Ctr.profilesVoid

/-- Bank `b` closes: its outcome is decided and it joins the Conditioning Queue (R62, R63, R67). -/
def State.closeBank (s : State) (b : Fin 6) : State :=
  let k := s.gau.banks[b]
  let o := outcomeOf k.nAcc k.copy.nTarget
  let g := { s.gau.setBank b { k with state := .closed, outcome := some o, waitCounted := false } with
             queue := s.gau.queue ++ [b] }
  State.bump (s.withGau g) o.ctr

/-- A bank closes when its window is complete and its own shot settled (R62). -/
def State.closeIfDone (s : State) (b : Fin 6) : State :=
  let k := s.gau.banks[b]
  if k.elapsed = k.copy.nTarget ∧ k.ownShot = none then s.closeBank b else s

/-- A granted FIRE slot counted against its bank (R60). `fired` is the slot index of a shot that was
fired; a withheld slot gives none. -/
def State.countSlot (s : State) (b : Fin 6) (fired : Option (Fin 32)) : State :=
  let k := s.gau.banks[b]
  let mark := match fired with | some t => some t | none => k.ownShot
  if k.elapsed < k.copy.nTarget then
    let s1 := s.withGau (s.gau.setBank b { k with elapsed := k.elapsed + 1, ownShot := mark })
    match fired with
    | some _ => s1
    | none => s1.closeIfDone b
  else
    (s.withGau (s.gau.setBank b { k with ownShot := mark })).bump Ctr.slotsPastWindow

/-! ### Staging vector (R53 to R55) -/

/-- The part with another staging vector. -/
def State.withStaging (s : State) (v : Staging) : State := s.withGau { s.gau with staging := v }

/-- An empty vector opened for a capture: one bin for each gate of the program (R53). -/
def State.freshVec (s : State) (r : OpenReq) : StageVec :=
  ⟨r.prog, r.kind, r.energy, List.replicate s.progs[r.prog].gateCount ⟨0, 0⟩⟩

/-- The staging vector is opened, or the open is held while a commit is in progress (R53). -/
def State.openStaging (s : State) (r : OpenReq) : State :=
  match s.gau.staging with
  | .committing v _ => s.withStaging (.committing v (some r))
  | _ => s.withStaging (.staging (s.freshVec r))

/-- The vector is discarded and a held open cancelled (R53, R55). -/
def State.discardStaging (s : State) : State := s.withStaging .idle

/-- The position of the first gate of a run that covers range index `k` (R54). -/
def gateOf : List GateEntry → Nat → Option Nat
  | [], _ => none
  | g :: r, k =>
    if g.first ≤ k ∧ k < g.first + g.width then some 0
    else (gateOf r k).map (· + 1)

/-- The gate entries of a program's run (R50). -/
def Gau.run (g : Gau) (r : ProgramRec) : List GateEntry :=
  Tab.readRun GateEntry.reset g.gateMap r.gateBase r.gateCount

/-- A sample added to its gate (R54); a saturated mark counts for a FIRE capture only. -/
def Bin.plus (b : Bin) (code : Nat) (sat : Bool) : Bin :=
  ⟨b.sum + code, if sat then b.sat + 1 else b.sat⟩

/-- The vector with one sample binned (R54). -/
def StageVec.take (v : StageVec) (run : List GateEntry) (k code : Nat) (sat : Bool) : StageVec :=
  match gateOf run k with
  | none => v
  | some g => { v with bins := v.bins.modify g fun b => b.plus code (sat && v.kind = .fire) }

/-- The GAU takes a sample with its range index and its saturated mark (R54). -/
def State.binSample (s : State) (k code : Nat) (sat : Bool) : State :=
  match s.gau.staging with
  | .staging v => s.withStaging (.staging (v.take (s.gau.run s.progs[v.prog]) k code sat))
  | _ => s

/-- A bank with an accepted fired shot added (R61). -/
def Bank.addShot (k : Bank) (v : StageVec) : Bank :=
  { k with
    gates := List.zipWith (fun g b => { g with sig := g.sig + b.sum, sat := g.sat + b.sat }) k.gates v.bins
    eSum := k.eSum + v.energy
    nAcc := k.nAcc + 1 }

/-- A bank with an accepted dark capture added (R64). -/
def Bank.addDark (k : Bank) (v : StageVec) : Bank :=
  { k with
    gates := List.zipWith (fun g b => { g with dark := g.dark + b.sum }) k.gates v.bins
    dAcc := k.dAcc + 1 }

/-- The vector's contents while it can still be committed. -/
def Staging.contents : Staging → Option StageVec
  | .staging v => some v
  | _ => none

/-- The commit of an accepted fired shot into the bank that holds its mark (R55, R61). -/
def State.commitFire (s : State) (slot : Fin 32) : State :=
  match s.gau.staging.contents, s.gau.ownBank slot with
  | some v, some b =>
    (s.withGau (s.gau.setBank b (s.gau.banks[b].addShot v))).withStaging (.committing v none)
  | _, _ => s.discardStaging

/-- An accepted dark capture of program `p` (R55, R64). -/
def State.commitDark (s : State) (p : Prog) : State :=
  match s.gau.accBank p with
  | none => (s.discardStaging).bump Ctr.darkNoBank
  | some b =>
    if s.gau.banks[b].dAcc = Config.darkCap then (s.discardStaging).bump Ctr.darkOverCap
    else
      match s.gau.staging.contents with
      | some v =>
        ((s.withGau (s.gau.setBank b (s.gau.banks[b].addDark v))).withStaging
          (.committing v none)).bump Ctr.darkAdded
      | none => s.discardStaging

/-- The settlement of a fired shot: its bank's own-shot mark is cleared, which may close it (R61, R62). -/
def State.settleOwn (s : State) (slot : Fin 32) : State :=
  match s.gau.ownBank slot with
  | none => s
  | some b =>
    (s.withGau (s.gau.setBank b { s.gau.banks[b] with ownShot := none })).closeIfDone b

/-! ### Abandonment and tables -/

/-- How many banks are ACCUMULATING. -/
def Gau.accCount (g : Gau) : Nat :=
  (allBanks.filter fun b => g.banks[b].state = .accumulating).length

/-- STOP and trips abandon every ACCUMULATING bank and discard the staging vector (R65). -/
def State.abandon (s : State) : State :=
  let g := { s.gau with
             banks := s.gau.banks.map fun k => if k.state = .accumulating then Bank.freed else k
             staging := .idle }
  (s.withGau g).bumpBy Ctr.profilesAbandoned s.gau.accCount

/-- Whether a run `[start, start + n)` touches the gate run of a CLOSED or CONDITIONING bank (R51). -/
def Gau.runWaiting (g : Gau) (start n : Nat) : Bool :=
  allBanks.any fun b =>
    (g.banks[b].state = .closed || g.banks[b].state = .conditioning)
      && runsMeet start n g.banks[b].copy.gateBase g.banks[b].copy.gateCount

/-- Whether a run touches the gate run of an enabled program (R51). -/
def State.runEnabled (s : State) (start n : Nat) : Bool :=
  allProgs.any fun p =>
    s.progs[p].enabled && runsMeet start n s.progs[p].gateBase s.progs[p].gateCount

/-- The index within a run of its first entry that fails R52, `prevEnd` being where the entry before
ends (0 before the first entry). -/
def runFault (len : Nat) : Nat → List GateEntry → Option Nat
  | _, [] => none
  | prevEnd, g :: r =>
    if len < g.first + g.width ∨ g.first < prevEnd then some 0
    else (runFault len (g.first + g.width) r).map (· + 1)

/-- The first enabled program whose run fails R52, with the index of its first failing entry. -/
def State.gateFault (s : State) : Option (Prog × Nat) :=
  allProgs.findSome? fun p =>
    if s.progs[p].enabled then
      (runFault s.fcu.firing.recordLen 0 (s.gau.run s.progs[p])).map fun i => (p, i)
    else none

end Sys2Proof.Machine
end

