-- ==== Sys2Proof/Machine/Fcu.lean ====
section
/-! DEFINITION. The Fire Control Unit (chapter 1): the slot decision, the budget window, the energy
judgement and the servo, the trips, and the settlement of captures. -/

namespace Sys2Proof.Machine

/-- The part with another FCU. -/
def State.withFcu (s : State) (f : Fcu) : State := { s with fcu := f }

/-- The part with another RSP. -/
def State.withRsp (s : State) (r : Rsp) : State := { s with rsp := r }

/-- The part with another PCU. -/
def State.withPcu (s : State) (p : Pcu) : State := { s with pcu := p }

/-! ### What STOP and a trip drop (R8, R21, R27, R41, R65, R87) -/

/-- Whether the parser is in SAMPLES for the shot in flight (R41). -/
def State.samplingShot (s : State) : Bool :=
  match s.fcu.shot, s.rsp.parser with
  | some _, .samples b => !b.path
  | _, _ => false

/-- A capture dropped in SAMPLES sends the parser to HUNT and its burst is counted stray once (R41). -/
def State.dropBurst (s : State) : State :=
  if s.samplingShot then
    State.bump (s.withRsp { s.rsp with parser := .hunt, truncTimer := none }) Ctr.strayBursts
  else s

/-- How many pending injection records are not empty (R87). -/
def Pcu.pendingCount (p : Pcu) : Nat := (p.pendingInj.toList.filter Option.isSome).length

/-- Every pending injection record is emptied, each one counted (R87). -/
def State.clearInjections (s : State) : State :=
  (s.withPcu { s.pcu with pendingInj := Vector.replicate 4 none }).bumpBy Ctr.injectionsCleared
    s.pcu.pendingCount

/-- What STOP and a trip have in common: DRIVE is 0, the shot in flight is dropped with its burst, the
GAU abandons its open profiles, the PCU clears its injections (R21, R27). -/
def State.ceaseFire (s : State) : State :=
  let s1 := s.dropBurst
  let s2 := s1.withFcu { s1.fcu with drive := 0, shot := none }
  s2.abandon.clearInjections

/-! ### Trips (R21 to R24) -/

/-- The trip counter of a cause (R29). -/
def TripCause.ctr : TripCause → Ctr
  | .interlock => Ctr.tripsInterlock
  | .overEnergy => Ctr.tripsOverEnergy
  | .uncommandedEmission => Ctr.tripsUncommanded
  | .misfire => Ctr.tripsMisfire
  | .noReceiver => Ctr.tripsNoReceiver

/-- A trip of the RUNNING FCU with its cause and slot index (R21, R23). -/
def State.tripFcu (s : State) (cause : TripCause) (slot : Fin 32) : State :=
  let s1 := s.ceaseFire
  let s2 := s1.withFcu
    { s1.fcu with
      state := .tripped
      alert := true
      trip := some ⟨cause, s.slc.time, slot, false⟩
      weakRun := 0
      lostRun := 0 }
  (s2.bump cause.ctr).raise .trip

/-- The slot decided most recently: the pointer minus one, modulo 32 (R23). -/
def Fcu.lastSlot (f : Fcu) : Fin 32 := f.pointer - 1

/-! ### Slot times (R2 to R7, R10, R11) -/

/-- A charge enters the budget window, the oldest one leaves, and the pointer advances (R3, R10). -/
def State.enterCharge (s : State) (charge : Nat) : State :=
  s.withFcu { s.fcu with
    window := charge :: s.fcu.window.take (Config.windowSlots - 1)
    pointer := s.fcu.pointer + 1 }

/-- The budget test of R10 for a charge: the newest 1023 charges and it stay within the limit. -/
def Fcu.budgetOk (f : Fcu) (charge : Nat) : Bool :=
  (f.window.take (Config.windowSlots - 1)).sum + charge ≤ f.firing.budgetLimit

/-- A CAPTURE pulse, with FIRE or PATH_TEST where asked: the shot tag advances and the burst timeout
starts (R6, R7, R9, R44). -/
def State.pulse (s : State) (fire path : Bool) : State :=
  s.withFcu { s.fcu with
    shotTag := s.fcu.shotTag + 1
    burstTimer := some ⟨s.fcu.shotTag + 1, s.fcu.firing.burstTimeout⟩
    pulses := ⟨fire, true, path⟩ }

/-- The shot in flight is set to a capture just pulsed (R6, R7). -/
def State.setShot (s : State) (kind : ShotKind) (p : Prog) : State :=
  s.withFcu { s.fcu with shot := some ⟨kind, p, s.fcu.pointer, s.fcu.shotTag, false, false⟩ }

/-- A shot fired for program `p` (R6), less its charge; a fired shot ends a spell of budget withholds (R11). -/
def State.fireShot (s : State) (p : Prog) : State :=
  let s1 := s.withFcu { s.fcu with drive := (s.fcu.servos[p]).drive, budgetHold := false }
  ((s1.pulse true false).setShot .fire p).bump Ctr.shotsFired

/-- A dark capture for program `p` (R7). -/
def State.fireDark (s : State) (p : Prog) : State :=
  ((s.pulse false false).setShot .dark p).bump Ctr.darkCaptures

/-- A slot withheld BUDGET: counted, and the first of a spell raises BUDGET_HOLD (R11). -/
def State.holdBudget (s : State) : State :=
  let s1 := s.bump Ctr.withheldBudget
  if s.fcu.budgetHold then s1
  else (s1.withFcu { s1.fcu with budgetHold := true }).raise .budgetHold

/-- The decision of a FIRE slot for which bank `b` has been granted (R5, R60). -/
def State.fireSlot (s : State) (p : Prog) (b : Fin 6) : State :=
  if s.fcu.shot.isSome then ((s.bump Ctr.withheldBusy).countSlot b none).enterCharge 0
  else if s.fcu.budgetOk s.progs[p].eRef then
    ((s.fireShot p).countSlot b (some s.fcu.pointer)).enterCharge s.progs[p].eRef
  else ((s.holdBudget).countSlot b none).enterCharge 0

/-- The slot decision in RUNNING (R5). -/
def State.slotRunning (s : State) : State :=
  match s.fcu.schedule[s.fcu.pointer] with
  | .skip => s.enterCharge 0
  | .dark p =>
    if s.progs[p].enabled then
      if s.fcu.shot.isSome then (s.bump Ctr.withheldBusy).enterCharge 0
      else (s.fireDark p).enterCharge 0
    else s.enterCharge 0
  | .fire p =>
    if s.progs[p].enabled then
      match s.bankRequest p with
      | (s1, some b) => s1.fireSlot p b
      | (s1, none) => s1.enterCharge 0
    else s.enterCharge 0

/-- The path-check capture of a slot time (R44). -/
def State.pathSlot (s : State) : State :=
  let c := s.rsp.path
  if c.running ∧ c.capture = none ∧ c.issued < c.n then
    let s1 := s.pulse false true
    s1.withRsp { s1.rsp with
      path := { c with
        issued := c.issued + 1
        capture := some ⟨s1.fcu.shotTag, s.fcu.firing.recordLen, false⟩ } }
  else s

/-- A slot time while HALTED or TRIPPED (R4); a path check runs only while HALTED. -/
def State.slotIdle (s : State) : State :=
  (if s.fcu.state = .halted then s.pathSlot else s).enterCharge 0

/-- A slot time, less what it sets off in the profile path: the next shot period begins at the period
now in force (R2), and the slot is decided. -/
def State.slot (s : State) : State :=
  let s1 := s.withFcu { s.fcu with timerPeriod := s.fcu.firing.shotPeriod, pulses := Pulses.quiet }
  if s1.fcu.state = .running then s1.slotRunning else s1.slotIdle

/-! ### Energy judgement (R12 to R16) -/

/-- The histogram counter of a reading (R16). -/
def energyBin (e ref : Nat) : Ctr :=
  if 2 * e < ref then Ctr.energyBin1
  else if 4 * e < 3 * ref then Ctr.energyBin2
  else if 10 * e < 9 * ref then Ctr.energyBin3
  else if e < ref then Ctr.energyBin4
  else if 10 * e < 11 * ref then Ctr.energyBin5
  else if 4 * e ≤ 5 * ref then Ctr.energyBin6
  else Ctr.energyBin7

/-- The drive moved by `step`, clamped to 0 … drive max (R18, R19). -/
def driveBy (drive : Nat) (step : Int) (driveMax : Nat) : Nat :=
  (clampInt 0 driveMax ((drive : Int) + step)).toNat

/-- An ACQUIRE servo fed with the error `e` (R18). -/
def Servo.feedAcquire (v : Servo) (r : ProgramRec) (e : Int) : Servo :=
  let d := driveBy v.drive (clampInt (-16) 16 (roundDiv e 64)) r.driveMax
  let run := if e.natAbs ≤ r.eRef / 16 then v.lockRun + 1 else 0
  if 8 ≤ run then { v with drive := d, lockRun := 8, mode := .track, groupSum := 0, groupCount := 0 }
  else { v with drive := d, lockRun := run }

/-- A TRACK servo at the sixteenth shot of its group, whose error sum is `sum` (R19). -/
def Servo.endGroup (v : Servo) (r : ProgramRec) (sum : Int) : Servo :=
  let mean := roundDiv sum 16
  let v0 := { v with groupSum := 0, groupCount := 0 }
  if r.eRef / 8 < mean.natAbs then { v0 with mode := .acquire, lockRun := 0 }
  else if r.eRef / 32 < mean.natAbs then { v0 with drive := driveBy v.drive mean.sign r.driveMax }
  else v0

/-- A TRACK servo fed with the error `e` (R19). -/
def Servo.feedTrack (v : Servo) (r : ProgramRec) (e : Int) : Servo :=
  if v.groupCount + 1 = 16 then v.endGroup r (v.groupSum + e)
  else { v with groupSum := v.groupSum + e, groupCount := v.groupCount + 1 }

/-- A servo fed with the error `e`, less the DRIVE_LIMIT flag; a MANUAL servo is not fed (R17 to R19). -/
def Servo.feed (v : Servo) (r : ProgramRec) (e : Int) : Servo :=
  match v.mode with
  | .manual => v
  | .acquire => v.feedAcquire r e
  | .track => v.feedTrack r e

/-- Whether an update that made `v` raises DRIVE_LIMIT (R20). -/
def Servo.atLimit (v : Servo) (r : ProgramRec) (e : Int) : Bool :=
  0 < e && v.drive = r.driveMax && v.armed

/-- The armed flag after an update that made `v` (R20). -/
def Servo.rearm (v : Servo) (r : ProgramRec) (e : Int) : Servo :=
  if v.atLimit r e then { v with armed := false }
  else if v.drive < r.driveMax then { v with armed := true }
  else v

/-- The counter of a mode change that a feeding made (R18, R19). -/
def lockEvent (before after : ServoMode) : Option Ctr :=
  match before, after with
  | .acquire, .track => some Ctr.servoLocks
  | .track, .acquire => some Ctr.servoUnlocks
  | _, _ => none

/-- Program p's servo fed with a reading `e` (R18 to R20). -/
def State.feedServo (s : State) (p : Prog) (e : Nat) : State :=
  let r := s.progs[p]
  let v := s.fcu.servos[p]
  if v.mode = .manual then s
  else
    let err : Int := (r.eRef : Int) - (e : Int)
    let v1 := v.feed r err
    let s1 := s.withFcu { s.fcu with servos := s.fcu.servos.set p (v1.rearm r err) }
    let s2 := match lockEvent v.mode v1.mode with | some c => s1.bump c | none => s1
    if v1.atLimit r err then s2.raise .driveLimit else s2

/-- A header matched to the shot in flight: the header-taken mark is set and the lost run is 0 (R8, R15). -/
def State.matchShot (s : State) (sh : Shot) : State :=
  s.withFcu { s.fcu with shot := some { sh with headerTaken := true }, lostRun := 0 }

/-- A WEAK shot (R12, R14): marked, counted, the servo fed, the bin recorded, and a trip at 16 in a row. -/
def State.judgeWeak (s : State) (sh : Shot) (e : Nat) : State :=
  let run := s.fcu.weakRun + 1
  let s1 := (s.withFcu { s.fcu with
    shot := some { sh with headerTaken := true, weak := true }, weakRun := run }).bump Ctr.weakShots
  let s2 := (s1.feedServo sh.prog e).bump (energyBin e s.progs[sh.prog].eRef)
  if 16 ≤ run then s2.tripFcu .misfire sh.slot else s2

/-- The judgement of a fired shot's reading (R12). -/
def State.judgeFire (s : State) (sh : Shot) (e : Nat) : State :=
  let ref := s.progs[sh.prog].eRef
  if 2 * e < ref then s.judgeWeak sh e
  else if 4 * e ≤ 5 * ref then
    ((s.withFcu { s.fcu with weakRun := 0 }).feedServo sh.prog e).bump (energyBin e ref)
  else (s.bump (energyBin e ref)).tripFcu .overEnergy sh.slot

/-- The check of a dark capture's reading (R13). -/
def State.judgeDark (s : State) (sh : Shot) (e : Nat) : State :=
  if s.progs[sh.prog].eRef ≤ 2 * e then s.tripFcu .uncommandedEmission sh.slot else s

/-- The FCU's part of a matched header (R36, step 1). -/
def State.judge (s : State) (sh : Shot) (e : Nat) : State :=
  match sh.kind with
  | .fire => (s.matchShot sh).judgeFire sh e
  | .dark => (s.matchShot sh).judgeDark sh e

/-! ### Settlement and loss (R8, R9, R15) -/

/-- How a capture was settled (R61). -/
inductive Fate where
  | accepted | rejected | lost
deriving DecidableEq, Repr

/-- The shot in flight is emptied and its settlement reported to the GAU (R8). A rejected or LOST fired
shot leaves the staging vector IDLE (R61); a dark capture changes no bank (R64). -/
def State.settleShot (s : State) (sh : Shot) (fate : Fate) : State :=
  let s1 := s.withFcu { s.fcu with shot := none }
  match sh.kind with
  | .fire => (if fate = .accepted then s1 else s1.discardStaging).settleOwn sh.slot
  | .dark => s1

/-- A capture that became LOST (R9, R15): settled, counted, and a trip at eight in a row. -/
def State.loseShot (s : State) (sh : Shot) : State :=
  let s1 := (s.settleShot sh .lost).bump Ctr.lostCaptures
  let run := s1.fcu.lostRun + 1
  let s2 := s1.withFcu { s1.fcu with lostRun := run }
  if 8 ≤ run then s2.tripFcu .noReceiver sh.slot else s2

end Sys2Proof.Machine
end

