-- ==== Sys2Proof/Machine/Pcu.lean ====
section
/-! DEFINITION. The Profile Conditioner (chapter 4): taking a bank, the arithmetic from gate sums to β,
the noise, the test echo, the Result Buffers and the Background Hold Store. -/

namespace Sys2Proof.Machine

/-! ### The arithmetic (R76 to R85) -/

/-- A per-sample mean in Q8 (R76, R78, R79). -/
def meanQ8 (sum samples : Nat) : Nat := roundDivNat (sum * 256) samples

/-- The last `k` entries of a list. -/
def lastOf {α : Type} (k : Nat) (l : List α) : List α := l.drop (l.length - k)

/-- A profile's background: one value per gate, and the BG_HELD and BG_NONE flags (R78). -/
structure Background where
  values : List Nat
  held   : Bool
  none   : Bool
deriving DecidableEq, Repr

/-- The background of a bank whose gates have these widths, with the held record taken at conditioning
begin (R78, R79). -/
def background (k : Bank) (widths : List Nat) (taken : Option HeldRec) : Background :=
  let zeros := List.replicate k.copy.gateCount 0
  match k.copy.bgMethod with
  | .dark =>
    if 1 ≤ k.dAcc then
      ⟨List.zipWith (fun g w => meanQ8 g.dark (k.dAcc * w)) k.gates widths, false, false⟩
    else
      match taken with
      | some h => if h.gateCount = k.copy.gateCount then ⟨h.values, true, false⟩ else ⟨zeros, false, true⟩
      | Option.none => ⟨zeros, false, true⟩
  | .tail =>
    let v := meanQ8 ((lastOf k.copy.tailGates k.gates).map GateSums.sig).sum
      (k.nAcc * (lastOf k.copy.tailGates widths).sum)
    ⟨List.replicate k.copy.gateCount v, false, false⟩
  | .none => ⟨zeros, false, false⟩

/-- The energy mean of a profile (R80). -/
def energyMean (k : Bank) : Nat := roundDivNat k.eSum k.nAcc

/-- The energy-normalised signal of a gate (R80, R81). -/
def normalised (mean bg eRef eMean : Nat) : Int := roundDiv (((mean : Int) - bg) * eRef) eMean

/-- β before its clamp (R82). -/
def corrected (n : Int) (c : CorrEntry) : Int := roundDiv (n * c.mant * (2 ^ c.exp : Nat)) (2 ^ 24)

/-- β clamped to −8,388,607 … +8,388,607 (R82, R85). -/
def clampBeta (b : Int) : Int := clampInt (-(Config.betaMax : Int)) Config.betaMax b

/-- How many gates of a column a clamp changes (R82, R85). -/
def clampCount (bs : List Int) : Nat := (bs.filter fun b => clampBeta b ≠ b).length

/-- β of every gate before the clamp, from the sums, widths, backgrounds and correction entries. -/
def rawBetas (k : Bank) : List GateSums → List Nat → List Nat → List CorrEntry → List Int
  | g :: gs, w :: ws, b :: bs, c :: cs =>
    corrected (normalised (meanQ8 g.sig (k.nAcc * w)) b k.copy.eRef (energyMean k)) c
      :: rawBetas k gs ws bs cs
  | _, _, _, _ => []

/-- The noise of a column over its last `k` gates (R84). -/
def noiseOf (k : Nat) (bs : List Int) : Nat :=
  if k = 0 then 0
  else
    let tail := lastOf k bs
    let mean := roundDiv tail.sum k
    roundDivNat (tail.map fun b => (b - mean).natAbs).sum k

/-- A column with an injection added, before the clamp; `g` is the first gate's number (R85). -/
def echoed (i : Injection) : Nat → List Int → List Int
  | _, [] => []
  | g, b :: r => (if i.first ≤ g ∧ g < i.first + i.count then b + i.amp else b) :: echoed i (g + 1) r

/-- What the arithmetic gives for a profile, with what the counters of R91 count. -/
structure Arith where
  cond    : Conditioned
  bg      : List Nat
  clamps  : Nat
  clipped : Nat
deriving DecidableEq, Repr

/-- The conditioning of a non-void bank with gates shaped as `shape` under a job's inputs (R76 to R85). -/
def arith (k : Bank) (shape : List GateEntry) (j : PcuJob) : Arith :=
  let widths := shape.map GateEntry.width
  let bg := background k widths j.held
  let raw := rawBetas k k.gates widths bg.values j.corr
  let betas := raw.map clampBeta
  let echo := match j.inj with | some i => echoed i 0 betas | none => betas
  let clip := k.gates.map fun g => decide (1 ≤ g.sat)
  { cond :=
      { eMean := energyMean k
        bgHeld := bg.held
        bgNone := bg.none
        noise := noiseOf k.copy.tailGates betas
        anyClipped := clip.any id
        betas := List.zipWith GateBeta.mk (echo.map clampBeta) clip }
    bg := bg.values
    clamps := clampCount raw + clampCount echo
    clipped := (clip.filter id).length }

/-! ### Result Buffers and the begin (R71, R73, R75) -/

/-- The lowest-numbered FREE Result Buffer (R71). -/
def Pcu.freeBuf (p : Pcu) : Option (Fin 2) :=
  ([0, 1] : List (Fin 2)).find? fun k => p.bufs[k].state = .free

/-- The PCU with another record in buffer `k`. -/
def Pcu.setBuf (p : Pcu) (k : Fin 2) (b : ResultBuf) : Pcu := { p with bufs := p.bufs.set k b }

/-- The bank and the buffer of a conditioning that can begin (R71): the PCU IDLE, a CLOSED bank at the
head of the queue, a FREE Result Buffer. -/
def State.condReady (s : State) : Option (Fin 6 × Fin 2) :=
  match s.pcu.job, s.gau.queue, s.pcu.freeBuf with
  | none, b :: _, some k => if s.gau.banks[b].state = .closed then some (b, k) else none
  | _, _, _ => none

/-- The result record as it is filled at the begin (R71 step 3, R74). -/
def State.beginRecord (s : State) (k : Bank) : ResultRec where
  prog := k.prog
  copy := k.copy
  seq := k.seq
  openTime := k.openTime
  nTarget := k.copy.nTarget
  nAcc := k.nAcc
  dAcc := k.dAcc
  outcome := k.outcome.getD .void
  test := false
  clamped := false
  shape := s.gau.run k.copy
  cond := none

/-- The bank at the head of the queue is freed when its conditioning completes (R67). -/
def State.freeHead (s : State) (b : Fin 6) : State :=
  State.bump (s.withGau { s.gau.setBank b Bank.freed with queue := s.gau.queue.drop 1 })
    Ctr.profilesConditioned

/-- Buffer `k` becomes READY with its complete record (R72, R73, R75). -/
def Pcu.makeReady (p : Pcu) (k : Fin 2) (r : ResultRec) : Pcu :=
  { p.setBuf k ⟨.ready, some r⟩ with readyOrder := p.readyOrder ++ [k] }

/-- A VOID bank passes at the event of its begin, without arithmetic (R75). -/
def State.passVoid (s : State) (b : Fin 6) (k : Fin 2) : State :=
  let r := s.beginRecord s.gau.banks[b]
  ((s.withPcu (s.pcu.makeReady k r)).bump Ctr.voidPassed).freeHead b

/-- The inputs of a conditioning fixed at its begin (R71, step 4). -/
def State.fixInputs (s : State) (b : Fin 6) (k : Fin 2) : PcuJob :=
  let bank := s.gau.banks[b]
  { bank := b
    buf := k
    corr := Tab.readRun CorrEntry.reset s.pcu.corrTable bank.copy.corrBase bank.copy.gateCount
    held := if bank.copy.bgMethod = .dark ∧ bank.dAcc = 0 then s.pcu.held[bank.prog] else none
    inj := s.pcu.pendingInj[bank.prog] }

/-- Conditioning of bank `b` into buffer `k` begins (R71); a VOID bank passes at once (R75). -/
def State.condBegin (s : State) (b : Fin 6) (k : Fin 2) : State :=
  let bank := s.gau.banks[b]
  if bank.outcome.getD .void = .void then s.passVoid b k
  else
    let s1 := s.withGau (s.gau.setBank b { bank with state := .conditioning })
    s1.withPcu { (s.pcu.setBuf k ⟨.filling, some (s.beginRecord bank)⟩) with
      job := some (s.fixInputs b k)
      pendingInj := s.pcu.pendingInj.set bank.prog none }

/-! ### The completion (R72, R77, R78, R83, R85) -/

/-- A counter increased by one if `c` holds. -/
def State.bumpIf (s : State) (c : Bool) (k : Ctr) : State := if c then s.bump k else s

/-- The Background Hold Store after a conditioning: a DARK profile with dark captures replaces its
program's record (R77). -/
def Pcu.keepBackground (p : Pcu) (k : Bank) (bg : List Nat) : Pcu :=
  if k.copy.bgMethod = .dark ∧ 1 ≤ k.dAcc then
    { p with held := p.held.set k.prog (some ⟨k.copy.gateCount, k.seq, bg⟩) }
  else p

/-- The counters of a completed conditioning (R91). -/
def State.countArith (s : State) (a : Arith) (test : Bool) : State :=
  let s1 := (s.bumpIf a.cond.bgHeld Ctr.bgHeldProfiles).bumpIf a.cond.bgNone Ctr.bgNoneProfiles
  let s2 := (s1.bumpBy Ctr.betaClampedGates a.clamps).bumpIf (1 ≤ a.clamps) Ctr.betaClampedProfiles
  let s3 := (s2.bumpBy Ctr.clippedGates a.clipped).bumpIf a.cond.anyClipped Ctr.clippedProfiles
  s3.bumpIf test Ctr.injectionsApplied

/-- The conditioning in progress completes (R72): the record is complete and READY, the bank is freed,
the held background replaced, and the PCU IDLE. -/
def State.condFinish (s : State) (j : PcuJob) : State :=
  let bank := s.gau.banks[j.bank]
  let rec0 := (s.pcu.bufs[j.buf].record).getD (s.beginRecord bank)
  let a := arith bank rec0.shape j
  let rec1 := { rec0 with test := j.inj.isSome, clamped := decide (1 ≤ a.clamps), cond := some a.cond }
  let p := { (s.pcu.makeReady j.buf rec1).keepBackground bank a.bg with job := none }
  ((s.withPcu p).countArith a j.inj.isSome).freeHead j.bank

/-- A CLOSED bank that reached the head of the queue with no FREE Result Buffer is counted once (R90). -/
def State.countWait (s : State) : State :=
  match s.gau.queue with
  | [] => s
  | b :: _ =>
    let k := s.gau.banks[b]
    if k.state = .closed ∧ s.pcu.freeBuf = none ∧ k.waitCounted = false then
      (s.withGau (s.gau.setBank b { k with waitCounted := true })).bump Ctr.conditioningWaits
    else s

end Sys2Proof.Machine
end

