-- ==== Sys2Proof/Machine/Sku.lean ====
section
/-! DEFINITION. The Sky Condition Unit (chapter 7): the evaluation of a tracking summary, the emptied
table, the Capture Trigger Table, the layer report. -/

namespace Sys2Proof.Machine

/-- The part with another SKU. -/
def State.withSku (s : State) (k : Sku) : State := { s with sku := k }

/-- The tracking summary (R128). `vv` is present when the profile is obscured; `confirmed` counts the
tracks confirmed from TENTATIVE in the update. -/
structure Summary where
  prog      : Prog
  seq       : Nat
  openTime  : Stamp
  test      : Bool
  degraded  : Bool
  detStart  : Nat
  obscured  : Bool
  vv        : Option Nat
  confirmed : Nat
deriving DecidableEq, Repr

/-- The CONFIRMED and COASTING tracks, in table order. -/
def solidTracks (ts : List Track) : List Track := ts.filter (·.state ≠ .tentative)

/-- LAYERED if the table holds a CONFIRMED or COASTING track, CLEAR otherwise (R137). -/
def skyOfTable (ts : List Track) : Sky := if (solidTracks ts).isEmpty then .clear else .layered

/-- Whether a summary's program reaches down to the last VV (R137). -/
def Sku.reaches (k : Sku) (m : Summary) : Bool :=
  match k.lastVv with
  | some v => m.detStart ≤ v
  | none => false

/-- The sky state, last VV and hold count decided by the first case of R137 that applies. -/
def Sku.decide (k : Sku) (ts : List Track) (m : Summary) : Sku :=
  if m.obscured then { k with sky := .obscured, lastVv := m.vv, hold := 0 }
  else if k.sky = .obscured then
    if k.reaches m then
      if 2 ≤ k.hold then { k with sky := skyOfTable ts, lastVv := none, hold := 0 }
      else { k with hold := k.hold + 1 }
    else k
  else { k with sky := skyOfTable ts }

/-- Whether a change of sky state raises SKY_CHANGE (R138). -/
def skyRaises (before after : Sky) (rearm : Bool) : Bool :=
  before ≠ after && before ≠ .unknown && (after ≠ .clear || rearm)

/-- Whether a change of sky state is counted in CLEAR_SUPPRESSED: every change into CLEAR with the re-arm
flag clear (R148, the last sentence of R138), the one out of UNKNOWN among them although the exception of
R138 opens with LAYERED and OBSCURED. DEDUCED (log entry 26). -/
def skySuppressed (before after : Sky) (rearm : Bool) : Bool :=
  before ≠ after && after = .clear && !rearm

/-- The CLEAR re-arm flag after step 1 (R138). -/
def rearmAfter (before after : Sky) (rearm : Bool) : Bool :=
  if after = .layered ∨ after = .obscured then true
  else if skyRaises before after rearm && after = .clear then false
  else rearm

/-- Step 1 of an evaluation (R136 to R138). -/
def State.skyStep (s : State) (m : Summary) : State :=
  let k := s.sku.decide s.ltu.tracks m
  let r := skyRaises s.sku.sky k.sky s.sku.clearRearm
  let s1 := s.withSku { k with clearRearm := rearmAfter s.sku.sky k.sky s.sku.clearRearm }
  let s2 := s1.bumpIf (skySuppressed s.sku.sky k.sky s.sku.clearRearm) Ctr.clearSuppressed
  if r then (s2.bump Ctr.skyChangeRaises).raise .skyChange else s2

/-- The ceiling height after step 1 (R140). -/
def Sku.ceilingNow (k : Sku) (ts : List Track) : Option Nat :=
  match k.sky with
  | .obscured => k.lastVv
  | .layered => ((solidTracks ts).map Track.base).min?
  | _ => none

/-- Whether an OK ceiling goes LOW (R140). -/
def Sku.goesLow (k : Sku) (h : Option Nat) : Bool :=
  match h with
  | some c => !k.ceilingLow && c < k.threshold
  | none => false

/-- Whether a LOW ceiling goes OK (R140). -/
def Sku.goesOk (k : Sku) (h : Option Nat) : Bool :=
  k.ceilingLow && (k.sky = .clear || match h with
    | some c => k.threshold + k.hysteresis ≤ c
    | none => false)

/-- Step 2 of an evaluation (R140). -/
def State.ceilingStep (s : State) : State :=
  let h := s.sku.ceilingNow s.ltu.tracks
  if s.sku.goesLow h then
    ((s.withSku { s.sku with ceiling := h, ceilingLow := true }).bump Ctr.ceilingLowRaises).raise .ceilingLow
  else if s.sku.goesOk h then
    ((s.withSku { s.sku with ceiling := h, ceilingLow := false }).bump Ctr.ceilingOkRaises).raise .ceilingOk
  else s.withSku { s.sku with ceiling := h }

/-! ### Capture triggers (R142 to R144) -/

/-- Whether a condition is a level condition (R142). -/
def CaptureCond.level : CaptureCond → Bool
  | .ceilingBelow | .obscured => true
  | _ => false

/-- Whether a condition is an edge condition (R142). -/
def CaptureCond.edge : CaptureCond → Bool
  | .skyChange | .trackNew => true
  | _ => false

/-- Whether an entry's condition holds at an event that raised SKY_CHANGE or not and confirmed a track
or not (R142). -/
def Sku.holds (k : Sku) (e : CaptureEntry) (raised confirmed : Bool) : Bool :=
  match e.cond with
  | .none => false
  | .ceilingBelow => match k.ceiling with | some c => c < e.height | none => false
  | .obscured => k.sky = .obscured
  | .skyChange => raised
  | .trackNew => confirmed

/-- An entry examined (R143). -/
def CaptureEntry.examine (e : CaptureEntry) (h : Bool) : CaptureEntry :=
  if e.cond = .none then e
  else if e.armed then (if h then { e with armed := false, pending := true } else e)
  else if e.cond.level && !h then { e with armed := true }
  else e

/-- Whether an examined entry fires (R143). -/
def CaptureEntry.fires (e : CaptureEntry) (h : Bool) : Bool := e.cond ≠ .none && e.armed && h

/-- The Capture Trigger Table evaluated (R143). -/
def State.triggerStep (s : State) (raised confirmed : Bool) : State :=
  let k := s.sku
  let n := (k.captures.toList.filter fun e => e.fires (k.holds e raised confirmed)).length
  (s.withSku { k with captures := k.captures.map fun e => e.examine (k.holds e raised confirmed) }).bumpBy
    Ctr.captureTriggers n

/-- Whether a capture is requested for `p` (R142). -/
def Sku.requested (k : Sku) (p : Prog) : Bool := k.captures.toList.any fun e => e.pending && e.prog = p

/-- The capture request for `p` taken and its outcome: the entries served are those of `p` that were
pending (R144). -/
def CaptureEntry.served (e : CaptureEntry) (p : Prog) (enqueued : Bool) : CaptureEntry :=
  if e.pending ∧ e.prog = p then
    if enqueued then { e with pending := false, armed := e.armed || e.cond.edge } else e
  else e

/-- The SKU told the outcome of a CAPTURE frame (R144). -/
def State.captureOutcome (s : State) (p : Prog) (enqueued : Bool) : State :=
  let n := (s.sku.captures.toList.filter fun e => e.pending && e.prog = p).length
  let s1 := s.withSku { s.sku with captures := s.sku.captures.map fun e => e.served p enqueued }
  if enqueued then s1 else s1.bumpBy Ctr.captureReposts n

/-! ### Layer report (R141, R179) -/

/-- One listed layer, 15 bytes (R179). -/
def layerBytes (t : Track) : List Byte :=
  be 1 t.id ++ [t.state.code] ++ rangeBytes t.base ++ optRangeBytes t.top ++ beInt 3 t.peak
    ++ be 1 t.sources.toNat ++ be 1 (flagBits [t.top.isSome, t.test])

/-- The payload of a LAYER frame (R141, R179). -/
def layerPayload (time : Stamp) (k : Sku) (ts : List Track) (m : Summary) : List Byte :=
  let solid := solidTracks ts
  let listed := solid.take Config.reportLayers
  let vv := if k.sky = .obscured then k.lastVv else none
  timeBytes time ++ be 1 m.prog.val ++ be 2 m.seq ++ timeBytes m.openTime
    ++ be 1 (flagBits [time.valid, m.openTime.valid]) ++ [k.sky.code] ++ [bit1 k.ceilingLow]
    ++ be 1 (flagBits [vv.isSome, k.ceiling.isSome, m.test, m.degraded])
    ++ optRangeBytes vv ++ optRangeBytes k.ceiling
    ++ be 1 listed.length ++ be 1 (solid.length - listed.length) ++ (listed.map layerBytes).flatten

/-- A frame offered to the SLC: the state after it, and whether the frame was enqueued (R156). -/
def State.offer (s : State) (kind : FrameKind) (payload : List Byte) : State × Bool :=
  match s.link.offer kind payload with
  | (l, e) => (s.withLink l, e)

/-- Step 4 of an evaluation (R141): the SKU does not act on the answer. -/
def State.reportStep (s : State) (m : Summary) : State :=
  if s.sku.divider ≤ s.sku.reportCount + 1 then
    let s1 := (s.withSku { s.sku with reportCount := 0 }).bump Ctr.layerReportsOffered
    (s1.offer .layer (layerPayload s.slc.time s.sku s.ltu.tracks m)).1
  else s.withSku { s.sku with reportCount := s.sku.reportCount + 1 }

/-- The evaluation of a tracking summary (R136). -/
def State.evaluate (s : State) (m : Summary) : State :=
  let raised := skyRaises s.sku.sky (s.sku.decide s.ltu.tracks m).sky s.sku.clearRearm
  let s1 := (s.bump Ctr.skyEvaluations).skyStep m
  ((s1.ceilingStep).triggerStep raised (1 ≤ m.confirmed)).reportStep m

/-- The SKU told that RESET_TRACKS has emptied the table (R139, R143). -/
def State.skyEmptied (s : State) : State :=
  let known := decide (s.sku.sky ≠ .unknown)
  let s1 := s.withSku { s.sku with sky := .unknown, lastVv := none, hold := 0, ceiling := none }
  let s2 := if known then (s1.bump Ctr.skyChangeRaises).raise .skyChange else s1
  s2.triggerStep known false

end Sys2Proof.Machine
end

