-- ==== Sys2Proof/Machine/Slc.lean ====
section
/-! DEFINITION. The timebase and the interval reports of the Station Link Controller (R159, R160). -/

namespace Sys2Proof.Machine

/-- The part with another SLC. -/
def State.withSlc (s : State) (l : Slc) : State := { s with slc := l }

/-! ### The timebase (R159) -/

/-- One microsecond later (R159). -/
def Stamp.tick (t : Stamp) : Stamp :=
  if t.usec < 999999 then { t with usec := t.usec + 1 }
  else { t with usec := 0, sec := (t.sec + 1) % 4294967296 }

/-- A timebase value as a microsecond total (R159). -/
def Stamp.total (t : Stamp) : Int := (t.sec : Int) * 1000000 + t.usec

/-! ### Interval reports (R160) -/

/-- The counters of the interval list as they stand (R160). -/
def Counters.listed (v : Counters) : Vector Nat 16 := intervalList.map fun c => v[c]

/-- The span as its four-byte field carries it (R179). A span beyond 32 bits has no stated value there:
a free value (log entry 3). -/
def spanField (n : Nat) : Nat := if n < 4294967296 then n else (Config.spanBeyond32 n).toNat

/-- The sixteen deltas of an INTERVAL frame: current value minus snapshot (R160). -/
def deltas (v snapshots : Vector Nat 16) : List Nat := List.zipWith (· - ·) v.toList snapshots.toList

/-- The payload of an INTERVAL frame, 81 bytes (R160, R179). -/
def intervalPayload (s : State) : List Byte :=
  let v := s.ctrs.listed
  timeBytes s.slc.time ++ [bit1 s.slc.time.valid] ++ be 4 (spanField s.slc.span) ++ [s.fcu.state.code]
    ++ [s.sku.sky.code] ++ be 2 (flagBits (v.toList.map fun x => x = Config.counterMax))
    ++ (deltas v s.slc.snapshots).flatMap (be 4)

/-- What an enqueued INTERVAL frame leaves: fresh snapshots, span 0, and its count (R160). -/
def State.intervalSent (s : State) : State :=
  (s.withSlc { s.slc with span := 0, snapshots := s.ctrs.listed }).bump Ctr.intervalFrames

/-- An INTERVAL frame is built and offered; a dropped one leaves the snapshots and the span (R160). The
snapshots are renewed when the offer is over, the REPORT_DROP notice it may have raised (R158) and the
frames that this notice discarded included. DESIGN CHOICE (log entry 30). -/
def State.offerInterval (s : State) : State :=
  match s.offer .interval (intervalPayload s) with
  | (s1, true) => s1.intervalSent
  | (s1, false) => s1

/-- An INTERVAL frame is due when the elapsed count equals a period of at least 1; the count then
becomes 0 (R160). -/
def State.intervalCheck (s : State) : State :=
  if 1 ≤ s.slc.interval ∧ s.slc.elapsed = s.slc.interval then
    (s.withSlc { s.slc with elapsed := 0 }).offerInterval
  else s

/-- A whole second of the part's own running (R160). A due frame is built and offered here, at the event at
which it becomes due, so that INTERVAL_DUE finds none left. DEDUCED (log entry 31). -/
def State.wholeSecond (s : State) : State :=
  let e := if 1 ≤ s.slc.interval then s.slc.elapsed + 1 else s.slc.elapsed
  (s.withSlc { s.slc with span := s.slc.span + 1, elapsed := e }).intervalCheck

/-- One microsecond of CLKIN (R159, R160): the timebase advances, and each 1,000,000th microsecond since
the release of reset is a whole second. -/
def State.microsecond (s : State) : State :=
  if s.slc.runUsec < 999999 then
    s.withSlc { s.slc with time := s.slc.time.tick, runUsec := s.slc.runUsec + 1 }
  else
    (s.withSlc { s.slc with time := s.slc.time.tick, runUsec := 0 }).wholeSecond

end Sys2Proof.Machine
end

