-- ==== Sys2Proof/Machine/Ltu.lean ====
section
/-! DEFINITION. The Layer Tracker (chapter 6): the tracking update, step by step, over the Track Table,
and what it hands to the Sky Condition Unit. -/

namespace Sys2Proof.Machine

/-- The part with another LTU. -/
def State.withLtu (s : State) (k : Ltu) : State := { s with ltu := k }

/-- A detection result that is not "no observation" (R104). `covLo` and `covHi` bound the coverage;
`covLo` is the detect start range index. -/
structure Detection where
  prog     : Prog
  seq      : Nat
  openTime : Stamp
  covLo    : Nat
  covHi    : Nat
  hitsOnly : Bool
  test     : Bool
  degraded : Bool
  cands    : List Candidate
  obscured : Bool
  vv       : Option Nat
deriving DecidableEq, Repr

/-! ### Steps 1 and 2: observation and association (R118, R119) -/

/-- Whether a profile observes a track (R118). -/
def Detection.observes (d : Detection) (t : Track) : Bool :=
  d.covLo ≤ t.base && t.base ≤ d.covHi && (!d.obscured || t.base ≤ d.vv.getD 0)

/-- Whether `a` is nearer to base `c` than `b`: a smaller distance, then the lower base, then the lower
id (R119). -/
def nearer (c : Nat) (a b : Track) : Bool :=
  dist a.base c < dist b.base c
    || (dist a.base c = dist b.base c
        && (a.base < b.base || (a.base = b.base && a.id < b.id)))

/-- The nearest track of a list to base `c` (R119). -/
def nearest (c : Nat) : List Track → Option Track
  | [] => none
  | t :: r =>
    match nearest c r with
    | none => some t
    | some u => if nearer c u t then some u else some t

/-- The association of candidates, in list order, with the free observed tracks: each pair is a track
id and its candidate; the second list holds the candidates left over (R119). -/
def associate (w : Nat) : List Track → List Candidate → List (Nat × Candidate) × List Candidate
  | _, [] => ([], [])
  | free, c :: cs =>
    match nearest c.base (free.filter fun t => dist t.base c.base ≤ w) with
    | some t =>
      let rest := associate w (free.filter fun u => u.id ≠ t.id) cs
      ((t.id, c) :: rest.1, rest.2)
    | none =>
      let rest := associate w free cs
      (rest.1, c :: rest.2)

/-- The candidate associated with a track. -/
def candOf (pairs : List (Nat × Candidate)) (t : Track) : Option Candidate :=
  (pairs.find? fun x => x.1 = t.id).map Prod.snd

/-! ### Steps 3 and 4: hits and misses (R120 to R123) -/

/-- HITs in a history (R113). -/
def Track.hits (t : Track) : Nat := (t.history.filter (· = true)).length

/-- MISSes in a history (R113). -/
def Track.histMisses (t : Track) : Nat := (t.history.filter (· = false)).length

/-- The smoothed base (R120). -/
def smoothed (b c a : Nat) : Nat := ((b : Int) + roundDiv (((c : Int) - b) * a) 8).toNat

/-- A hit, less the change of state (R120). -/
def Track.hitBy (t : Track) (q : TrackParams) (d : Detection) (c : Candidate) : Track :=
  { t with
    base := smoothed t.base c.base q.smooth
    top := c.top
    peak := c.peak
    history := (true :: t.history).take q.histLen
    misses := 0
    totalHits := satInc 65535 t.totalHits
    sources := t.sources ||| progSet d.prog
    test := t.test || d.test }

/-- The state after a hit (R121), `t` being the track with its HIT pushed. -/
def Track.afterHit (t : Track) (q : TrackParams) : Track :=
  match t.state with
  | .tentative => if q.confirm ≤ t.hits then { t with state := .confirmed } else t
  | _ => { t with state := .confirmed }

/-- A miss, less the change of state (R122). -/
def Track.missed (t : Track) (q : TrackParams) : Track :=
  { t with history := (false :: t.history).take q.histLen, misses := satInc 15 t.misses }

/-- A missed track's fate (R123), `t` being the track with its MISS pushed: none when it is removed. -/
def Track.afterMiss (t : Track) (q : TrackParams) : Option Track :=
  match t.state with
  | .tentative => if q.histLen - q.confirm < t.histMisses then none else some t
  | _ => if q.loss ≤ t.misses then none else some { t with state := .coasting }

/-- The table after step 3 (R120, R121). -/
def hitAll (q : TrackParams) (d : Detection) (pairs : List (Nat × Candidate)) (ts : List Track) : List Track :=
  ts.map fun t =>
    match candOf pairs t with
    | some c => (t.hitBy q d c).afterHit q
    | none => t

/-- Whether step 4 misses a track: the role is FULL, and the track was observed at the start of the
update and left unassociated (R122). A miss does not move bases, and a hit track is associated, so
`observes` may be asked of the table after step 3. -/
def Detection.misses (d : Detection) (pairs : List (Nat × Candidate)) (t : Track) : Bool :=
  !d.hitsOnly && d.observes t && (candOf pairs t).isNone

/-- The table after step 4 (R122, R123). -/
def missAll (q : TrackParams) (d : Detection) (pairs : List (Nat × Candidate)) (ts : List Track) : List Track :=
  ts.filterMap fun t => if d.misses pairs t then (t.missed q).afterMiss q else some t

/-! ### Step 5: creation and displacement (R114, R124, R125) -/

/-- The first id from `next` up, round from 255 to 1, that no track holds, within `n` tries (R114). -/
def allocId (used : List Nat) : Nat → Nat → Nat
  | 0, next => next
  | n + 1, next => if used.contains next then allocId used n (if next = 255 then 1 else next + 1) else next

/-- A created track (R113, R124). -/
def newTrack (id : Nat) (q : TrackParams) (d : Detection) (c : Candidate) : Track where
  id := id
  state := if q.confirm = 1 then .confirmed else .tentative
  base := c.base
  top := c.top
  peak := c.peak
  history := [true]
  misses := 0
  totalHits := 1
  age := 0
  sources := progSet d.prog
  test := d.test

/-- Whether a track may be displaced: TENTATIVE, neither associated nor created in this update, with
exactly one HIT in its history (R125). -/
def Track.eligible (t : Track) (touched : List Nat) : Bool :=
  t.state = .tentative && !touched.contains t.id && t.hits = 1

/-- The eligible track with the highest base, and the higher id among equal bases (R125). -/
def highestOf : List Track → Option Track
  | [] => none
  | t :: r =>
    match highestOf r with
    | none => some t
    | some u => if t.base < u.base || (t.base = u.base && t.id < u.id) then some u else some t

/-- The table while step 5 runs, with the ids hit or created in this update and what step 5 counts. -/
structure Creation where
  tracks    : List Track
  nextId    : Nat
  touched   : List Nat
  created   : Nat
  displaced : Nat
  discarded : Nat
deriving DecidableEq, Repr

/-- A track created for a candidate (R114, R124). -/
def Creation.create (k : Creation) (q : TrackParams) (d : Detection) (c : Candidate) : Creation :=
  let id := allocId (k.tracks.map Track.id) 11 k.nextId
  { k with
    tracks := k.tracks ++ [newTrack id q d c]
    nextId := if id = 255 then 1 else id + 1
    touched := id :: k.touched
    created := k.created + 1 }

/-- Step 5 for one candidate (R124, R125). -/
def Creation.take (k : Creation) (q : TrackParams) (d : Detection) (c : Candidate) : Creation :=
  if k.tracks.length < Config.trackMax then k.create q d c
  else
    match highestOf (k.tracks.filter fun t => t.eligible k.touched) with
    | some u =>
      Creation.create { k with tracks := k.tracks.filter fun t => t.id ≠ u.id
                               displaced := k.displaced + 1 } q d c
    | none => { k with discarded := k.discarded + 1 }

/-! ### Steps 6 and 7: merging, order, age (R126, R127) -/

/-- The order of the table: ascending base, ties lower id first (R112). -/
def Track.le (a b : Track) : Bool := a.base < b.base || (a.base = b.base && a.id ≤ b.id)

/-- A track put into an ordered table. -/
def insertTrack (t : Track) : List Track → List Track
  | [] => [t]
  | u :: r => if t.le u then t :: u :: r else u :: insertTrack t r

/-- A table in order (R126, R127). -/
def sortTracks : List Track → List Track
  | [] => []
  | t :: r => insertTrack t (sortTracks r)

/-- Whether the upper track `b` of a pair survives over the lower one `a` (R126). -/
def upperSurvives (a b : Track) : Bool :=
  a.hits < b.hits || (a.hits = b.hits && a.state = .tentative && b.state ≠ .tentative)

/-- The survivor of a pair with the union of the source sets and of the TEST flags (R126). -/
def survivor (a b : Track) : Track :=
  let k := if upperSurvives a b then b else a
  { k with sources := a.sources ||| b.sources, test := a.test || b.test }

/-- The merge scan from track `a` upward over the ordered tracks above it (R126). -/
def mergeUp (dm : Nat) : Track → List Track → List Track
  | a, [] => [a]
  | a, b :: r => if dist a.base b.base ≤ dm then mergeUp dm (survivor a b) r else a :: mergeUp dm b r

/-- Step 6 (R126). -/
def mergeAll (dm : Nat) (ts : List Track) : List Track :=
  match sortTracks ts with
  | [] => []
  | a :: r => mergeUp dm a r

/-- A track one update older (R127). -/
def Track.older (t : Track) : Track := { t with age := satInc 65535 t.age }

/-! ### The update (R117, R128) -/

/-- What an update makes of the LTU, and what the counters of R133 and the notices need. -/
structure Tracking where
  ltu        : Ltu
  hits       : Nat
  misses     : Nat
  confirmed  : Nat
  recovered  : Nat
  lost       : Nat
  dropped    : Nat
  created    : Nat
  createdConfirmed : Nat
  displaced  : Nat
  discarded  : Nat
  merged     : Nat
deriving DecidableEq, Repr

/-- How many tracks of a list satisfy `f`. -/
def countTracks (f : Track → Bool) (ts : List Track) : Nat := (ts.filter f).length

/-- Whether a hit confirms a track (R121). -/
def Track.confirmedBy (t : Track) (q : TrackParams) (d : Detection) (pairs : List (Nat × Candidate)) : Bool :=
  match candOf pairs t with
  | some c => t.state = .tentative && (((t.hitBy q d c).afterHit q).state = .confirmed)
  | none => false

/-- Whether a miss removes a track (R123). -/
def Track.removedBy (t : Track) (q : TrackParams) (d : Detection) (pairs : List (Nat × Candidate)) : Bool :=
  d.misses pairs t && ((t.missed q).afterMiss q).isNone

/-- The tracking update of R117 on the Track Table. Step 6 runs in every update (R117, R126), also in an
obscured HITS_ONLY one, of which R118 says that it changes no track but by ageing: there a Dm raised by
SET_TRACKING can merge. DEDUCED (log entry 25). -/
def Ltu.update (k : Ltu) (d : Detection) : Tracking :=
  let q := k.params
  let a := associate q.assocWin (k.tracks.filter d.observes) d.cands
  let t3 := hitAll q d a.1 k.tracks
  let t4 := missAll q d a.1 t3
  let start : Creation := ⟨t4, k.nextId, a.1.map Prod.fst, 0, 0, 0⟩
  let t5 := a.2.foldl (fun c x => c.take q d x) start
  let t6 := mergeAll q.mergeDist t5.tracks
  { ltu := { k with tracks := t6.map Track.older, nextId := t5.nextId }
    hits := countTracks (fun t => (candOf a.1 t).isSome) k.tracks
    misses := countTracks (d.misses a.1) t3
    confirmed := countTracks (fun t => t.confirmedBy q d a.1) k.tracks
    recovered := countTracks (fun t => (candOf a.1 t).isSome && t.state = .coasting) k.tracks
    lost := countTracks (fun t => t.removedBy q d a.1 && t.state ≠ .tentative) t3
    dropped := countTracks (fun t => t.removedBy q d a.1 && t.state = .tentative) t3
    created := t5.created
    createdConfirmed := if q.confirm = 1 then t5.created else 0
    displaced := t5.displaced
    discarded := t5.discarded
    merged := t5.tracks.length - t6.length }

/-- A notice kind raised `n` times, once for each cause. -/
def State.raiseTimes (s : State) (k : NoticeKind) : Nat → State
  | 0 => s
  | n + 1 => (s.raise k).raiseTimes k n

/-- The counters of an update (R133). -/
def State.countTracking (s : State) (r : Tracking) : State :=
  let s1 := ((s.bump Ctr.trackUpdates).bumpBy Ctr.trackHits r.hits).bumpBy Ctr.trackMisses r.misses
  let s2 := (s1.bumpBy Ctr.tracksCreated r.created).bumpBy Ctr.tracksConfirmed (r.confirmed + r.createdConfirmed)
  let s3 := (s2.bumpBy Ctr.tracksRecovered r.recovered).bumpBy Ctr.tracksLost r.lost
  let s4 := (s3.bumpBy Ctr.tentativeDropped r.dropped).bumpBy Ctr.tracksDisplaced r.displaced
  (s4.bumpBy Ctr.candidatesDiscarded r.discarded).bumpBy Ctr.tracksMerged r.merged

/-- The notices of an update, in the order of the steps that cause them: confirmations at hits, losses,
then confirmations at creation and discards (R128). Each raise is counted, and they coalesce in the pending
set (R125, R157). -/
def State.raiseTracking (s : State) (r : Tracking) : State :=
  (((s.raiseTimes .layerNew r.confirmed).raiseTimes .layerLost r.lost).raiseTimes .layerNew
    r.createdConfirmed).raiseTimes .trackTableFull r.discarded

/-- The summary of an update (R128). -/
def Tracking.summary (r : Tracking) (d : Detection) : Summary :=
  ⟨d.prog, d.seq, d.openTime, d.test, d.degraded, d.covLo, d.obscured, d.vv,
    r.confirmed + r.createdConfirmed⟩

/-- A detection result tracked, and its summary evaluated by the SKU (R117, R128, R136). The update and the
evaluation are whole: an idle line is held until both are done, so that several discards make one notice
(R125) and the pending set holds the update's notices when the summary is handed on (R128). DEDUCED (log
entry 33). -/
def State.track (s : State) (d : Detection) : State :=
  let r := s.ltu.update d
  let s1 := ((((s.withLink s.link.hold).withLtu r.ltu).countTracking r).raiseTracking r).evaluate (r.summary d)
  s1.withLink (s1.link.release s.slc.phase)

/-- A history cut to its newest N entries by SET_TRACKING (R116). -/
def Track.cut (t : Track) (n : Nat) : Track := { t with history := t.history.take n }

end Sys2Proof.Machine
end

