-- ==== Sys2Proof/Machine/Ldu.lean ====
section
/-! DEFINITION. The Layer Detector (chapter 5): the thresholds, the scan, vertical visibility, the
profile frame, the begin and the completion of a detection; and the profile path that R71 and R92 move
on at every event. -/

namespace Sys2Proof.Machine

/-- The part with another LDU. -/
def State.withLdu (s : State) (k : Ldu) : State := { s with ldu := k }

/-! ### Thresholds and classes (R96, R97) -/

/-- The noise floor (R96). -/
def noiseFloor (noise factor : Nat) : Nat := roundDivNat (noise * factor) 16

/-- One gate as the scan sees it: its place, its β with its clipped mark, its on threshold. -/
structure ScanGate where
  shape : GateEntry
  gb    : GateBeta
  on    : Nat
deriving DecidableEq, Repr

/-- High: clipped, or β at least the on threshold (R97). -/
def ScanGate.high (g : ScanGate) : Bool := g.gb.clipped || (g.on : Int) ≤ g.gb.beta

/-- Low: not clipped, and β below the off threshold, which is half the on threshold, floor (R96, R97). -/
def ScanGate.low (g : ScanGate) : Bool := !g.gb.clipped && g.gb.beta < ((g.on / 2 : Nat) : Int)

/-- The gates of a profile with their thresholds, gate 0 first. -/
def scanGates : List GateEntry → List GateBeta → List Nat → List ScanGate
  | e :: es, b :: bs, t :: ts => ⟨e, b, t⟩ :: scanGates es bs ts
  | _, _, _ => []

/-! ### The scan (R98 to R101) -/

/-- The layer that the scan is inside: its base gate, its peak gate, the gate last joined, its clipped
mark, whether it began at the detect start gate, and whether it is dropped (R98, R101). -/
structure Layer where
  base    : ScanGate
  peak    : ScanGate
  last    : ScanGate
  clipped : Bool
  atStart : Bool
  dropped : Bool
deriving DecidableEq, Repr

/-- What the scan has recorded: the candidates, how many layers it dropped, and whether a layer that
began at the detect start gate was left open (R100 to R102). -/
structure Scan where
  cands     : List Candidate
  drops     : Nat
  openStart : Bool
deriving DecidableEq, Repr

/-- A layer begun at a gate; it is dropped when the list is full (R98, R101). -/
def Layer.begin (g : ScanGate) (atStart full : Bool) : Layer := ⟨g, g, g, g.gb.clipped, atStart, full⟩

/-- A gate joins the layer (R99). -/
def Layer.join (l : Layer) (g : ScanGate) : Layer :=
  { l with
    peak := if l.peak.gb.beta < g.gb.beta then g else l.peak
    last := g
    clipped := l.clipped || g.gb.clipped }

/-- The candidate record of a layer (R100). -/
def Layer.candidate (l : Layer) (ended : Bool) : Candidate where
  base := l.base.shape.first
  top := if ended then some l.last.shape.lastIndex else none
  peakIndex := l.peak.shape.first + (l.peak.shape.width - 1) / 2
  peak := l.peak.gb.beta
  clipped := l.clipped

/-- A layer recorded, or dropped (R100, R101). -/
def Scan.record (k : Scan) (l : Layer) (ended : Bool) : Scan :=
  if l.dropped then { k with drops := k.drops + 1 }
  else { k with cands := k.cands ++ [l.candidate ended], openStart := k.openStart || (!ended && l.atStart) }

/-- Whether the next gate satisfies `f`, or there is none. -/
def nextIs (f : ScanGate → Bool) : List ScanGate → Bool
  | [] => true
  | g :: _ => f g

/-- The scan over the gates from the detect start gate up, INSIDE a layer or OUTSIDE; `atStart` says
that the gate at the head is the detect start gate (R98, R99). -/
def scan : List ScanGate → Bool → Option Layer → Scan → Scan
  | [], _, none, k => k
  | [], _, some l, k => k.record l false
  | g :: r, atStart, none, k =>
    if g.high && nextIs ScanGate.high r then
      scan r false (some (Layer.begin g atStart (Config.candMax ≤ k.cands.length))) k
    else scan r false none k
  | g :: r, _, some l, k =>
    if g.low && nextIs ScanGate.low r then scan r false none (k.record l true)
    else scan r false (some (l.join g)) k

/-- The scan of a profile from its detect start gate up. -/
def scanFrom (gs : List ScanGate) : Scan := scan gs true none ⟨[], 0, false⟩

/-! ### Vertical visibility (R103) -/

/-- The last range index of the first gate at which the running integral reaches `v` (R103). -/
def vvReach (v : Nat) : Int → List ScanGate → Option Nat
  | _, [] => none
  | acc, g :: r =>
    let acc' := acc + g.gb.beta * g.shape.width
    if (v : Int) ≤ acc' then some g.shape.lastIndex else vvReach v acc' r

/-- The last range index of a run of gates. -/
def topIndex : List GateEntry → Nat
  | [] => 0
  | [g] => g.lastIndex
  | _ :: r => topIndex r

/-- The first range index of a run of gates. -/
def bottomIndex : List GateEntry → Nat
  | [] => 0
  | g :: _ => g.first

/-! ### The profile frame (R106 to R108, R179) -/

/-- What detection found in a profile: the fields of R93, item 1. -/
structure Found where
  cands    : List Candidate
  overflow : Bool
  obscured : Bool
  vv       : Option Nat
deriving DecidableEq, Repr

/-- The flags of a PROFILE frame (R179). -/
def profileFlags (r : ResultRec) (c : Conditioned) (capture overflow : Bool) : Nat :=
  flagBits [c.bgHeld, c.bgNone, r.outcome = .degraded, r.test, capture, r.clamped, overflow, c.anyClipped]

/-- The payload of a PROFILE frame: 40 bytes and 3 per gate (R108, R179). -/
def profilePayload (r : ResultRec) (c : Conditioned) (capture overflow : Bool) : List Byte :=
  [bit1 r.openTime.valid] ++ be 1 r.prog.val ++ be 2 r.seq ++ timeBytes r.openTime
    ++ be 2 r.nTarget ++ be 2 r.nAcc ++ be 2 r.dAcc ++ be 2 c.eMean ++ be 2 r.copy.eRef
    ++ [r.copy.bgMethod.code] ++ [r.outcome.code] ++ be 2 (profileFlags r c capture overflow)
    ++ be 4 c.noise ++ be 2 r.copy.gateCount ++ be 2 r.copy.gateBase ++ be 2 r.copy.detectStart
    ++ be 2 (bottomIndex (r.shape.drop r.copy.detectStart)) ++ be 2 (topIndex r.shape)
    ++ (c.betas.map fun b => beInt 3 b.beta).flatten

/-- Whether the divider makes a frame due, and the frame count after it (R106). -/
def dividerDue (divider count : Nat) : Bool × Nat :=
  if divider = 0 then (false, count)
  else if divider ≤ count + 1 then (true, 0)
  else (false, count + 1)

/-- The frame decision of a non-void profile and its offer (R106 to R108, R144). -/
def State.frameStep (s : State) (r : ResultRec) (c : Conditioned) (overflow : Bool) : State :=
  match dividerDue r.copy.divider s.ldu.frameCount[r.prog] with
  | (due, count) =>
    let s1 := s.withLdu { s.ldu with frameCount := s.ldu.frameCount.set r.prog count }
    let capture := s.sku.requested r.prog
    if due || capture then
      let s2 := (s1.bump Ctr.profileFramesOffered).bumpIf capture Ctr.captureFramesOffered
      match s2.offer .profile (profilePayload r c capture overflow) with
      | (s3, enqueued) => if capture then s3.captureOutcome r.prog enqueued else s3
    else s1

/-! ### The completion (R93, R102, R104, R105) -/

/-- The gates from the detect start gate up with their thresholds (R98). -/
def examined (r : ResultRec) (c : Conditioned) (on : List Nat) : List ScanGate :=
  (scanGates r.shape c.betas on).drop r.copy.detectStart

/-- The scan's findings with the obscuration decided: the obscuring candidate is removed and VV is
computed (R102 to R104). The flag says that the integral stayed below the VV limit. -/
def findings (r : ResultRec) (gs : List ScanGate) (k : Scan) : Found × Bool :=
  if k.openStart then
    match vvReach r.copy.vvLimit 0 gs with
    | some v => (⟨[], decide (0 < k.drops), true, some v⟩, false)
    | none => (⟨[], decide (0 < k.drops), true, some (topIndex r.shape)⟩, true)
  else (⟨k.cands, decide (0 < k.drops), false, none⟩, false)

/-- The counters and the notice of a scan (R100 to R103, R111). -/
def State.countScan (s : State) (k : Scan) (f : Found) (atReach : Bool) : State :=
  let s1 := (s.bump Ctr.profilesDetected).bumpBy Ctr.candidatesFound k.cands.length
  let s2 := ((s1.bumpBy Ctr.candidatesDropped k.drops).bumpIf f.obscured Ctr.profilesObscured).bumpIf atReach
    Ctr.vvAtReach
  if f.overflow then (s2.bump Ctr.candOverflowProfiles).raise .candOverflow else s2

/-- Item 3 and item 5 of R93: the Result Buffer becomes FREE, the LDU IDLE, and it keeps what the
detection found (R104, R110). -/
def State.releaseBuf (s : State) (k : Fin 2) (r : ResultRec) (f : Found) : State :=
  (s.withPcu (s.pcu.setBuf k ResultBuf.freed)).withLdu
    { s.ldu with job := none, last := some ⟨r.prog, r.seq, f.cands, f.obscured, f.vv⟩ }

/-- The detection result handed to the LTU (R104). -/
def detectionOf (r : ResultRec) (f : Found) : Detection where
  prog := r.prog
  seq := r.seq
  openTime := r.openTime
  covLo := bottomIndex (r.shape.drop r.copy.detectStart)
  covHi := topIndex r.shape
  hitsOnly := r.copy.hitsOnly
  test := r.test
  degraded := r.outcome = .degraded
  cands := f.cands
  obscured := f.obscured
  vv := f.vv

/-- Nothing found: what a VOID or detection-off profile receives (R93, R105). -/
def Found.nothing : Found := ⟨[], false, false, none⟩

/-- The completion of a detection that took threshold entries (R93). -/
def State.finishDetected (s : State) (k : Fin 2) (r : ResultRec) (c : Conditioned) (on : List Nat) : State :=
  let gs := examined r c on
  let sc := scanFrom gs
  match findings r gs sc with
  | (f, atReach) =>
    let s1 := (s.countScan sc f atReach).frameStep r c f.overflow
    (s1.releaseBuf k r f).track (detectionOf r f)

/-- The completion of a VOID or detection-off profile: "no observation" (R93, R105, R117). -/
def State.finishUnobserved (s : State) (k : Fin 2) (r : ResultRec) : State :=
  let s1 :=
    match r.cond with
    | some c => (s.bump Ctr.noObsDetectionOff).frameStep r c false
    | none => s
  (s1.releaseBuf k r Found.nothing).bump Ctr.noObsResults

/-- The detection in progress completes (R93). -/
def State.detFinish (s : State) (j : LduJob) : State :=
  match s.pcu.bufs[j.buf].record with
  | none => s.withLdu { s.ldu with job := none }
  | some r =>
    match j.on, r.cond with
    | some on, some c => s.finishDetected j.buf r c on
    | _, _ => s.finishUnobserved j.buf r

/-! ### The begin (R92) -/

/-- The Result Buffer that a detection can take: the LDU IDLE, the oldest READY buffer (R92). -/
def State.detReady (s : State) : Option (Fin 2) :=
  match s.ldu.job with
  | none => s.pcu.readyOrder.head?
  | some _ => none

/-- The on thresholds that a detection takes, none for a VOID or detection-off profile (R92, R96). -/
def State.takeThresholds (s : State) (r : ResultRec) : Option (List Nat) :=
  match r.cond with
  | some c =>
    if r.copy.detection then
      some ((Tab.readRun Config.betaMax s.ldu.thrTable r.copy.thrBase r.copy.gateCount).map fun t =>
        max t (noiseFloor c.noise r.copy.noiseFactor))
    else none
  | none => none

/-- Detection of buffer `k` begins (R92); one that takes no threshold entries completes at the same
event (R93). -/
def State.detBegin (s : State) (k : Fin 2) : State :=
  let buf := s.pcu.bufs[k]
  let on := match buf.record with | some r => s.takeThresholds r | none => none
  let p := { s.pcu.setBuf k { buf with state := .detecting } with readyOrder := s.pcu.readyOrder.drop 1 }
  let s1 := (s.withPcu p).withLdu { s.ldu with job := some ⟨k, on⟩, last := none }
  if on.isSome then s1 else s1.detFinish ⟨k, on⟩

/-! ### The profile path (R71, R72, R92, R93) -/

/-- One begin that can happen now; the PCU is asked first (R72, R93 item 3). -/
def State.pathStep (s : State) : Option State :=
  match s.condReady with
  | some (b, k) => some (s.condBegin b k)
  | none => s.detReady.map fun k => s.detBegin k

/-- At most `n` begins, one after the other. -/
def State.pathLoop : Nat → State → State
  | 0, s => s
  | n + 1, s =>
    match s.pathStep with
    | some t => State.pathLoop n t
    | none => s

/-- Every begin that an event has made possible happens at that event (R71, R92), and a bank left
waiting at the head of the queue is counted (R90): a bank whose buffer a detection releases within the same
event has not waited. DESIGN CHOICE (log entry 24). Six banks and two buffers allow at most 14 begins. -/
def State.moveProfiles (s : State) : State := (State.pathLoop 16 s).countWait

end Sys2Proof.Machine
end

