-- ==== Sys2Proof/Machine/Rsp.lean ====
section
/-! DEFINITION. The Receiver Sample Port (chapter 2): the elastic buffer, the burst parser, header
validation, samples, completion and rejection, and the path check. -/

namespace Sys2Proof.Machine

/-! ### Words (R30, R173) -/

/-- A burst mark: AA00H to ABFFH (R30). -/
def isMark (w : Word) : Bool := 0xAA00 ≤ w.toNat && w.toNat ≤ 0xABFF

/-- A mark's tag: its value minus AA00H, modulo 256 (R30). -/
def markTag (w : Word) : Byte := BitVec.ofNat 8 (w.toNat - 0xAA00)

/-- A mark's TEST bit: set from AB00H up (R30). -/
def markTest (w : Word) : Bool := 0xAB00 ≤ w.toNat

/-- A reading word above 4095 is taken as 4095 (R30). -/
def readingOf (w : Word) : Nat := min w.toNat 4095

/-! ### Elastic buffer (R31, R32) -/

/-- Whether an item takes room. -/
def BufItem.isWord : BufItem → Bool
  | .word _ => true
  | .slip => false

/-- The words that the buffer holds; a slip point is none (R31). -/
def Rsp.occupancy (r : Rsp) : Nat := (r.buffer.filter BufItem.isWord).length

/-- A word written at the tail (R31). -/
def Rsp.store (r : Rsp) (w : Word) : Rsp :=
  { r with
    buffer := r.buffer ++ [.word w]
    highWater := max r.highWater (r.occupancy + 1) }

/-- A word taken at an SDSTB strobe (R31, R32). -/
def State.wordArrives (s : State) (w : Word) : State :=
  if s.rsp.occupancy < Config.bufferWords then
    if s.rsp.slipSpell then
      if isMark w then s.withRsp { s.rsp.store w with slipSpell := false }
      else s.bump Ctr.slippedWords
    else s.withRsp (s.rsp.store w)
  else if s.rsp.slipSpell then s.bump Ctr.slippedWords
  else
    ((s.withRsp { s.rsp with buffer := s.rsp.buffer ++ [.slip], slipSpell := true }).bump
      Ctr.slippedWords).raise .slip

/-! ### Settling captures (R40, R45, R48) -/

/-- A path-check capture is settled; the check ends when all n have been issued (R45, R48). -/
def State.settlePath (s : State) : State :=
  let c := s.rsp.path
  s.withRsp { s.rsp with
    path := { c with capture := none, settled := c.settled + 1, running := c.running && !(c.issued = c.n) } }

/-- The parser set, with no truncation timer. -/
def State.parserTo (s : State) (p : Parser) : State :=
  s.withRsp { s.rsp with parser := p, truncTimer := none }

/-- The settlement of the capture that a burst is bound to, rejected: the GAU discards the staging
vector, and the capture is emptied (R8, R40, R45, R55). -/
def State.rejectCapture (s : State) (path : Bool) : State :=
  let s1 := s.discardStaging
  if path then s1.settlePath
  else
    match s1.fcu.shot with
    | some sh => s1.settleShot sh .rejected
    | none => s1

/-- A burst in SAMPLES rejected before completion (R40): the parser hunts. -/
def State.rejectBurst (s : State) (b : Burst) : State := (s.parserTo .hunt).rejectCapture b.path

/-- The completion of a burst by the kind of its capture (R40). -/
def State.completeBurst (s : State) (b : Burst) : State :=
  let s1 := s.parserTo .trail
  if b.path then (s1.bump Ctr.pathBursts).settlePath
  else
    match s1.fcu.shot with
    | none => s1
    | some sh =>
      match sh.kind with
      | .fire =>
        if sh.weak then s1.settleShot sh .rejected
        else ((s1.bump Ctr.firedAccepted).commitFire sh.slot).settleShot sh .accepted
      | .dark => ((s1.bump Ctr.darkAccepted).commitDark sh.prog).settleShot sh .accepted

/-! ### Headers (R34 to R36, R41) -/

/-- A burst that fails validation: its three header words are discarded and the parser hunts (R33, 2.4). -/
def State.failHeader (s : State) : State := (s.parserTo .hunt).bumpBy Ctr.discardedWords 3

/-- A matched header whose count is right: the parser enters SAMPLES with the expected count and starts
the truncation timer for the shot period in force (R36, R40): the setting now held, also before the next
slot time after a SET_FIRING. DESIGN CHOICE (log entry 23). -/
def State.enterSamples (s : State) (path : Bool) (tag : Byte) (count : Nat) : State :=
  s.withRsp { s.rsp with
    parser := .samples ⟨path, tag, count, 0⟩
    truncTimer := some s.fcu.firing.shotPeriod }

/-- A header taken while a path-check capture is outstanding (R35, R36). -/
def State.pathHeader (s : State) (c : PathCapture) (mark count : Word) : State :=
  if markTag mark ≠ c.tag ∨ markTest mark = false then
    ((s.bump Ctr.tagErrors).failHeader).rejectCapture true
  else
    let s1 := s.withRsp { s.rsp with path := { s.rsp.path with capture := some { c with headerTaken := true } } }
    if count.toNat ≠ c.len then ((s1.bump Ctr.lengthErrors).failHeader).rejectCapture true
    else s1.enterSamples true c.tag c.len

/-- A header taken while a fired shot or a dark capture is in flight (R35, R36, R41). -/
def State.shotHeader (s : State) (sh : Shot) (mark reading count : Word) : State :=
  if markTag mark ≠ sh.tag ∨ markTest mark = true then
    ((s.bump Ctr.tagErrors).failHeader).rejectCapture false
  else
    let s1 := s.judge sh (readingOf reading)
    if s1.fcu.state = .tripped then (s1.bump Ctr.strayBursts).failHeader
    else if count.toNat ≠ s1.fcu.firing.recordLen then
      ((s1.bump Ctr.lengthErrors).failHeader).rejectCapture false
    else
      (s1.enterSamples false sh.tag s1.fcu.firing.recordLen).openStaging
        ⟨sh.prog, sh.kind, readingOf reading⟩

/-- A header is taken: it is validated against the path-check capture while a check runs, against the
shot in flight otherwise; with neither outstanding the burst is STRAY (R34). -/
def State.takeHeader (s : State) (mark reading count : Word) : State :=
  if s.rsp.path.running then
    match s.rsp.path.capture with
    | some c => s.pathHeader c mark count
    | none => (s.bump Ctr.strayBursts).failHeader
  else
    match s.fcu.shot with
    | some sh => s.shotHeader sh mark reading count
    | none => (s.bump Ctr.strayBursts).failHeader

/-! ### Path-check samples (R46, R47) -/

/-- The pattern word of sample `k` of a burst with tag `t` (R46). -/
def patternWord (t : Byte) (k : Nat) : Nat := (t.toNat * 257 + k * 4093) % 16384

/-- The path-check record after one compared word (R46, R47): the record, whether an error was counted,
and whether the sync state changed. -/
def PathCheck.compare (c : PathCheck) (correct : Bool) : PathCheck × Bool × Bool :=
  let win := (if c.wordIndex % 48 = 0 then 0 else c.windowErrors) + (if correct then 0 else 1)
  let c1 := { c with compared := c.compared + 1, wordIndex := c.wordIndex + 1, windowErrors := win }
  if c.inSync then
    if correct then (c1, false, false)
    else
      let c2 := { c1 with errors := c1.errors + 1 }
      if 10 ≤ win then
        ({ c2 with inSync := false, correctRun := 0, syncChanges := c2.syncChanges + 1 }, true, true)
      else (c2, true, false)
  else if correct then
    if c.correctRun + 1 = 48 then
      ({ c1 with correctRun := 48, inSync := true, syncChanges := c1.syncChanges + 1 }, false, true)
    else ({ c1 with correctRun := c.correctRun + 1 }, false, false)
  else ({ c1 with correctRun := 0 }, false, false)

/-- A path-check word compared, with its counters and its notice (R46, R47). -/
def State.compareWord (s : State) (b : Burst) (w : Word) : State :=
  match s.rsp.path.compare (w.toNat = patternWord b.tag b.next) with
  | (c, err, change) =>
    let s1 := (s.withRsp { s.rsp with path := c }).bump Ctr.pathWordsCompared
    let s2 := if err then s1.bump Ctr.pathWordErrors else s1
    if change then (s2.bump Ctr.pathSyncChanges).raise .pathSyncChange else s2

/-! ### Samples (R37, R40) -/

/-- A sample word's code, clamped to 16383 (R37). -/
def sampleCode (w : Word) : Nat := min w.toNat 16383

/-- A sample of a fired shot or dark capture: clamped, counted, and passed to the GAU (R37). -/
def State.passSample (s : State) (k : Nat) (w : Word) : State :=
  let s1 := if 16383 < w.toNat then s.bump Ctr.overRangeSamples else s
  let s2 := if sampleCode w = 16383 then s1.bump Ctr.saturatedSamples else s1
  s2.binSample k (sampleCode w) (sampleCode w = 16383)

/-- A sample word taken in SAMPLES; the last one completes the burst (R37, R40, R46). -/
def State.takeSample (s : State) (b : Burst) (w : Word) : State :=
  let s1 := if b.path then s.compareWord b w else s.passSample b.next w
  let b1 := { b with next := b.next + 1 }
  if b1.next = b1.expected then s1.completeBurst b1
  else s1.withRsp { s1.rsp with parser := .samples b1 }

/-! ### The parser (R31 to R33, R38, R39) -/

/-- The words of a partial header. -/
def headerWords (reading : Option Word) : Nat := if reading.isSome then 2 else 1

/-- A mark word taken (R33, R38): whatever the parser was doing, a new header begins. -/
def State.takeMark (s : State) (w : Word) : State :=
  let s1 :=
    match s.rsp.parser with
    | .hunt | .trail => s
    | .header _ reading => s.bumpBy Ctr.discardedWords (headerWords reading)
    | .samples b => ((s.bump Ctr.shortBursts).rejectBurst b).raise .slip
  s1.parserTo (.header w none)

/-- Any other word taken (R33). -/
def State.takeOther (s : State) (w : Word) : State :=
  match s.rsp.parser with
  | .hunt => s.bump Ctr.discardedWords
  | .header m none => s.parserTo (.header m (some w))
  | .header m (some r) => s.takeHeader m r w
  | .samples b => s.takeSample b w
  | .trail => s.bump Ctr.excessWords

/-- The parser reaches a slip point (R32). -/
def State.reachSlip (s : State) : State :=
  match s.rsp.parser with
  | .samples b => (s.bump Ctr.slippedBursts).rejectBurst b
  | .header _ reading => (s.parserTo .hunt).bumpBy Ctr.discardedWords (headerWords reading)
  | .hunt | .trail => s.parserTo .hunt

/-- The slip points at the head of the buffer are reached: the first acts, after which the parser hunts
and the others have no effect (R32). -/
def State.reachSlips (s : State) : State :=
  match s.rsp.buffer with
  | .slip :: rest => (s.withRsp { s.rsp with buffer := rest.dropWhile fun x => !x.isWord }).reachSlip
  | _ => s

/-- Whether the staging vector is COMMITTING (R53). -/
def Staging.busy : Staging → Bool
  | .committing _ _ => true
  | _ => false

/-- Whether the parser must wait before it takes `w`: the first sample word of a burst to be binned
waits for the end of a commit; a mark never waits (R31). -/
def State.mustWait (s : State) (w : Word) : Bool :=
  match s.rsp.parser with
  | .samples b => !isMark w && !b.path && b.next = 0 && s.gau.staging.busy
  | _ => false

/-- The parser takes the word at the head of the buffer (R31, R33), less what that sets off in the
profile path. A slip point that comes to the head is reached at the same event. -/
def State.parserTakes (s : State) : State :=
  match s.rsp.buffer with
  | [] => s
  | .slip :: _ => s.reachSlips
  | .word w :: rest =>
    if s.mustWait w then s
    else
      let s1 := s.withRsp { s.rsp with buffer := rest }
      State.reachSlips (if isMark w then s1.takeMark w else s1.takeOther w)

/-- The truncation timer of the burst in SAMPLES expires (R40). -/
def State.truncate (s : State) : State :=
  match s.rsp.truncTimer, s.rsp.parser with
  | some _, .samples b => ((s.bump Ctr.truncatedBursts).rejectBurst b).raise .slip
  | _, _ => s

/-! ### The burst timeout (R9, R45) -/

/-- The path-check capture that the running burst timeout finds with no header taken (R45). -/
def State.pathExpiring (s : State) (tag : Byte) : Bool :=
  match s.rsp.path.capture with
  | some c => c.tag = tag && !c.headerTaken
  | none => false

/-- The shot that the running burst timeout finds with no header taken (R9). -/
def State.shotExpiring (s : State) (tag : Byte) : Option Shot :=
  match s.fcu.shot with
  | some sh => if sh.tag = tag ∧ sh.headerTaken = false then some sh else none
  | none => none

/-- The burst timeout expires (R9, R45): it has an effect only on the capture it was started for, and
only while no header has been taken for it. -/
def State.timeoutExpires (s : State) : State :=
  match s.fcu.burstTimer with
  | none => s
  | some t =>
    let s1 := s.withFcu { s.fcu with burstTimer := none }
    if s1.pathExpiring t.tag then (s1.bump Ctr.pathLost).settlePath
    else
      match s1.shotExpiring t.tag with
      | some sh => s1.loseShot sh
      | none => s1

/-- The end of a commit (R53, R55): the vector becomes IDLE, or the held open is carried out. -/
def State.commitEnds (s : State) : State :=
  match s.gau.staging with
  | .committing _ none => s.withStaging .idle
  | .committing _ (some r) => s.withStaging (.staging (s.freshVec r))
  | _ => s

end Sys2Proof.Machine
end

