-- ==== Sys2Proof/Machine/Status.lean ====
section
/-! DEFINITION. What the station computer reads: the sections of READ_STATUS (R168, R178), the counters
of READ_COUNTERS (R169), the Track Table of READ_TRACKS (R170), laid out by R177 and R178. -/

namespace Sys2Proof.Machine

/-! ### Section 0: the FCU (46 bytes) -/

/-- The shot in flight (R178): five zero bytes when it is empty. -/
def shotBytes : Option Shot → List Byte
  | some sh =>
    be 1 (flagBits [true, sh.headerTaken, sh.weak]) ++ [sh.kind.code] ++ be 1 sh.prog.val
      ++ be 1 sh.slot.val ++ [sh.tag]
  | none => be 5 0

/-- A trip record (R178): thirteen zero bytes when it is empty. -/
def tripBytes : Option TripRecord → List Byte
  | some r =>
    [1] ++ [r.cause.code] ++ timeBytes r.time ++ [bit1 r.time.valid] ++ be 1 r.slot.val
      ++ [bit1 r.additionalInterlock]
  | none => be 13 0

/-- Section 0 (R178). -/
def statusFcu (s : State) : List Byte :=
  [s.fcu.state.code] ++ be 4 s.fcu.window.sum ++ [s.fcu.shotTag] ++ shotBytes s.fcu.shot
    ++ (s.fcu.servos.toList.map fun v => v.mode.code :: be 1 v.drive).flatten
    ++ tripBytes s.fcu.trip ++ tripBytes s.fcu.lastTrip ++ [bit1 s.fcu.interlockClosed]

/-! ### Section 1: the RSP (25 bytes) -/

/-- Section 1 (R178). -/
def statusRsp (s : State) : List Byte :=
  let c := s.rsp.path
  be 2 s.rsp.occupancy ++ be 2 s.rsp.highWater ++ [s.rsp.parser.code] ++ [bit1 c.running] ++ be 2 c.n
    ++ be 2 c.issued ++ be 2 c.settled ++ [bit1 c.inSync] ++ be 4 c.compared ++ be 4 c.errors
    ++ be 4 c.syncChanges

/-! ### Section 2: the GAU (81 bytes) -/

/-- One bank (R178): its state, then ten zero bytes when it is FREE. -/
def bankBytes (k : Bank) : List Byte :=
  [k.state.code] ++
    if k.state = .free then be 10 0
    else
      be 1 k.prog.val ++ be 2 k.seq ++ be 2 k.elapsed ++ be 2 k.nAcc ++ be 2 k.dAcc
        ++ [match k.outcome with | some o => o.code | none => 0]

/-- The Conditioning Queue (R178): the number of banks, then six bank numbers, unused places 0. -/
def queueBytes (q : List (Fin 6)) : List Byte :=
  be 1 q.length ++ (q.map Fin.val ++ List.replicate (6 - q.length) 0).flatMap (be 1)

/-- Section 2 (R178). -/
def statusGau (s : State) : List Byte :=
  s.gau.banks.toList.flatMap bankBytes ++ queueBytes s.gau.queue ++ s.gau.nextSeq.toList.flatMap (be 2)

/-! ### Section 3: the PCU (61 bytes) -/

/-- The PCU state and the profile being conditioned (R178). -/
def jobBytes (s : State) : List Byte :=
  match s.pcu.job with
  | some j => [1] ++ be 1 j.bank.val ++ be 1 (s.gau.banks[j.bank]).prog.val ++ be 2 (s.gau.banks[j.bank]).seq
  | none => be 5 0

/-- One Result Buffer (R178): its state, then its profile. -/
def bufBytes (b : ResultBuf) : List Byte :=
  [b.state.code] ++
    match b.record with
    | some r => be 1 r.prog.val ++ be 2 r.seq
    | none => be 3 0

/-- One record of the Background Hold Store (R178). -/
def heldBytes : Option HeldRec → List Byte
  | some h => [1] ++ be 2 h.gateCount ++ be 2 h.seq
  | none => be 5 0

/-- One pending injection record (R178). -/
def injBytes : Option Injection → List Byte
  | some i => [1] ++ be 2 i.first ++ be 1 i.count ++ beInt 3 i.amp
  | none => be 7 0

/-- Section 3 (R178). -/
def statusPcu (s : State) : List Byte :=
  jobBytes s ++ s.pcu.bufs.toList.flatMap bufBytes ++ s.pcu.held.toList.flatMap heldBytes
    ++ s.pcu.pendingInj.toList.flatMap injBytes

/-! ### Section 4: the LDU (18 bytes, and 16 per candidate) -/

/-- The LDU state and the profile in detection (R178). -/
def detectingBytes (s : State) : List Byte :=
  match s.ldu.job with
  | some j =>
    [1] ++ be 1 j.buf.val ++
      match (s.pcu.bufs[j.buf]).record with
      | some r => be 1 r.prog.val ++ be 2 r.seq
      | none => be 3 0
  | none => be 5 0

/-- One candidate (R178). -/
def candBytes (c : Candidate) : List Byte :=
  rangeBytes c.base ++ optRangeBytes c.top ++ rangeBytes c.peakIndex ++ beInt 3 c.peak
    ++ be 1 (flagBits [c.top.isSome, c.clipped])

/-- The last detection (R178): nine zero bytes when it is emptied. -/
def lastBytes : Option LastDetection → List Byte
  | some d =>
    be 1 d.prog.val ++ be 2 d.seq ++ be 1 d.cands.length ++ d.cands.flatMap candBytes
      ++ be 1 (flagBits [d.obscured, d.vv.isSome]) ++ optRangeBytes d.vv
  | none => be 9 0

/-- Section 4 (R178). -/
def statusLdu (s : State) : List Byte :=
  detectingBytes s ++ lastBytes s.ldu.last ++ s.ldu.frameCount.toList.flatMap (be 1)

/-! ### Section 5: the LTU and the SKU (50 bytes) -/

/-- How many tracks are in a state. -/
def countState (ts : List Track) (t : TrackState) : Nat := (ts.filter fun k => k.state = t).length

/-- One Capture Trigger Table entry (R147, R178): its condition, then four zero bytes when it is empty,
which an entry of condition NONE is (R142), also where SET_CAPTURE stored h and a program in it (R146).
DEDUCED (log entry 28). -/
def captureBytes (e : CaptureEntry) : List Byte :=
  [e.cond.code] ++
    if e.cond = .none then be 4 0
    else be 2 e.height ++ be 1 e.prog.val ++ be 1 (flagBits [e.armed, e.pending])

/-- Section 5 (R178). -/
def statusSky (s : State) : List Byte :=
  let ts := s.ltu.tracks
  let k := s.sku
  be 1 ts.length ++ be 1 (countState ts .tentative) ++ be 1 (countState ts .confirmed)
    ++ be 1 (countState ts .coasting) ++ trackingBytes s.ltu.params
    ++ [k.sky.code] ++ be 1 (flagBits [k.lastVv.isSome, k.ceiling.isSome, k.clearRearm])
    ++ optRangeBytes k.lastVv ++ be 1 k.hold ++ optRangeBytes k.ceiling ++ [bit1 k.ceilingLow]
    ++ be 2 k.threshold ++ be 2 k.hysteresis ++ be 1 k.divider ++ be 1 k.reportCount
    ++ k.captures.toList.flatMap captureBytes

/-! ### Section 6: program records, SLC and timebase (147 bytes) -/

/-- The CURRENT frame (R178). Its next segment is the first one not yet sent, which is the block on the
line. DEDUCED (log entry 9). -/
def currentBytes : Option Frame → List Byte
  | some f => be 1 f.kind.code ++ [f.tag] ++ be 1 f.sent
  | none => be 3 0

/-- The reporting settings in force (R167). -/
def Slc.reporting (l : Slc) : Reporting := ⟨l.levels, l.noticeMask, l.interval, l.charTimeout⟩

/-- Section 6 (R178). -/
def statusSlc (s : State) : List Byte :=
  allProgs.flatMap (fun p => programBytes p s.progs[p])
    ++ be 2 s.slc.bytesUsed ++ be 1 s.slc.descUsed ++ be 1 s.slc.responsesUsed ++ be 1 s.slc.stack.length
    ++ currentBytes s.slc.current ++ be 2 s.slc.noticeSet.toNat ++ be 2 s.slc.noticeMask.toNat
    ++ reportingBytes s.slc.reporting ++ timeBytes s.slc.time ++ [bit1 s.slc.time.valid]

/-- The items of section `n`, none above 6 (R168). -/
def statusSection (s : State) : Nat → Option (List Byte)
  | 0 => some (statusFcu s)
  | 1 => some (statusRsp s)
  | 2 => some (statusGau s)
  | 3 => some (statusPcu s)
  | 4 => some (statusLdu s)
  | 5 => some (statusSky s)
  | 6 => some (statusSlc s)
  | _ => none

/-! ### Counters and tracks -/

/-- Counter number `i` (R180). -/
def Counters.value (v : Counters) (i : Nat) : Nat := v.toList.getD i 0

/-- The values of `count` counters from identifier `first` (R177). -/
def counterBytes (v : Counters) (first count : Nat) : List Byte :=
  be 1 first ++ be 1 count ++ (List.range count).flatMap fun k => be 4 (v.value (first + k))

/-- One track, 23 bytes (R177). -/
def trackBytes (t : Track) : List Byte :=
  be 1 t.id ++ [t.state.code] ++ rangeBytes t.base ++ optRangeBytes t.top
    ++ be 1 (flagBits [t.top.isSome, t.test]) ++ beInt 3 t.peak ++ be 1 t.history.length
    ++ be 2 (flagBits t.history) ++ be 1 t.misses ++ be 2 t.totalHits ++ be 2 t.age
    ++ be 1 t.sources.toNat

/-- What READ_TRACKS adds to its response (R170, R177). -/
def tracksPayload (k : Ltu) : List Byte :=
  trackingBytes k.params ++ be 1 k.nextId ++ be 1 k.tracks.length ++ k.tracks.flatMap trackBytes

end Sys2Proof.Machine
end

