-- ==== Sys2Proof/Machine/Mgu.lean ====
section
/-! DEFINITION. The Management Unit (chapter 9): the checks of R165, every command by its owning rule,
the responses, and the taking of commands from the Inbound Command Queue. -/

namespace Sys2Proof.Machine

/-- What executing a command gives: the state, the result, what the response adds after the kind and the
result (R177), and what the completion of the response sets off. -/
structure Answer where
  st     : State
  result : Result
  extra  : List Byte
  after  : AfterSend
deriving DecidableEq, Repr

/-- A command executed with result OK. -/
def State.ok (s : State) : Answer := ⟨s, .ok, [], .nothing⟩

/-- A command refused: no state changes (R164). -/
def State.refuse (s : State) (r : Result) : Answer := ⟨s, r, [], .nothing⟩

/-! ### Program records and firing settings (R166, R25) -/

/-- The part with another record for program `p` (R166): its servo record is initialised (R17), its frame
count becomes 0 (R106), and its held background is emptied when the gate count changes (R77). -/
def State.writeProgram (s : State) (p : Prog) (r : ProgramRec) : State :=
  { s with
    progs := s.progs.set p r
    fcu := { s.fcu with servos := s.fcu.servos.set p (Servo.init r) }
    ldu := { s.ldu with frameCount := s.ldu.frameCount.set p 0 }
    pcu := if r.gateCount = s.progs[p].gateCount then s.pcu
           else { s.pcu with held := s.pcu.held.set p none } }

/-- SET_PROGRAM (R166). -/
def State.setProgram (s : State) (b : List Byte) : Answer :=
  if s.fcu.state = .running then s.refuse .wrongState
  else
    match readProgram b with
    | none => s.refuse .badValue
    | some (p, r) => (s.writeProgram p r).ok

/-- SET_FIRING (R25). -/
def State.setFiring (s : State) (b : List Byte) : Answer :=
  if s.fcu.state = .running then s.refuse .wrongState
  else
    match readFiring b with
    | none => s.refuse .badValue
    | some f => (s.withFcu { s.fcu with firing := f }).ok

/-- SET_SCHEDULE (R25). -/
def State.setSchedule (s : State) (b : List Byte) : Answer :=
  if s.fcu.state = .running then s.refuse .wrongState
  else
    match readSchedule b with
    | none => s.refuse .badValue
    | some v => (s.withFcu { s.fcu with schedule := v, pointer := 0 }).ok

/-! ### START, STOP, CLEAR_TRIP (R26 to R28) -/

/-- Whether an entry is FIRE for an enabled program (R26, check 3). -/
def State.firesEnabled (s : State) (e : SlotEntry) : Bool :=
  match e with
  | .fire p => s.progs[p].enabled
  | _ => false

/-- Whether START finds something to fire and no path check running (R26, check 3). -/
def State.startReady (s : State) : Bool :=
  !s.rsp.path.running && s.fcu.schedule.toList.any s.firesEnabled

/-- A servo at START (R17). -/
def Servo.atStart (v : Servo) (r : ProgramRec) : Servo :=
  match v.mode with
  | .manual => { v with drive := r.startDrive }
  | _ => { v with mode := .acquire, lockRun := 0, groupSum := 0, groupCount := 0 }

/-- What an accepted START does (R26, R17, R59, R11, R14, R15). -/
def State.run (s : State) : State :=
  (s.withFcu { s.fcu with
    state := .running
    servos := Vector.ofFn fun p : Fin 4 => (s.fcu.servos[p]).atStart s.progs[p]
    weakRun := 0
    lostRun := 0
    budgetHold := false }).withGau { s.gau with starved := Vector.replicate 4 false }

/-- START (R26). BAD_CONFIG adds the program and the entry index (R177). -/
def State.start (s : State) : Answer :=
  if s.fcu.state ≠ .halted then s.refuse .wrongState
  else if s.fcu.interlockClosed = false then s.refuse .interlock
  else if s.startReady = false then s.refuse .notReady
  else
    match s.gateFault with
    | some (p, i) => ⟨s, .badConfig, be 1 p.val ++ be 2 i, .nothing⟩
    | none => s.run.ok

/-- STOP (R27). -/
def State.stop (s : State) : Answer :=
  if s.fcu.state = .running then
    let s1 := s.ceaseFire
    (s1.withFcu { s1.fcu with state := .halted }).ok
  else s.ok

/-- CLEAR_TRIP (R28). -/
def State.clearTrip (s : State) : Answer :=
  if s.fcu.state ≠ .tripped then s.refuse .wrongState
  else if s.fcu.interlockClosed = false then s.refuse .interlock
  else
    (s.withFcu { s.fcu with state := .halted, alert := false, lastTrip := s.fcu.trip, trip := none }).ok

/-! ### Table loads (R51, R89, R109) -/

/-- LOAD_GATES (R51). -/
def State.loadGates (s : State) (b : List Byte) : Answer :=
  match readGates b with
  | none => s.refuse .badValue
  | some l =>
    if s.fcu.state = .running ∧ s.runEnabled l.start l.entries.length = true then s.refuse .inUse
    else if s.gau.runWaiting l.start l.entries.length then s.refuse .busy
    else
      (s.withGau { s.gau with
        gateMap := Tab.writeRun GateEntry.reset s.gau.gateMap l.start l.entries }).ok

/-- Whether a run meets the correction run of the conditioning in progress (R89, check 2). -/
def State.correctionHeld (s : State) (start n : Nat) : Bool :=
  match s.pcu.job with
  | some j =>
    runsMeet start n (s.gau.banks[j.bank]).copy.corrBase (s.gau.banks[j.bank]).copy.gateCount
  | none => false

/-- LOAD_CORRECTION (R89). -/
def State.loadCorrection (s : State) (b : List Byte) : Answer :=
  match readCorrection b with
  | none => s.refuse .badValue
  | some l =>
    if s.correctionHeld l.start l.entries.length then (s.bump Ctr.correctionBusy).refuse .busy
    else
      (s.withPcu { s.pcu with
        corrTable := Tab.writeRun CorrEntry.reset s.pcu.corrTable l.start l.entries }).ok

/-- The program copy of the detection in progress, where it took threshold entries (R92, R109). -/
def State.thresholdUser (s : State) : Option ProgramRec :=
  match s.ldu.job with
  | some j => if j.on.isSome then ((s.pcu.bufs[j.buf]).record).map ResultRec.copy else none
  | none => none

/-- Whether a run meets the threshold run of the detection in progress (R109, check 2). -/
def State.thresholdsHeld (s : State) (start n : Nat) : Bool :=
  match s.thresholdUser with
  | some c => runsMeet start n c.thrBase c.gateCount
  | none => false

/-- LOAD_THRESHOLDS (R109). -/
def State.loadThresholds (s : State) (b : List Byte) : Answer :=
  match readThresholds b with
  | none => s.refuse .badValue
  | some l =>
    if s.thresholdsHeld l.start l.entries.length then (s.bump Ctr.thresholdBusy).refuse .busy
    else
      (s.withLdu { s.ldu with
        thrTable := Tab.writeRun Config.betaMax s.ldu.thrTable l.start l.entries }).ok

/-! ### Tracking, sky, capture (R116, R130, R139, R145, R146) -/

/-- SET_TRACKING (R116): the parameters are replaced and long histories cut. -/
def State.setTracking (s : State) (b : List Byte) : Answer :=
  match readTracking b with
  | none => s.refuse .badValue
  | some q =>
    ((s.withLtu { s.ltu with params := q, tracks := s.ltu.tracks.map fun t => t.cut q.histLen }).bump
      Ctr.trackingSets).ok

/-- RESET_TRACKS (R130): the table is emptied and the SKU told (R139). -/
def State.resetTracks (s : State) : Answer :=
  let n := s.ltu.tracks.length
  let s1 := (s.withLtu { s.ltu with tracks := [] }).bumpBy Ctr.tracksCleared n
  ⟨s1.skyEmptied, .ok, be 1 n, .nothing⟩

/-- SET_SKY (R145). -/
def State.setSky (s : State) (b : List Byte) : Answer :=
  match readSky b with
  | none => s.refuse .badValue
  | some v =>
    (s.withSku { s.sku with
      threshold := v.threshold, hysteresis := v.hysteresis, divider := v.divider, reportCount := 0 }).ok

/-- SET_CAPTURE (R146). -/
def State.setCapture (s : State) (b : List Byte) : Answer :=
  match readCapture b with
  | none => s.refuse .badValue
  | some c =>
    let e : CaptureEntry := ⟨c.cond, c.height, c.prog, decide (c.cond ≠ .none), false⟩
    (s.withSku { s.sku with captures := s.sku.captures.set c.entry e }).ok

/-! ### Injected echoes and path checks (R86, R43) -/

/-- An accepted injection: the amplitude −8,388,608 is clamped, and a pending one is replaced (R86). -/
def State.inject (s : State) (p : Prog) (e : EchoArgs) : Answer :=
  let i : Injection := ⟨e.first, e.count, max e.amp (-(Config.betaMax : Int))⟩
  let s1 := s.withPcu { s.pcu with pendingInj := s.pcu.pendingInj.set p (some i) }
  if (s.pcu.pendingInj[p]).isSome then ⟨s1.bump Ctr.injectionsReplaced, .replaced, [], .nothing⟩ else s1.ok

/-- INJECT_ECHO (R86). -/
def State.injectEcho (s : State) (b : List Byte) : Answer :=
  let e := readEcho b
  if s.fcu.state ≠ .running then s.refuse .wrongState
  else
    match progOf e.prog with
    | none => s.refuse .badValue
    | some p =>
      if 1 ≤ e.count ∧ e.count ≤ 16 ∧ e.first + e.count ≤ s.progs[p].gateCount then
        if s.progs[p].enabled then s.inject p e else s.refuse .notReady
      else s.refuse .badValue

/-- PATH_CHECK (R43). -/
def State.pathCheck (s : State) (b : List Byte) : Answer :=
  let n := field b 0 2
  if s.fcu.state ≠ .halted then s.refuse .wrongState
  else if s.rsp.path.running then s.refuse .busy
  else if n = 0 then s.refuse .badValue
  else (s.withRsp { s.rsp with path := { PathCheck.reset with running := true, n := n } }).ok

/-- INJECT_CRC (R161): the flag is set when the response has completed. -/
def State.injectCrc (s : State) : Answer := ⟨s, .ok, [], .crcInject⟩

/-! ### Time and reporting (R159, R167) -/

/-- The step of a TIME_MARK in microseconds (R159). -/
def markStep (mark now : Stamp) : Int := mark.total - now.total

/-- An accepted TIME_MARK (R159). -/
def State.mark (s : State) (m : Stamp) : State :=
  let t := s.slc.time
  let s1 := (s.withSlc { s.slc with time := m }).bump Ctr.timeMarks
  if t.valid && decide (1000 < (markStep m t).natAbs) then (s1.bump Ctr.timeSteps).raise .timeStep else s1

/-- The step that the response to a TIME_MARK carries (R159). -/
def stepReported (mark now : Stamp) : Int :=
  if now.valid then clampInt (-2147483647) 2147483647 (markStep mark now) else 0

/-- TIME_MARK (R159). -/
def State.timeMark (s : State) (b : List Byte) : Answer :=
  match readTimeMark b with
  | none => s.refuse .badValue
  | some (sec, usec) =>
    ⟨s.mark ⟨sec, usec, true⟩, .ok, beInt 4 (stepReported ⟨sec, usec, true⟩ s.slc.time), .nothing⟩

/-- SET_REPORTING (R167). -/
def State.setReporting (s : State) (b : List Byte) : Answer :=
  match readReporting b with
  | none => s.refuse .badValue
  | some r =>
    let s1 := s.withSlc { s.slc with
      levels := r.levels, noticeMask := r.mask, interval := r.period, charTimeout := r.timeout, elapsed := 0 }
    (s1.withLink s1.link.attemptIfPending).ok

/-! ### Reads and soft reset (R168 to R171) -/

/-- READ_STATUS (R168). -/
def State.readStatus (s : State) (b : List Byte) : Answer :=
  match statusSection s (field b 0 1) with
  | none => s.refuse .badValue
  | some p => ⟨s, .ok, p, .nothing⟩

/-- The counters with `n` of them from identifier `first` cleared (R169). -/
def Counters.clear (v : Counters) (first n : Nat) : Counters :=
  Vector.ofFn fun i : Fin 117 => if first ≤ i.val ∧ i.val < first + n then 0 else v[i]

/-- The snapshots after a clearing read (R169). -/
def clearSnapshots (v : Vector Nat 16) (first n : Nat) : Vector Nat 16 :=
  Vector.ofFn fun i : Fin 16 =>
    if first ≤ (intervalList[i]).val ∧ (intervalList[i]).val < first + n then 0 else v[i]

/-- READ_COUNTERS (R169). -/
def State.readCounters (s : State) (b : List Byte) : Answer :=
  match readCounterRange b with
  | none => s.refuse .badValue
  | some (first, n, clear) =>
    let s1 :=
      if clear then
        { s with ctrs := s.ctrs.clear first n
                 slc := { s.slc with snapshots := clearSnapshots s.slc.snapshots first n } }
      else s
    ⟨s1, .ok, counterBytes s.ctrs first n, .nothing⟩

/-- READ_TRACKS (R170). -/
def State.readTracks (s : State) : Answer := ⟨s, .ok, tracksPayload s.ltu, .nothing⟩

/-- SOFT_RESET (R171): the MGU waits for its response to be sent. -/
def State.softReset (s : State) : Answer := ⟨{ s with mgu := .resetting }, .ok, [], .softReset⟩

/-- The soft reset takes effect (R171): every block takes its soft-reset value, which is its power-on
value but for the line rate, the timebase, the running second, the interval snapshots, the counters and
the level of the INTERLOCK pin. -/
def State.softResetEffect (s : State) : State :=
  let p := State.powerOn s.slc.rate
  { p with
    fcu := { p.fcu with interlockClosed := s.fcu.interlockClosed }
    slc := { p.slc with time := s.slc.time, runUsec := s.slc.runUsec, snapshots := s.slc.snapshots }
    ctrs := Counters.add s.ctrs Ctr.commandsDiscarded s.slc.inbound.length
    pending := s.pending }

/-! ### The commands (R165, R174) -/

/-- The commands of section 9.3. -/
inductive Command where
  | setProgram | setFiring | setSchedule | start | stop | clearTrip | loadGates | loadCorrection
  | loadThresholds | setTracking | resetTracks | setSky | setCapture | injectEcho | injectCrc | pathCheck
  | setReporting | timeMark | readStatus | readCounters | readTracks | softReset
deriving DecidableEq, Repr

/-- The commands in the order of their kind codes, 10H to 25H (R174). -/
def Command.all : List Command :=
  [.setProgram, .setFiring, .setSchedule, .start, .stop, .clearTrip, .loadGates, .loadCorrection,
    .loadThresholds, .setTracking, .resetTracks, .setSky, .setCapture, .injectEcho, .injectCrc,
    .pathCheck, .setReporting, .timeMark, .readStatus, .readCounters, .readTracks, .softReset]

/-- The command of a kind code (R174). -/
def commandOf (kind : Byte) : Option Command :=
  if kind.toNat < 0x10 then none else Command.all[kind.toNat - 0x10]?

/-- The payload length that R174 gives for a command; for a table load it depends on the entry count that
the block carries (R165, check 3). -/
def Command.length (b : List Byte) : Command → Nat
  | .setProgram => 29
  | .setFiring => 10
  | .setSchedule => 32
  | .loadGates | .loadCorrection | .loadThresholds => 3 + 3 * field b 2 1
  | .setTracking | .timeMark => 8
  | .setSky | .setCapture => 5
  | .injectEcho => 7
  | .pathCheck => 2
  | .setReporting => 10
  | .readStatus => 1
  | .readCounters => 3
  | .start | .stop | .clearTrip | .resetTracks | .injectCrc | .readTracks | .softReset => 0

/-- A command that has passed the checks 1 to 3 of R165, by its owning rule. -/
def Command.run (s : State) (b : List Byte) : Command → Answer
  | .setProgram => s.setProgram b
  | .setFiring => s.setFiring b
  | .setSchedule => s.setSchedule b
  | .start => s.start
  | .stop => s.stop
  | .clearTrip => s.clearTrip
  | .loadGates => s.loadGates b
  | .loadCorrection => s.loadCorrection b
  | .loadThresholds => s.loadThresholds b
  | .setTracking => s.setTracking b
  | .resetTracks => s.resetTracks
  | .setSky => s.setSky b
  | .setCapture => s.setCapture b
  | .injectEcho => s.injectEcho b
  | .injectCrc => s.injectCrc
  | .pathCheck => s.pathCheck b
  | .setReporting => s.setReporting b
  | .timeMark => s.timeMark b
  | .readStatus => s.readStatus b
  | .readCounters => s.readCounters b
  | .readTracks => s.readTracks
  | .softReset => s.softReset

/-- A command block checked in the order of R165 and executed. -/
def State.execute (s : State) (b : InBlock) : Answer :=
  if b.segment = 0 ∧ b.last = true then
    match commandOf b.kind with
    | none => s.refuse .badCommand
    | some c => if b.payload.length = c.length b.payload then c.run s b.payload else s.refuse .badLength
  else s.refuse .badCommand

/-! ### Taking and answering (R163, R164) -/

/-- The response to block `b`: a refusal is counted, and the response joins the Response Queue (R164,
R177). -/
def Answer.respond (a : Answer) (b : InBlock) : State :=
  let s1 := a.st.bumpIf a.result.refusal Ctr.commandsRefused
  s1.withLink (s1.link.putResponse b.tag ([b.kind, a.result.code] ++ a.extra) a.after)

/-- Block `b` leaves the head of the Inbound Command Queue, is counted, executed and answered (R163). -/
def State.takeCommand (s : State) (b : InBlock) (rest : List InBlock) : State :=
  let s1 := (s.withSlc { s.slc with inbound := rest }).bump Ctr.commandsTaken
  (s1.execute b).respond b

/-- Whether the MGU can take a command: it is READY and a Response Queue entry is free (R163). -/
def State.canTake (s : State) : Bool :=
  s.mgu = .ready && s.slc.responsesUsed < Config.responseSlots

/-- Commands taken one after the other, at most `n` (R163). -/
def State.takeLoop : Nat → State → State
  | 0, s => s
  | n + 1, s =>
    if s.canTake then
      match s.slc.inbound with
      | b :: rest => State.takeLoop n (s.takeCommand b rest)
      | [] => s
    else s

/-- Every command that can be taken at an event is taken at it (R163). -/
def State.serve (s : State) : State := State.takeLoop s.slc.inbound.length s

/-- A good block (R152): it joins the Inbound Command Queue, or is discarded at a full queue. -/
def State.deliver (s : State) (b : InBlock) : State :=
  if s.slc.inbound.length < Config.inboundSlots then
    ((s.withSlc { s.slc with inbound := s.slc.inbound ++ [b] }).bump Ctr.inboundGood).serve
  else (s.bump Ctr.inboundOverrun).raise .inboundOverrun

end Sys2Proof.Machine
end

