-- ==== Sys2Proof/Machine/Serial.lean ====
section
/-! DEFINITION. The characters of the station line as bits (R149): the frame of a character, the level of
SLTX, and the rates. A level is true where it is the stop level. -/

namespace Sys2Proof.Machine

/-- The bit times of a character: start bit, 8 data bits, stop bit, no parity (R149). -/
def charTime : Nat := 10

/-- The levels of a character on the line, in the order sent: the start bit, which departs from the stop
level, the data bits least significant first, the stop bit (R149). The start bit's level and the reading
of a 1 as the stop level are PRESUMED (log entry 34). -/
def charBits (c : Byte) : List Bool := false :: (List.range 8).map (fun k => c.getLsbD k) ++ [true]

/-- A byte from its 8 data bits, least significant first (R149). -/
def byteOfBits (bs : List Bool) : Byte := BitVec.ofNat 8 (bs.foldr (fun b n => b.toNat + 2 * n) 0)

/-- The character that ten levels on SLRX stand for, and whether its stop bit was right (R149, R151).
Without a start bit there is no character. -/
def heardChar (levels : List Bool) : Option (Byte × Bool) :=
  match levels with
  | false :: rest => if rest.length = 9 then some (byteOfBits (rest.take 8), rest.getD 8 false) else none
  | _ => none

/-- The rate in baud that the RATE pins select (R149, pin summary of I.6). That RATE1 is the left digit of
the summary's codes and the higher bit here is the model's. DESIGN CHOICE (log entry 35), unsafe. -/
def baud (rate : BitVec 2) : Nat :=
  if rate = 0 then 115200 else if rate = 1 then 460800 else if rate = 2 then 921600 else 2000000

/-- The levels of the block on SLTX, its characters without a gap between them (R149). -/
def Slc.txBits (s : Slc) : List Bool := s.txBlock.flatMap charBits

/-- The level of SLTX in bit time `k` of the block on it; the line idles at the stop level (R149). -/
def Slc.txLevel (s : Slc) (k : Nat) : Bool := s.txBits.getD k true

/-- The bit times after which an inter-character timeout of `n` character times has passed (R149, R151). -/
def gapBits (n : Nat) : Nat := charTime * n

end Sys2Proof.Machine
end

