-- ==== Sys2Proof/Machine/Line.lean ====
section
/-! DEFINITION. The two ends of the station line: the inbound parser (R151, R152) and the completion of
an outbound block (R155). -/

namespace Sys2Proof.Machine

/-! ### Inbound characters (R151) -/

/-- The inbound parser set. -/
def State.listen (s : State) (p : InParser) : State := s.withSlc { s.slc with inParser := p }

/-- A block in progress is discarded and counted; the parser hunts (R151). -/
def State.dropInbound (s : State) (cause : Ctr) : State := (s.listen .hunt).bump cause

/-- The payload length that a complete header carries (R174). -/
def headerLength (hdr : List Byte) : Nat := field hdr 4 2

/-- A complete header (R151): LENGTH, straight to CHECK, or PAYLOAD. -/
def State.headerDone (s : State) (hdr : List Byte) : State :=
  if Config.blockBytes < headerLength hdr then s.dropInbound Ctr.inboundLength
  else if headerLength hdr = 0 then s.listen (.check hdr [] none)
  else s.listen (.payload hdr [] (headerLength hdr))

/-- A good block's header fields and payload (R152, R174). -/
def blockOf (hdr body : List Byte) : InBlock where
  kind := hdr.getD 0 0
  tag := hdr.getD 1 0
  segment := hdr.getD 2 0
  last := (hdr.getD 3 0).getLsbD 0
  payload := body

/-- Both CRC bytes have arrived (R151). -/
def State.crcDone (s : State) (hdr body : List Byte) (high low : Byte) : State :=
  if crc16 (hdr ++ body) = high ++ low then (s.listen .hunt).deliver (blockOf hdr body)
  else s.dropInbound Ctr.inboundCrc

/-- A character with a correct stop bit (R151). -/
def State.goodChar (s : State) (c : Byte) : State :=
  match s.slc.inParser with
  | .hunt => if c = startChar then s.listen (.header []) else s
  | .header got =>
    if (got ++ [c]).length < 6 then s.listen (.header (got ++ [c])) else s.headerDone (got ++ [c])
  | .payload hdr got need =>
    if (got ++ [c]).length < need then s.listen (.payload hdr (got ++ [c]) need)
    else s.listen (.check hdr (got ++ [c]) none)
  | .check hdr body none => s.listen (.check hdr body (some c))
  | .check hdr body (some high) => s.crcDone hdr body high c

/-- A character with a stop-bit error (R151): discarded without a count in HUNT, a LINE_ERROR discard
anywhere else. -/
def State.badChar (s : State) : State :=
  match s.slc.inParser with
  | .hunt => s
  | _ => s.dropInbound Ctr.inboundLineError

/-- A character received (R151), as `heardChar` reads it from the levels on SLRX (R149). The gap that begins
after it has the inter-character timeout now in force. -/
def State.character (s : State) (c : Byte) (stopOk : Bool) : State :=
  let s1 := s.withSlc { s.slc with gapTimeout := s.slc.charTimeout }
  if stopOk then s1.goodChar c else s1.badChar

/-- The inter-character timeout expires (R151). -/
def State.gapExpires (s : State) : State :=
  match s.slc.inParser with
  | .hunt => s
  | _ => s.dropInbound Ctr.inboundTimeout

/-! ### Completed blocks (R155) -/

/-- What the completion of a response sets off (R161, R171). -/
def State.afterResponse (s : State) : AfterSend → State
  | .nothing => s
  | .crcInject => s.withSlc { s.slc with crcInject := true }
  | .softReset => s.softResetEffect

/-- The effects of the end of frame `f` before the arbitration of its boundary, in the order in which
R155 lists them, commands last: they are taken with the flags that the completion has set. -/
def State.frameEnds (s : State) (f : Frame) : State :=
  let s1 := (s.withSlc { s.slc with current := none, phase := .boundary, txBlock := [] }).bump Ctr.framesSent
  State.serve ((s1.withLink s1.link.attemptIfPending).afterResponse f.after)

/-- A block on SLTX completes (R155). -/
def State.blockCompletes (s : State) : State :=
  match s.slc.current with
  | none => s
  | some f =>
    let f1 := { f with sent := f.sent + 1 }
    let s1 := s.bump Ctr.blocksSent
    if f1.sent < f1.blocks then s1.withLink (s1.link.arbitrateMore f1)
    else
      let s2 := s1.frameEnds f1
      s2.withLink s2.link.arbitrateEnd

end Sys2Proof.Machine
end

