-- ==== Sys2Proof/Machine/Commands.lean ====
section
/-! DEFINITION. The meanings of the command rows of the table. A command row is the arrival of its good
block (R152): the block joins the Inbound Command Queue, and the MGU takes it at the same event when it
is READY and a Response Queue entry is free, else later (R163; log entry 7). -/

namespace Sys2Proof.Machine

/-- A command block with its kind, as it stands in the Inbound Command Queue (R152). -/
def inBlock (kind : Byte) (b : CmdBlock) : InBlock := ⟨kind, b.tag, b.segment, b.last, b.payload⟩

/-- SET_PROGRAM (R166), kind 10H. -/
def execSetProgram (b : CmdBlock) (s : State) : Host.Outcome State Fault Refusal :=
  .next (s.deliver (inBlock 0x10 b))

/-- SET_FIRING (R25), kind 11H. -/
def execSetFiring (b : CmdBlock) (s : State) : Host.Outcome State Fault Refusal :=
  .next (s.deliver (inBlock 0x11 b))

/-- SET_SCHEDULE (R25), kind 12H. -/
def execSetSchedule (b : CmdBlock) (s : State) : Host.Outcome State Fault Refusal :=
  .next (s.deliver (inBlock 0x12 b))

/-- START (R26), kind 13H. -/
def execStart (b : CmdBlock) (s : State) : Host.Outcome State Fault Refusal :=
  .next (s.deliver (inBlock 0x13 b))

/-- STOP (R27), kind 14H. -/
def execStop (b : CmdBlock) (s : State) : Host.Outcome State Fault Refusal :=
  .next (s.deliver (inBlock 0x14 b))

/-- CLEAR_TRIP (R28), kind 15H. -/
def execClearTrip (b : CmdBlock) (s : State) : Host.Outcome State Fault Refusal :=
  .next (s.deliver (inBlock 0x15 b))

/-- LOAD_GATES (R51), kind 16H. -/
def execLoadGates (b : CmdBlock) (s : State) : Host.Outcome State Fault Refusal :=
  .next (s.deliver (inBlock 0x16 b))

/-- LOAD_CORRECTION (R89), kind 17H. -/
def execLoadCorrection (b : CmdBlock) (s : State) : Host.Outcome State Fault Refusal :=
  .next (s.deliver (inBlock 0x17 b))

/-- LOAD_THRESHOLDS (R109), kind 18H. -/
def execLoadThresholds (b : CmdBlock) (s : State) : Host.Outcome State Fault Refusal :=
  .next (s.deliver (inBlock 0x18 b))

/-- SET_TRACKING (R116), kind 19H. -/
def execSetTracking (b : CmdBlock) (s : State) : Host.Outcome State Fault Refusal :=
  .next (s.deliver (inBlock 0x19 b))

/-- RESET_TRACKS (R130), kind 1AH. -/
def execResetTracks (b : CmdBlock) (s : State) : Host.Outcome State Fault Refusal :=
  .next (s.deliver (inBlock 0x1A b))

/-- SET_SKY (R145), kind 1BH. -/
def execSetSky (b : CmdBlock) (s : State) : Host.Outcome State Fault Refusal :=
  .next (s.deliver (inBlock 0x1B b))

/-- SET_CAPTURE (R146), kind 1CH. -/
def execSetCapture (b : CmdBlock) (s : State) : Host.Outcome State Fault Refusal :=
  .next (s.deliver (inBlock 0x1C b))

/-- INJECT_ECHO (R86), kind 1DH. -/
def execInjectEcho (b : CmdBlock) (s : State) : Host.Outcome State Fault Refusal :=
  .next (s.deliver (inBlock 0x1D b))

/-- INJECT_CRC (R161), kind 1EH. -/
def execInjectCrc (b : CmdBlock) (s : State) : Host.Outcome State Fault Refusal :=
  .next (s.deliver (inBlock 0x1E b))

/-- PATH_CHECK (R43), kind 1FH. -/
def execPathCheck (b : CmdBlock) (s : State) : Host.Outcome State Fault Refusal :=
  .next (s.deliver (inBlock 0x1F b))

/-- SET_REPORTING (R167), kind 20H. -/
def execSetReporting (b : CmdBlock) (s : State) : Host.Outcome State Fault Refusal :=
  .next (s.deliver (inBlock 0x20 b))

/-- TIME_MARK (R159), kind 21H. -/
def execTimeMark (b : CmdBlock) (s : State) : Host.Outcome State Fault Refusal :=
  .next (s.deliver (inBlock 0x21 b))

/-- READ_STATUS (R168), kind 22H. -/
def execReadStatus (b : CmdBlock) (s : State) : Host.Outcome State Fault Refusal :=
  .next (s.deliver (inBlock 0x22 b))

/-- READ_COUNTERS (R169), kind 23H. -/
def execReadCounters (b : CmdBlock) (s : State) : Host.Outcome State Fault Refusal :=
  .next (s.deliver (inBlock 0x23 b))

/-- READ_TRACKS (R170), kind 24H. -/
def execReadTracks (b : CmdBlock) (s : State) : Host.Outcome State Fault Refusal :=
  .next (s.deliver (inBlock 0x24 b))

/-- SOFT_RESET (R171), kind 25H. -/
def execSoftReset (b : CmdBlock) (s : State) : Host.Outcome State Fault Refusal :=
  .next (s.deliver (inBlock 0x25 b))

/-- A block that R165 refuses with BAD_COMMAND: an unknown kind, or not a single block (R165). -/
def execUnknownCommand (kind : Byte) (b : CmdBlock) (s : State) : Host.Outcome State Fault Refusal :=
  .next (s.deliver (inBlock kind b))

end Sys2Proof.Machine
end

