-- ==== Sys2Proof/Machine/Events.lean ====
section
/-! DEFINITION. The meanings of the event rows of the table: what the surroundings and the clocks of the
part do to it. An event whose precondition does not hold has no effect (log entry 6). Every event that
can let a conditioning or a detection begin moves the profile path on (R71, R92). -/

namespace Sys2Proof.Machine

/-- The part after a power-on reset: INTERLOCK is an input pin and keeps its level, and the commands that
wait for the part are not its state. -/
def State.powerOnReset (s : State) (rate : BitVec 2) : State :=
  let p := State.powerOn rate
  { p with fcu := { p.fcu with interlockClosed := s.fcu.interlockClosed }, pending := s.pending }

/-- INTERLOCK opens (R21, R22). An open pin cannot open. -/
def State.interlockOpens (s : State) : State :=
  if s.fcu.interlockClosed then
    let s1 := s.withFcu { s.fcu with interlockClosed := false }
    match s.fcu.state with
    | .running => s1.tripFcu .interlock s.fcu.lastSlot
    | .tripped =>
      let t := s.fcu.trip.map fun r => { r with additionalInterlock := true }
      ((s1.withFcu { s1.fcu with trip := t }).bump Ctr.tripsInterlock).raise .trip
    | .halted => s1.bump Ctr.interlockOpenings
  else s

/-- A conditioning begins if one can (R71). -/
def State.beginConditioning (s : State) : State :=
  match s.condReady with
  | some (b, k) => (s.condBegin b k).moveProfiles
  | none => s

/-- The conditioning in progress completes (R72). -/
def State.completeConditioning (s : State) : State :=
  match s.pcu.job with
  | some j => (s.condFinish j).moveProfiles
  | none => s

/-- A detection begins if one can (R92). -/
def State.beginDetection (s : State) : State :=
  match s.detReady with
  | some k => (s.detBegin k).moveProfiles
  | none => s

/-- The detection in progress completes (R93). -/
def State.completeDetection (s : State) : State :=
  match s.ldu.job with
  | some j => (s.detFinish j).moveProfiles
  | none => s

/-- POWER_ON_RESET (R1 and the reset tables of every chapter), RESET held low and released with the RATE
pins at `rate`. The level of the INTERLOCK pin is the safety chain's and stays. -/
def execPowerOnReset (rate : BitVec 2) (s : State) : Host.Outcome State Fault Refusal :=
  .next (s.powerOnReset rate)

/-- SLOT_TIME (R5). -/
def execSlotTime (s : State) : Host.Outcome State Fault Refusal :=
  .next s.slot.moveProfiles

/-- INTERLOCK_OPENS (R22). -/
def execInterlockOpens (s : State) : Host.Outcome State Fault Refusal :=
  .next s.interlockOpens

/-- BURST_TIMEOUT (R9, R45). -/
def execBurstTimeout (s : State) : Host.Outcome State Fault Refusal :=
  .next s.timeoutExpires.moveProfiles

/-- SAMPLE_WORD_ARRIVAL (R31, R32). -/
def execSampleWordArrival (w : Word) (s : State) : Host.Outcome State Fault Refusal :=
  .next (s.wordArrives w)

/-- PARSER_TAKES_WORD (R33). -/
def execParserTakesWord (s : State) : Host.Outcome State Fault Refusal :=
  .next s.parserTakes.moveProfiles

/-- TRUNCATION_TIMER_EXPIRY (R40). -/
def execTruncationTimerExpiry (s : State) : Host.Outcome State Fault Refusal :=
  .next s.truncate.moveProfiles

/-- COMMIT_END (R53, R55). -/
def execCommitEnd (s : State) : Host.Outcome State Fault Refusal :=
  .next s.commitEnds

/-- CONDITIONING_BEGIN (R71). -/
def execConditioningBegin (s : State) : Host.Outcome State Fault Refusal :=
  .next s.beginConditioning

/-- CONDITIONING_COMPLETE (R72). -/
def execConditioningComplete (s : State) : Host.Outcome State Fault Refusal :=
  .next s.completeConditioning

/-- DETECTION_BEGIN (R92). -/
def execDetectionBegin (s : State) : Host.Outcome State Fault Refusal :=
  .next s.beginDetection

/-- DETECTION_COMPLETE (R93). -/
def execDetectionComplete (s : State) : Host.Outcome State Fault Refusal :=
  .next s.completeDetection

/-- INBOUND_CHARACTER (R151). -/
def execInboundCharacter (c : Byte) (stopOk : Bool) (s : State) : Host.Outcome State Fault Refusal :=
  .next (s.character c stopOk)

/-- INTER_CHARACTER_TIMEOUT (R151). -/
def execInterCharacterTimeout (s : State) : Host.Outcome State Fault Refusal :=
  .next s.gapExpires

/-- BLOCK_COMPLETE (R155). -/
def execBlockComplete (s : State) : Host.Outcome State Fault Refusal :=
  .next s.blockCompletes

/-- INTERVAL_DUE (R160). -/
def execIntervalDue (s : State) : Host.Outcome State Fault Refusal :=
  .next s.intervalCheck

/-- INTERLOCK_CLOSES (R22): no FCU state changes. -/
def execInterlockCloses (s : State) : Host.Outcome State Fault Refusal :=
  .next (s.withFcu { s.fcu with interlockClosed := true })

/-- TIMEBASE_ADVANCE (R159, R160): one microsecond of CLKIN. -/
def execTimebaseAdvance (s : State) : Host.Outcome State Fault Refusal :=
  .next s.microsecond

end Sys2Proof.Machine
end

