-- ==== Sys2Proof/Machine/Dispatch.lean ====
section
/-! DEFINITION. The dispatch: one arm per command of the table. -/

namespace Sys2Proof.Machine

/-- The effect of a command on everything but the queue of waiting commands. -/
def exec (i : Instr) (s : State) : Host.Outcome State Fault Refusal :=
  match i with
  | .powerOnReset rate => Sys2Proof.Machine.execPowerOnReset rate s
  | .slotTime => Sys2Proof.Machine.execSlotTime s
  | .interlockOpens => Sys2Proof.Machine.execInterlockOpens s
  | .burstTimeout => Sys2Proof.Machine.execBurstTimeout s
  | .sampleWordArrival w => Sys2Proof.Machine.execSampleWordArrival w s
  | .parserTakesWord => Sys2Proof.Machine.execParserTakesWord s
  | .truncationTimerExpiry => Sys2Proof.Machine.execTruncationTimerExpiry s
  | .commitEnd => Sys2Proof.Machine.execCommitEnd s
  | .conditioningBegin => Sys2Proof.Machine.execConditioningBegin s
  | .conditioningComplete => Sys2Proof.Machine.execConditioningComplete s
  | .detectionBegin => Sys2Proof.Machine.execDetectionBegin s
  | .detectionComplete => Sys2Proof.Machine.execDetectionComplete s
  | .inboundCharacter c stopOk => Sys2Proof.Machine.execInboundCharacter c stopOk s
  | .interCharacterTimeout => Sys2Proof.Machine.execInterCharacterTimeout s
  | .blockComplete => Sys2Proof.Machine.execBlockComplete s
  | .intervalDue => Sys2Proof.Machine.execIntervalDue s
  | .setProgram b => Sys2Proof.Machine.execSetProgram b s
  | .setFiring b => Sys2Proof.Machine.execSetFiring b s
  | .setSchedule b => Sys2Proof.Machine.execSetSchedule b s
  | .start b => Sys2Proof.Machine.execStart b s
  | .stop b => Sys2Proof.Machine.execStop b s
  | .clearTrip b => Sys2Proof.Machine.execClearTrip b s
  | .loadGates b => Sys2Proof.Machine.execLoadGates b s
  | .loadCorrection b => Sys2Proof.Machine.execLoadCorrection b s
  | .loadThresholds b => Sys2Proof.Machine.execLoadThresholds b s
  | .setTracking b => Sys2Proof.Machine.execSetTracking b s
  | .resetTracks b => Sys2Proof.Machine.execResetTracks b s
  | .setSky b => Sys2Proof.Machine.execSetSky b s
  | .setCapture b => Sys2Proof.Machine.execSetCapture b s
  | .injectEcho b => Sys2Proof.Machine.execInjectEcho b s
  | .pathCheck b => Sys2Proof.Machine.execPathCheck b s
  | .injectCrc b => Sys2Proof.Machine.execInjectCrc b s
  | .timeMark b => Sys2Proof.Machine.execTimeMark b s
  | .setReporting b => Sys2Proof.Machine.execSetReporting b s
  | .readStatus b => Sys2Proof.Machine.execReadStatus b s
  | .readCounters b => Sys2Proof.Machine.execReadCounters b s
  | .readTracks b => Sys2Proof.Machine.execReadTracks b s
  | .softReset b => Sys2Proof.Machine.execSoftReset b s
  | .unknownCommand kind b => Sys2Proof.Machine.execUnknownCommand kind b s
  | .interlockCloses => Sys2Proof.Machine.execInterlockCloses s
  | .timebaseAdvance => Sys2Proof.Machine.execTimebaseAdvance s

end Sys2Proof.Machine
end

