-- ==== Sys2Proof/WellFormed.lean ====
section
/-! DEFINITION. Which terms of `Instr` are commands that the line can carry: a block's payload has at
most 256 bytes (R150), and UNKNOWN_COMMAND stands only for blocks that R165 refuses with BAD_COMMAND. -/

namespace Sys2Proof

/-- A block's payload is 0 to 256 bytes (R150). -/
def CmdBlock.wf (b : CmdBlock) : Bool := b.payload.length ≤ Config.blockBytes

/-- The kinds 10H to 25H are commands (R174). -/
def commandKind (kind : Byte) : Bool := 0x10 ≤ kind.toNat && kind.toNat ≤ 0x25

/-- A block that is one whole command: segment 0 with its last flag set (R165, check 1). -/
def CmdBlock.single (b : CmdBlock) : Bool := b.segment == 0 && b.last

/-- Well-formed commands. -/
def Instr.wf : Instr → Bool
  | .powerOnReset _ | .slotTime | .interlockOpens | .burstTimeout | .sampleWordArrival _
  | .parserTakesWord | .truncationTimerExpiry | .commitEnd | .conditioningBegin
  | .conditioningComplete | .detectionBegin | .detectionComplete | .inboundCharacter _ _
  | .interCharacterTimeout | .blockComplete | .intervalDue | .interlockCloses
  | .timebaseAdvance => true
  | .setProgram b | .setFiring b | .setSchedule b | .start b | .stop b | .clearTrip b
  | .loadGates b | .loadCorrection b | .loadThresholds b | .setTracking b | .resetTracks b
  | .setSky b | .setCapture b | .injectEcho b | .pathCheck b | .injectCrc b | .timeMark b
  | .setReporting b | .readStatus b | .readCounters b | .readTracks b | .softReset b => b.wf
  | .unknownCommand kind b => b.wf && !(commandKind kind && b.single)

end Sys2Proof
end

