-- ==== Sys2Proof/Safety.lean ====
section
/-! DEFINITION. The words in which the claims are made: what it is for the part to be ready for a command
and to answer it, for the profile path to have nothing left to begin, and the invariants that the
manual's prose states of the whole part. -/

namespace Sys2Proof.Machine

/-! ### Answering a command (R163, R164) -/

/-- Every response that holds a Response Queue entry (R154). -/
def Slc.held (l : Slc) : List Frame := l.responses ++ l.current.toList.filter (·.kind = .response)

/-- Between events, an idle line has no CURRENT frame, and responses and report frames stand in their own
stores (R154, R155). -/
def Slc.lineSound (l : Slc) : Prop :=
  (l.phase = .idle → l.current = none) ∧ l.phase ≠ .boundary ∧ (∀ f ∈ l.responses, f.kind = .response)
    ∧ (∀ f ∈ l.queue, f.kind ≠ .response) ∧ (∀ f ∈ l.stack, f.kind ≠ .response)

/-- A command block that arrives now is taken at its own event (R163). -/
def State.ready (s : State) : Prop :=
  s.mgu = .ready ∧ s.slc.inbound = [] ∧ s.slc.responsesUsed < Config.responseSlots ∧ s.slc.lineSound

/-- What the working of the outbound side leaves alone in the SLC: everything but the stores, the line,
the tag counter, the pending set and the CRC-inject flag. -/
def Slc.sameSettings (a b : Slc) : Prop :=
  a.rate = b.rate ∧ a.inParser = b.inParser ∧ a.charTimeout = b.charTimeout
    ∧ a.gapTimeout = b.gapTimeout ∧ a.inbound = b.inbound ∧ a.levels = b.levels
    ∧ a.noticeMask = b.noticeMask ∧ a.time = b.time ∧ a.runUsec = b.runUsec ∧ a.interval = b.interval
    ∧ a.elapsed = b.elapsed ∧ a.span = b.span ∧ a.snapshots = b.snapshots

/-- The counters that starting a block can increase (R157, R161). -/
def blockCtrs : List Ctr := [Ctr.noticeFrames, Ctr.crcInjected]

/-- The counters that raising a notice can increase (R156, R157, R161). -/
def raiseCtrs : List Ctr :=
  [Ctr.noticesRaised, Ctr.droppedNotice, Ctr.droppedLayer, Ctr.droppedInterval, Ctr.droppedProfile,
    Ctr.noticeFrames, Ctr.crcInjected]

/-- Outside `touched` and `blockCtrs`, every counter of `t` is that of `s`. -/
def ctrsKept (touched : List Ctr) (s t : State) : Prop :=
  ∀ c : Ctr, c ∉ touched → t.ctrs[c] = s.ctrs[c]

/-- A counter one higher, saturating (I.5). -/
def counted (c : Ctr) (s t : State) : Prop := t.ctrs[c] = min (s.ctrs[c] + 1) Config.counterMax

/-- The response to the block `b` of kind `kind`, with result `r` and what it adds (R164, R177), at the
RESPONSE level in force in `l`. -/
def responseTo (l : Slc) (kind : Byte) (b : CmdBlock) (r : Result) (extra : List Byte) (after : AfterSend) :
    Frame :=
  ⟨.response, l.levels.response, b.tag, 2 + extra.length, [kind, r.code] ++ extra, 0, after⟩

/-- `t` follows from `s` by a command that was taken and answered at its arrival: the block was counted
in INBOUND_GOOD and COMMANDS_TAKEN, nothing waits inbound, and `f` is the one response added. -/
def State.answered (s t : State) (f : Frame) : Prop :=
  List.Perm t.slc.held (f :: s.slc.held) ∧ t.slc.inbound = [] ∧ counted Ctr.inboundGood s t
    ∧ counted Ctr.commandsTaken s t

/-- The counters that any answered command can increase. -/
def commandCtrs : List Ctr := [Ctr.inboundGood, Ctr.commandsTaken] ++ blockCtrs

/-- The part as a command is executed: its block has been counted in and taken (R152, R163). -/
def State.taken (s : State) : State := (s.bump Ctr.inboundGood).bump Ctr.commandsTaken

/-- Every block but the SLC and the counters is the same, and the SLC keeps its settings. -/
def State.sameButLine (s t : State) : Prop :=
  t.progs = s.progs ∧ t.fcu = s.fcu ∧ t.rsp = s.rsp ∧ t.gau = s.gau ∧ t.pcu = s.pcu ∧ t.ldu = s.ldu
    ∧ t.ltu = s.ltu ∧ t.sku = s.sku ∧ t.mgu = s.mgu ∧ t.slc.sameSettings s.slc ∧ t.pending = s.pending

/-- A command refused with result `r`: no state of any block changes, the response carries the result,
and the refusal is counted (R164). `extraCtrs` are the refusal counters of the owning rule. -/
def State.refusedWith (s t : State) (kind : Byte) (b : CmdBlock) (r : Result) (extra : List Byte)
    (extraCtrs : List Ctr) : Prop :=
  s.answered t (responseTo s.slc kind b r extra .nothing) ∧ counted Ctr.commandsRefused s t
    ∧ (∀ c ∈ extraCtrs, counted c s t) ∧ s.sameButLine t
    ∧ ctrsKept (Ctr.commandsRefused :: extraCtrs ++ commandCtrs) s t

/-! ### Trips and headers -/

/-- `t` is what a trip leaves of `s` in the FCU (R21, R23): `slot` is the slot index, the time is that of
`s`. -/
def State.tripsTo (s t : State) (cause : TripCause) (slot : Fin 32) : Prop :=
  t.fcu.state = .tripped ∧ t.fcu.alert = true ∧ t.fcu.drive = 0 ∧ t.fcu.shot = none
    ∧ t.fcu.weakRun = 0 ∧ t.fcu.lostRun = 0 ∧ t.fcu.trip = some ⟨cause, s.slc.time, slot, false⟩
    ∧ t.fcu.window = s.fcu.window ∧ t.fcu.budgetHold = s.fcu.budgetHold
    ∧ t.fcu.schedule = s.fcu.schedule ∧ t.fcu.pointer = s.fcu.pointer
    ∧ counted cause.ctr s t

/-- The count word `w` of a header that matches the shot in flight `sh` is at the head of the buffer: its
mark is `m`, its reading `r`, and `rest` is what stands behind it (R33 to R36). -/
def State.headerAt (s : State) (sh : Shot) (rest : List BufItem) (m r w : Word) : Prop :=
  s.rsp.buffer = .word w :: rest ∧ rest.head? ≠ some .slip ∧ isMark w = false
    ∧ s.rsp.parser = .header m (some r) ∧ s.rsp.path.running = false ∧ s.fcu.shot = some sh
    ∧ markTag m = sh.tag ∧ markTest m = false

/-! ### The profile path (R71, R92) -/

/-- The bank at the head of the Conditioning Queue, if it waits, has been counted (R90). -/
def State.waitSettled (s : State) : Prop := s.countWait = s

/-- Nothing can begin in the profile path, and no wait is left to count (R71, R90, R92). -/
def State.settled (s : State) : Prop :=
  s.condReady = none ∧ s.detReady = none ∧ s.waitSettled

/-! ### Invariants -/

/-- ALERT, the trip record, the interlock and what an FCU out of RUNNING holds (R6, R21, R24, R43). -/
def State.fcuSafe (s : State) : Prop :=
  (s.fcu.alert = true ↔ s.fcu.state = .tripped) ∧ (s.fcu.trip.isSome = true ↔ s.fcu.state = .tripped)
    ∧ (s.fcu.state = .running → s.fcu.interlockClosed = true)
    ∧ (s.fcu.state ≠ .running → s.fcu.shot = none ∧ s.fcu.drive = 0)
    ∧ (s.rsp.path.running = true → s.fcu.state = .halted)

/-- The three tables are in canonical form. -/
def State.tablesWf (s : State) : Prop :=
  Tab.wf GateEntry.reset s.gau.gateMap = true ∧ Tab.wf CorrEntry.reset s.pcu.corrTable = true
    ∧ Tab.wf Config.betaMax s.ldu.thrTable = true

/-- The stores of the part keep within their sizes (R10, R31, R152, R155). -/
def State.storesBounded (s : State) : Prop :=
  s.rsp.occupancy ≤ Config.bufferWords ∧ s.slc.inbound.length ≤ Config.inboundSlots
    ∧ s.slc.stack.length ≤ Config.stackSlots ∧ s.fcu.window.length = Config.windowSlots

/-- Every counter is at most 4,294,967,295 (I.5). -/
def State.countersBounded (s : State) : Prop := ∀ c : Ctr, s.ctrs[c] ≤ Config.counterMax

/-- The Track Table holds at most ten tracks with distinct ids of 1 to 255, in ascending base; the next id
is one of 1 to 255 (R112, R114). -/
def Ltu.sound (k : Ltu) : Prop :=
  k.tracks.length ≤ Config.trackMax ∧ (k.tracks.map Track.id).Nodup
    ∧ (∀ t ∈ k.tracks, 1 ≤ t.id ∧ t.id ≤ 255) ∧ 1 ≤ k.nextId ∧ k.nextId ≤ 255
    ∧ k.tracks.Pairwise fun a b => a.base ≤ b.base

/-- The profile path (R56, R67, R71, R73, R92): the Conditioning Queue holds exactly the CLOSED and
CONDITIONING banks, once each; the bank being conditioned is its head; the buffers' states agree with the
work in progress and with the order of the READY ones. -/
def State.pathSound (s : State) : Prop :=
  s.gau.queue.Nodup
    ∧ (∀ b : Fin 6, b ∈ s.gau.queue ↔
        s.gau.banks[b].state = .closed ∨ s.gau.banks[b].state = .conditioning)
    ∧ (∀ b : Fin 6, s.gau.banks[b].state = .conditioning ↔ ∃ j, s.pcu.job = some j ∧ j.bank = b)
    ∧ (∀ j, s.pcu.job = some j → s.gau.queue.head? = some j.bank)
    ∧ s.pcu.readyOrder.Nodup
    ∧ (∀ k : Fin 2, k ∈ s.pcu.readyOrder ↔ s.pcu.bufs[k].state = .ready)
    ∧ (∀ k : Fin 2, s.pcu.bufs[k].state = .filling ↔ ∃ j, s.pcu.job = some j ∧ j.buf = k)
    ∧ (∀ k : Fin 2, s.pcu.bufs[k].state = .detecting ↔ ∃ j, s.ldu.job = some j ∧ j.buf = k)
    ∧ (∀ k : Fin 2, s.pcu.bufs[k].state = .free ↔ s.pcu.bufs[k].record = none)

/-- The outbound stores keep within their sizes, frames stand in their own stores, a response is one
block, and what a response can carry is bounded (R101, R112, R153, R154). -/
def State.outboundSound (s : State) : Prop :=
  s.slc.bytesUsed ≤ Config.reportBytes ∧ s.slc.descUsed ≤ Config.descriptors
    ∧ s.slc.responsesUsed ≤ Config.responseSlots ∧ s.slc.lineSound
    ∧ (∀ f ∈ s.slc.held, f.size ≤ Config.blockBytes) ∧ s.ltu.tracks.length ≤ Config.trackMax
    ∧ ∀ d, s.ldu.last = some d → d.cands.length ≤ Config.candMax

/-! ### Runs and command rows -/

/-- `t` follows from `s` by the commands of a list, one after the other. -/
def Runs : List Instr → State → State → Prop
  | [], s, t => t = s
  | c :: cs, s, t => ∃ u, exec c s = .next u ∧ Runs cs u t

/-- The block that a command row stands for, none for an event (R174). -/
def commandRow : Instr → Option InBlock
  | .setProgram b => some ⟨0x10, b.tag, b.segment, b.last, b.payload⟩
  | .setFiring b => some ⟨0x11, b.tag, b.segment, b.last, b.payload⟩
  | .setSchedule b => some ⟨0x12, b.tag, b.segment, b.last, b.payload⟩
  | .start b => some ⟨0x13, b.tag, b.segment, b.last, b.payload⟩
  | .stop b => some ⟨0x14, b.tag, b.segment, b.last, b.payload⟩
  | .clearTrip b => some ⟨0x15, b.tag, b.segment, b.last, b.payload⟩
  | .loadGates b => some ⟨0x16, b.tag, b.segment, b.last, b.payload⟩
  | .loadCorrection b => some ⟨0x17, b.tag, b.segment, b.last, b.payload⟩
  | .loadThresholds b => some ⟨0x18, b.tag, b.segment, b.last, b.payload⟩
  | .setTracking b => some ⟨0x19, b.tag, b.segment, b.last, b.payload⟩
  | .resetTracks b => some ⟨0x1A, b.tag, b.segment, b.last, b.payload⟩
  | .setSky b => some ⟨0x1B, b.tag, b.segment, b.last, b.payload⟩
  | .setCapture b => some ⟨0x1C, b.tag, b.segment, b.last, b.payload⟩
  | .injectEcho b => some ⟨0x1D, b.tag, b.segment, b.last, b.payload⟩
  | .injectCrc b => some ⟨0x1E, b.tag, b.segment, b.last, b.payload⟩
  | .pathCheck b => some ⟨0x1F, b.tag, b.segment, b.last, b.payload⟩
  | .setReporting b => some ⟨0x20, b.tag, b.segment, b.last, b.payload⟩
  | .timeMark b => some ⟨0x21, b.tag, b.segment, b.last, b.payload⟩
  | .readStatus b => some ⟨0x22, b.tag, b.segment, b.last, b.payload⟩
  | .readCounters b => some ⟨0x23, b.tag, b.segment, b.last, b.payload⟩
  | .readTracks b => some ⟨0x24, b.tag, b.segment, b.last, b.payload⟩
  | .softReset b => some ⟨0x25, b.tag, b.segment, b.last, b.payload⟩
  | .unknownCommand kind b => some ⟨kind, b.tag, b.segment, b.last, b.payload⟩
  | .powerOnReset _ | .slotTime | .interlockOpens | .burstTimeout | .sampleWordArrival _
  | .parserTakesWord | .truncationTimerExpiry | .commitEnd | .conditioningBegin
  | .conditioningComplete | .detectionBegin | .detectionComplete | .inboundCharacter _ _
  | .interCharacterTimeout | .blockComplete | .intervalDue | .interlockCloses
  | .timebaseAdvance => none

end Sys2Proof.Machine
end

