-- ==== Sys2Proof/Certificates/Slice0/Obligations.lean ====
section
/-! DEFINITION. The statements for the provers. -/

open Sys2Proof Sys2Proof.Machine

/-! ### The step, the queue, the resets -/

/-- A step runs the command at the front of the queue on the part with the rest of the queue. With no
command waiting the part idles: that clause is the model's choice, log entry 4. -/
def Obligations.StepRunsFrontCommand : Prop :=
  (∀ (c : Instr) (rest : List Instr) (s : State), s.pending = c :: rest →
    step s = exec c { s with pending := rest })
    ∧ ∀ s : State, s.pending = [] → step s = .next s

/-- Every command in every state leaves a next state, and no command touches the queue (log entry 1). -/
def Obligations.EveryCommandCompletes : Prop :=
  ∀ (c : Instr) (s : State), ∃ t, exec c s = .next t ∧ t.pending = s.pending

/-- What the reset tables of the chapters say of the part after power-on reset; and the invariants hold
there. -/
def Obligations.ResetValues : Prop :=
  let s := State.reset
  (∀ p : Prog, s.progs[p] = ProgramRec.reset)
    ∧ s.fcu.state = .halted ∧ (∀ i : Fin 32, s.fcu.schedule[i] = .skip) ∧ s.fcu.pointer = 0
    ∧ s.fcu.firing = ⟨1000, 2048, 100, 4193280⟩ ∧ s.fcu.window = List.replicate 1024 0
    ∧ s.fcu.shotTag = 255 ∧ s.fcu.shot = none ∧ s.fcu.drive = 0 ∧ s.fcu.alert = false
    ∧ s.fcu.trip = none ∧ s.fcu.lastTrip = none ∧ s.fcu.budgetHold = false
    ∧ s.rsp.buffer = [] ∧ s.rsp.highWater = 0 ∧ s.rsp.parser = .hunt ∧ s.rsp.path.running = false
    ∧ (∀ i, Tab.read GateEntry.reset s.gau.gateMap i = ⟨0, 1⟩) ∧ s.gau.staging = .idle
    ∧ (∀ b : Fin 6, s.gau.banks[b].state = .free) ∧ s.gau.queue = []
    ∧ (∀ i, Tab.read CorrEntry.reset s.pcu.corrTable i = ⟨32768, 9⟩) ∧ s.pcu.job = none
    ∧ (∀ k : Fin 2, s.pcu.bufs[k].state = .free) ∧ (∀ p : Prog, s.pcu.held[p] = none)
    ∧ (∀ i, Tab.read Config.betaMax s.ldu.thrTable i = 8388607) ∧ s.ldu.job = none
    ∧ s.ltu.tracks = [] ∧ s.ltu.nextId = 1 ∧ s.ltu.params = ⟨4, 5, 3, 40, 16, 4⟩
    ∧ s.sku.sky = .unknown ∧ s.sku.divider = 1 ∧ s.slc.inParser = .hunt ∧ s.slc.charTimeout = 16
    ∧ s.slc.inbound = [] ∧ s.slc.queue = [] ∧ s.slc.responses = [] ∧ s.slc.stack = []
    ∧ s.slc.levels = ⟨0, 1, 1, 2, 3⟩ ∧ s.slc.tagCounter = 0 ∧ s.slc.noticeSet = 0
    ∧ s.slc.noticeMask = 0 ∧ s.slc.time = ⟨0, 0, false⟩ ∧ s.slc.interval = 0 ∧ s.mgu = .ready
    ∧ (∀ c : Ctr, s.ctrs[c] = 0)
    ∧ s.fcuSafe ∧ s.tablesWf ∧ s.storesBounded ∧ s.countersBounded ∧ s.ltu.sound ∧ s.pathSound ∧ s.settled
    ∧ s.outboundSound ∧ s.ready

/-- POWER_ON_RESET from any state whatever: the line rate is that of the RATE pins, the INTERLOCK pin
keeps its level, and everything else is as after reset. The INTERLOCK clause is the model's: log entry 2.
Values at reset that no rule gives are log entries 5, 10, 11 and 27. -/
def Obligations.PowerOnResetFromAnyState : Prop :=
  ∀ (s : State) (rate : BitVec 2), ∃ t, exec (.powerOnReset rate) s = .next t
    ∧ t.fcu = { Fcu.reset with interlockClosed := s.fcu.interlockClosed }
    ∧ t.slc = { State.reset.slc with rate := rate }
    ∧ t.progs = State.reset.progs ∧ t.rsp = Rsp.reset ∧ t.gau = Gau.reset ∧ t.pcu = Pcu.reset
    ∧ t.ldu = Ldu.reset ∧ t.ltu = Ltu.reset ∧ t.sku = Sku.reset ∧ t.mgu = .ready
    ∧ (∀ c : Ctr, t.ctrs[c] = 0) ∧ t.settled ∧ t.fcuSafe

/-! ### Slot times (R4 to R11, R44, R59) -/

/-- A slot time outside RUNNING with no path check: a charge of 0 enters the window, the pointer
advances, the next period begins, and nothing else changes (R2 to R4). -/
def Obligations.SlotOutsideRunning : Prop :=
  ∀ s : State, s.settled → s.fcu.state ≠ .running → s.rsp.path.running = false →
    exec .slotTime s = .next { s with
      fcu := { s.fcu with
        timerPeriod := s.fcu.firing.shotPeriod
        pulses := Pulses.quiet
        pointer := s.fcu.pointer + 1
        window := 0 :: s.fcu.window.take 1023 } }

/-- A slot time of a running path check with no capture outstanding and fewer than n issued pulses CAPTURE
and PATH_TEST (R44); with one outstanding, the last of n among them, it gives no pulse. -/
def Obligations.SlotOfPathCheck : Prop :=
  ∀ s : State, s.settled → s.fcu.state = .halted → s.rsp.path.running = true →
    ∃ t, exec .slotTime s = .next t
      ∧ t.fcu.pointer = s.fcu.pointer + 1 ∧ t.fcu.window = 0 :: s.fcu.window.take 1023
      ∧ t.fcu.shot = s.fcu.shot ∧ t.fcu.drive = s.fcu.drive
      ∧ (s.rsp.path.capture = none → s.rsp.path.issued < s.rsp.path.n →
          t.fcu.pulses = ⟨false, true, true⟩ ∧ t.fcu.shotTag = s.fcu.shotTag + 1
            ∧ t.fcu.burstTimer = some ⟨s.fcu.shotTag + 1, s.fcu.firing.burstTimeout⟩
            ∧ t.rsp = { s.rsp with path := { s.rsp.path with
                issued := s.rsp.path.issued + 1
                capture := some ⟨s.fcu.shotTag + 1, s.fcu.firing.recordLen, false⟩ } })
      ∧ (s.rsp.path.capture.isSome = true →
          t.fcu.pulses = Pulses.quiet ∧ t.fcu.shotTag = s.fcu.shotTag ∧ t.rsp = s.rsp)
      ∧ t.ctrs = s.ctrs ∧ t.progs = s.progs ∧ t.gau = s.gau ∧ t.pcu = s.pcu ∧ t.ldu = s.ldu
      ∧ t.ltu = s.ltu ∧ t.sku = s.sku ∧ t.slc = s.slc ∧ t.mgu = s.mgu

/-- The request for a bank at a FIRE slot (R58): the program's ACCUMULATING bank, else the
lowest-numbered FREE bank opened for it, else none. -/
def Obligations.BankRequestAnswers : Prop :=
  ∀ (s : State) (p : Prog),
    (∀ b, s.gau.accBank p = some b → s.bankRequest p = (s, some b))
      ∧ (∀ b, s.gau.accBank p = none → s.gau.freeBank = some b →
          (s.bankRequest p).2 = some b ∧ (∀ k : Fin 6, k < b → s.gau.banks[k].state ≠ .free)
            ∧ (s.bankRequest p).1.gau.accBank p = some b
            ∧ (s.bankRequest p).1.gau.banks[b] = Bank.opened p s.progs[p] s.gau.nextSeq[p] s.slc.time
            ∧ (∀ k : Fin 6, k ≠ b → (s.bankRequest p).1.gau.banks[k] = s.gau.banks[k])
            ∧ (s.bankRequest p).1.gau.nextSeq[p] = (s.gau.nextSeq[p] + 1) % 65536
            ∧ (s.bankRequest p).1.gau.starved[p] = false
            ∧ counted Ctr.profilesOpened s (s.bankRequest p).1)
      ∧ ((∀ k : Fin 6, s.gau.banks[k].state ≠ .free) → s.gau.accBank p = none →
          (s.bankRequest p).2 = none)

/-- A shot is fired (R6): DRIVE is the servo's, FIRE and CAPTURE are pulsed, the tag advances, E_ref
enters the window, the shot in flight is set, and the slot is counted against the granted bank (R60). -/
def Obligations.SlotFiresShot : Prop :=
  ∀ (s s1 : State) (p : Prog) (b : Fin 6), s.settled → s.fcu.state = .running →
    s.fcu.schedule[s.fcu.pointer] = .fire p → s.progs[p].enabled = true →
    s.bankRequest p = (s1, some b) → s.fcu.shot = none → s.fcu.budgetOk s.progs[p].eRef = true →
    ∃ t, exec .slotTime s = .next t
      ∧ t.fcu = { s.fcu with
          timerPeriod := s.fcu.firing.shotPeriod
          drive := s.fcu.servos[p].drive
          pulses := ⟨true, true, false⟩
          shotTag := s.fcu.shotTag + 1
          burstTimer := some ⟨s.fcu.shotTag + 1, s.fcu.firing.burstTimeout⟩
          budgetHold := false
          shot := some ⟨.fire, p, s.fcu.pointer, s.fcu.shotTag + 1, false, false⟩
          window := s.progs[p].eRef :: s.fcu.window.take 1023
          pointer := s.fcu.pointer + 1 }
      ∧ t.gau = s1.gau.setBank b { s1.gau.banks[b] with
          elapsed := if s1.gau.banks[b].elapsed < s1.gau.banks[b].copy.nTarget
                     then s1.gau.banks[b].elapsed + 1 else s1.gau.banks[b].elapsed
          ownShot := some s.fcu.pointer }
      ∧ counted Ctr.shotsFired s t
      ∧ ctrsKept [Ctr.shotsFired, Ctr.profilesOpened, Ctr.slotsPastWindow] s t
      ∧ t.progs = s.progs ∧ t.rsp = s.rsp ∧ t.pcu = s.pcu ∧ t.ldu = s.ldu ∧ t.ltu = s.ltu
      ∧ t.sku = s.sku ∧ t.slc = s.slc ∧ t.mgu = s.mgu

/-- A dark capture (R7): CAPTURE alone, DRIVE unchanged, charge 0. -/
def Obligations.SlotTakesDarkCapture : Prop :=
  ∀ (s : State) (p : Prog), s.settled → s.fcu.state = .running →
    s.fcu.schedule[s.fcu.pointer] = .dark p → s.progs[p].enabled = true → s.fcu.shot = none →
    ∃ t, exec .slotTime s = .next t
      ∧ t.fcu = { s.fcu with
          timerPeriod := s.fcu.firing.shotPeriod
          pulses := ⟨false, true, false⟩
          shotTag := s.fcu.shotTag + 1
          burstTimer := some ⟨s.fcu.shotTag + 1, s.fcu.firing.burstTimeout⟩
          shot := some ⟨.dark, p, s.fcu.pointer, s.fcu.shotTag + 1, false, false⟩
          window := 0 :: s.fcu.window.take 1023
          pointer := s.fcu.pointer + 1 }
      ∧ counted Ctr.darkCaptures s t ∧ ctrsKept [Ctr.darkCaptures] s t
      ∧ t.progs = s.progs ∧ t.rsp = s.rsp ∧ t.gau = s.gau ∧ t.pcu = s.pcu ∧ t.ldu = s.ldu
      ∧ t.ltu = s.ltu ∧ t.sku = s.sku ∧ t.slc = s.slc ∧ t.mgu = s.mgu

/-- A withheld slot pulses nothing, leaves DRIVE and enters a charge of 0 (R5): NO_BANK (R59), then BUSY,
then BUDGET (R10, R11), each with its counter. -/
def Obligations.SlotWithheld : Prop :=
  ∀ (s : State) (p : Prog), s.fcu.state = .running → s.progs[p].enabled = true →
    let quiet : Fcu := { s.fcu with
      timerPeriod := s.fcu.firing.shotPeriod
      pulses := Pulses.quiet
      window := 0 :: s.fcu.window.take 1023
      pointer := s.fcu.pointer + 1 }
    (s.fcu.schedule[s.fcu.pointer] = .dark p → s.fcu.shot.isSome = true →
      ∃ t, exec .slotTime s = .next t ∧ t.fcu = quiet ∧ counted Ctr.withheldBusy s t ∧ t.rsp = s.rsp)
    ∧ (s.fcu.schedule[s.fcu.pointer] = .fire p → (s.bankRequest p).2 = none →
      ∃ t, exec .slotTime s = .next t ∧ t.fcu = quiet ∧ counted Ctr.withheldNoBank s t ∧ t.rsp = s.rsp
        ∧ t.gau.starved[p] = true)
    ∧ (s.fcu.schedule[s.fcu.pointer] = .fire p → (s.bankRequest p).2.isSome = true →
      s.fcu.shot.isSome = true →
      ∃ t, exec .slotTime s = .next t ∧ t.fcu = quiet ∧ counted Ctr.withheldBusy s t ∧ t.rsp = s.rsp)
    ∧ (s.fcu.schedule[s.fcu.pointer] = .fire p → (s.bankRequest p).2.isSome = true →
      s.fcu.shot = none → s.fcu.budgetOk s.progs[p].eRef = false →
      ∃ t, exec .slotTime s = .next t ∧ t.fcu = { quiet with budgetHold := true }
        ∧ counted Ctr.withheldBudget s t ∧ t.rsp = s.rsp)

/-- A granted slot that is withheld BUSY or BUDGET and completes a window with no own shot in flight closes
the bank with its outcome, at the tail of the Conditioning Queue (R60, R62, R63, R69). Any other withheld slot
is counted against its bank as one slot elapsed, or, where the window is complete already, counted in
SLOTS_PAST_WINDOW (R60). -/
def Obligations.WithheldSlotClosesBank : Prop :=
  let withheld (s : State) (p : Prog) : Prop := s.fcu.shot.isSome = true
    ∨ s.fcu.firing.budgetLimit < (s.fcu.window.take 1023).sum + s.progs[p].eRef
  (∀ (s : State) (p : Prog) (b : Fin 6), s.fcu.state = .running → s.progs[p].enabled = true →
    s.fcu.schedule[s.fcu.pointer] = .fire p → s.gau.accBank p = some b → withheld s p →
    s.gau.banks[b].elapsed + 1 = s.gau.banks[b].copy.nTarget → s.gau.banks[b].ownShot = none →
    s.pcu.job.isSome = true → s.ldu.job.isSome = true → s.gau.queue ≠ [] → b ∉ s.gau.queue →
    s.waitSettled →
    ∃ t, exec .slotTime s = .next t ∧ t.gau.queue = s.gau.queue ++ [b]
      ∧ t.gau.banks[b] = { s.gau.banks[b] with
          state := .closed
          elapsed := s.gau.banks[b].copy.nTarget
          waitCounted := false
          outcome := some (
            if s.gau.banks[b].copy.nTarget ≤ 2 * s.gau.banks[b].nAcc then .complete
            else if s.gau.banks[b].nAcc = 0 then .void else .degraded) }
      ∧ (∀ k : Fin 6, k ≠ b → t.gau.banks[k] = s.gau.banks[k]) ∧ t.pcu = s.pcu ∧ t.ldu = s.ldu
      ∧ t.fcu.shot = s.fcu.shot ∧ t.fcu.pulses = Pulses.quiet)
  ∧ ∀ (s s1 : State) (p : Prog) (b : Fin 6), s.settled → s.fcu.state = .running →
    s.progs[p].enabled = true → s.fcu.schedule[s.fcu.pointer] = .fire p →
    s.bankRequest p = (s1, some b) → withheld s p →
    let k := s1.gau.banks[b]
    (k.elapsed < k.copy.nTarget → k.elapsed + 1 < k.copy.nTarget ∨ k.ownShot.isSome = true →
      ∃ t, exec .slotTime s = .next t ∧ t.gau = s1.gau.setBank b { k with elapsed := k.elapsed + 1 }
        ∧ t.ctrs[Ctr.slotsPastWindow] = s.ctrs[Ctr.slotsPastWindow] ∧ t.pcu = s.pcu ∧ t.ldu = s.ldu)
    ∧ (k.copy.nTarget ≤ k.elapsed →
      ∃ t, exec .slotTime s = .next t ∧ t.gau = s1.gau
        ∧ counted Ctr.slotsPastWindow s t ∧ t.pcu = s.pcu ∧ t.ldu = s.ldu)

/-- FIRE is pulsed only at a slot time in RUNNING, with INTERLOCK closed and no shot in flight, for the
FIRE slot of an enabled program, at the drive of its servo and within the budget limit; no other command
pulses it (R6, R10). A slot time without it leaves the window no fuller. -/
def Obligations.FirePulseOnlyWhenAllowed : Prop :=
  (∀ (c : Instr) (s t : State), s.fcuSafe → exec c s = .next t → t.fcu.pulses.fire = true →
    (c ≠ .slotTime ∧ t.fcu.pulses = s.fcu.pulses)
      ∨ (c = .slotTime ∧ s.fcu.state = .running ∧ s.fcu.interlockClosed = true ∧ s.fcu.shot = none
          ∧ ∃ p : Prog, s.fcu.schedule[s.fcu.pointer] = .fire p ∧ s.progs[p].enabled = true
            ∧ t.fcu.drive = s.fcu.servos[p].drive
            ∧ t.fcu.window = s.progs[p].eRef :: s.fcu.window.take 1023
            ∧ t.fcu.window.sum ≤ s.fcu.firing.budgetLimit))
    ∧ ∀ s : State, ∃ t, exec .slotTime s = .next t
      ∧ (t.fcu.pulses.fire = false →
          t.fcu.window = 0 :: s.fcu.window.take 1023 ∧ t.fcu.window.sum ≤ s.fcu.window.sum)

/-! ### Captures, energy, trips (R9, R12 to R24) -/

/-- The burst timeout with no header taken: a shot is LOST, and the eighth in a row trips with NO_RECEIVER
(R9, R15); a path-check capture is settled and counted in PATH_LOST alone, and the last of n ends the check
(R45, R48). After the capture was emptied or a header taken, of a shot, a dark capture or a path-check capture,
and for a capture of another tag, it ends without effect. -/
def Obligations.BurstTimeoutLosesCapture : Prop :=
  ∀ (s : State) (tm : BurstTimer), s.fcu.burstTimer = some tm →
    let stale : Prop := ∀ c : PathCapture, s.rsp.path.capture = some c → c.tag ≠ tm.tag ∨ c.headerTaken = true
    (∀ sh : Shot, stale → s.fcu.shot = some sh → sh.tag = tm.tag →
      sh.headerTaken = false →
      ∃ t, exec .burstTimeout s = .next t ∧ counted Ctr.lostCaptures s t
        ∧ (s.fcu.lostRun < 7 →
            t.fcu = { s.fcu with burstTimer := none, shot := none, lostRun := s.fcu.lostRun + 1 }
              ∧ t.rsp = s.rsp)
        ∧ (s.fcu.lostRun = 7 → s.tripsTo t .noReceiver sh.slot ∧ t.fcu.burstTimer = none))
    ∧ (∀ c : PathCapture, s.settled → s.rsp.path.capture = some c → c.tag = tm.tag →
      c.headerTaken = false → s.rsp.path.running = true →
      ∃ t, exec .burstTimeout s = .next t ∧ t.fcu = { s.fcu with burstTimer := none }
        ∧ t.rsp = { s.rsp with path := { s.rsp.path with
            capture := none
            settled := s.rsp.path.settled + 1
            running := decide (s.rsp.path.issued ≠ s.rsp.path.n) } }
        ∧ counted Ctr.pathLost s t ∧ ctrsKept [Ctr.pathLost] s t ∧ t.gau = s.gau ∧ t.slc = s.slc)
    ∧ (s.settled → stale →
      (∀ sh : Shot, s.fcu.shot = some sh → sh.tag ≠ tm.tag ∨ sh.headerTaken = true) →
      exec .burstTimeout s = .next { s with fcu := { s.fcu with burstTimer := none } })

/-- INTERLOCK opens (R21, R22): a RUNNING FCU trips with the slot decided most recently, and abandons its
open banks and pending injections; a TRIPPED one adds the cause; a HALTED one is counted. -/
def Obligations.InterlockOpening : Prop :=
  ∀ s : State, s.fcu.interlockClosed = true → ∃ t, exec .interlockOpens s = .next t
    ∧ t.fcu.interlockClosed = false ∧ t.progs = s.progs ∧ t.ldu = s.ldu ∧ t.ltu = s.ltu ∧ t.sku = s.sku
    ∧ t.mgu = s.mgu ∧ t.slc.sameSettings s.slc
    ∧ (s.fcu.state = .running →
        s.tripsTo t .interlock (s.fcu.pointer - 1) ∧ t.fcu.servos = s.fcu.servos
          ∧ t.gau = { s.gau with
              staging := .idle
              banks := s.gau.banks.map fun k => if k.state = .accumulating then Bank.freed else k }
          ∧ t.pcu = { s.pcu with pendingInj := Vector.replicate 4 none })
    ∧ (s.fcu.state = .tripped →
        t.fcu = { s.fcu with
            interlockClosed := false
            trip := s.fcu.trip.map fun r => { r with additionalInterlock := true } }
          ∧ counted Ctr.tripsInterlock s t ∧ t.rsp = s.rsp ∧ t.gau = s.gau ∧ t.pcu = s.pcu)
    ∧ (s.fcu.state = .halted →
        t.fcu = { s.fcu with interlockClosed := false } ∧ counted Ctr.interlockOpenings s t
          ∧ ctrsKept [Ctr.interlockOpenings] s t ∧ t.rsp = s.rsp ∧ t.gau = s.gau ∧ t.pcu = s.pcu
          ∧ t.slc = s.slc)

/-- A matched header of a fired shot above 5/4 of E_ref trips with OVER_ENERGY, and one of a dark
capture at or above half of E_ref with UNCOMMANDED_EMISSION; the burst is handled as the remainder of a
dropped one and the servo is not fed. A dark capture below half of E_ref passes: no trip, no servo fed,
no histogram bin counted, the weak run as it was (R12, R13, R36, R41). -/
def Obligations.EmissionFaultTrips : Prop :=
  ∀ (s : State) (sh : Shot) (rest : List BufItem) (m r w : Word),
    s.headerAt sh rest m r w → s.fcu.state = .running →
    ∃ t, exec .parserTakesWord s = .next t
      ∧ (sh.kind = .fire → 5 * s.progs[sh.prog].eRef < 4 * readingOf r →
          s.tripsTo t .overEnergy sh.slot ∧ t.fcu.servos = s.fcu.servos
            ∧ counted Ctr.energyBin7 s t ∧ counted Ctr.strayBursts s t
            ∧ t.rsp = { s.rsp with buffer := rest, parser := .hunt, truncTimer := none })
      ∧ (sh.kind = .dark → s.progs[sh.prog].eRef ≤ 2 * readingOf r →
          s.tripsTo t .uncommandedEmission sh.slot ∧ t.fcu.servos = s.fcu.servos
            ∧ counted Ctr.strayBursts s t
            ∧ t.rsp = { s.rsp with buffer := rest, parser := .hunt, truncTimer := none })
      ∧ (sh.kind = .dark → 2 * readingOf r < s.progs[sh.prog].eRef →
          t.fcu.state = .running ∧ t.fcu.alert = s.fcu.alert ∧ t.fcu.trip = s.fcu.trip
            ∧ t.fcu.servos = s.fcu.servos ∧ t.fcu.weakRun = s.fcu.weakRun ∧ t.fcu.lostRun = 0
            ∧ ∀ c : Ctr, Ctr.energyBin1 ≤ c → c ≤ Ctr.energyBin7 → t.ctrs[c] = s.ctrs[c])

/-- A matched header with the right count enters SAMPLES and opens the staging vector, or has the open held
while the vector is COMMITTING (R36, R53): of a fired shot judged normal, or WEAK below the sixteenth in a
row, the runs are set, the bin is counted, and the program's servo record alone is fed, with its lock changes
counted and DRIVE_LIMIT raised (R12, R14, R15, R18 to R20; what a feeding does to the record is O17); of a dark
capture below half of E_ref the lost run is 0 (R13, R15). That of a path-check capture takes its header-taken
mark, opens no vector, and changes nothing else; its truncation timer is log entry 23. The right count of a
shot or a dark capture is the L now in force: log entry 18. A matched header in front of a slip point is
judged, and its burst is SLIPPED at the same event (R32, R40; log entry 14). The sixteenth WEAK in a row is
counted, trips the FCU with MISFIRE whatever the count, and its burst is handled as the remainder of a dropped
one (R14, R21, R36, R41); that its bin is counted and its servo fed before the trip is log entry 13. -/
def Obligations.MatchedHeaderEntersSamples : Prop :=
  let opened (s t : State) (q : OpenReq) : Prop :=
    (s.gau.staging.busy = false → t.gau.staging = .staging ⟨q.prog, q.kind, q.energy,
        List.replicate s.progs[q.prog].gateCount ⟨0, 0⟩⟩)
      ∧ ∀ v h, s.gau.staging = .committing v h → t.gau.staging = .committing v (some q)
  let err (s : State) (p : Prog) (e : Nat) : Int := (s.progs[p].eRef : Int) - e
  let fed (s : State) (p : Prog) (e : Nat) : Servo := s.fcu.servos[p].feed s.progs[p] (err s p e)
  let servosFed (s : State) (p : Prog) (e : Nat) : Vector Servo 4 :=
    if s.fcu.servos[p].mode = .manual then s.fcu.servos
    else s.fcu.servos.set p ((fed s p e).rearm s.progs[p] (err s p e))
  let atLimit (s : State) (p : Prog) (e : Nat) : Prop := s.fcu.servos[p].mode ≠ .manual ∧ 0 < err s p e
    ∧ (fed s p e).drive = s.progs[p].driveMax ∧ s.fcu.servos[p].armed = true
  (∀ (s : State) (sh : Shot) (rest : List BufItem) (m r w : Word),
    s.headerAt sh rest m r w → s.fcu.state = .running → sh.kind = .fire →
    w.toNat = s.fcu.firing.recordLen →
    4 * readingOf r ≤ 5 * s.progs[sh.prog].eRef → s.fcu.weakRun < 15 →
    let weak := decide (2 * readingOf r < s.progs[sh.prog].eRef)
    ∃ t, exec .parserTakesWord s = .next t
      ∧ t.fcu.shot = some { sh with headerTaken := true, weak := sh.weak || weak }
      ∧ t.fcu.lostRun = 0 ∧ t.fcu.weakRun = (if weak then s.fcu.weakRun + 1 else 0)
      ∧ t.fcu.state = .running
      ∧ counted (energyBin (readingOf r) s.progs[sh.prog].eRef) s t
      ∧ (weak = true → counted Ctr.weakShots s t)
      ∧ t.rsp = { s.rsp with
          buffer := rest
          parser := .samples ⟨false, sh.tag, s.fcu.firing.recordLen, 0⟩
          truncTimer := some s.fcu.firing.shotPeriod }
      ∧ opened s t ⟨sh.prog, .fire, readingOf r⟩
      ∧ t.fcu.servos = servosFed s sh.prog (readingOf r)
      ∧ (s.fcu.servos[sh.prog].mode = .acquire → (fed s sh.prog (readingOf r)).mode = .track →
          counted Ctr.servoLocks s t)
      ∧ (s.fcu.servos[sh.prog].mode = .track → (fed s sh.prog (readingOf r)).mode = .acquire →
          counted Ctr.servoUnlocks s t)
      ∧ (atLimit s sh.prog (readingOf r) →
          (s.ctrs[Ctr.noticesRaised] < Config.counterMax →
            s.ctrs[Ctr.noticesRaised] < t.ctrs[Ctr.noticesRaised])
          ∧ (t.slc.noticeSet.getLsbD NoticeKind.driveLimit.bit = true
              ∨ ∃ f : Frame, t.slc.current = some f ∧ f.kind = .notice))
      ∧ (s.settled → ¬ atLimit s sh.prog (readingOf r) → t.slc = s.slc))
  ∧ (∀ (s : State) (sh : Shot) (rest : List BufItem) (m r w : Word),
    s.headerAt sh rest m r w → s.fcu.state = .running → sh.kind = .dark →
    w.toNat = s.fcu.firing.recordLen → 2 * readingOf r < s.progs[sh.prog].eRef →
    ∃ t, exec .parserTakesWord s = .next t
      ∧ t.fcu = { s.fcu with shot := some { sh with headerTaken := true }, lostRun := 0 }
      ∧ t.rsp = { s.rsp with
          buffer := rest
          parser := .samples ⟨false, sh.tag, s.fcu.firing.recordLen, 0⟩
          truncTimer := some s.fcu.firing.shotPeriod }
      ∧ opened s t ⟨sh.prog, .dark, readingOf r⟩)
  ∧ (∀ (s : State) (c : PathCapture) (rest : List BufItem) (m r w : Word), s.settled →
    s.rsp.buffer = .word w :: rest → rest.head? ≠ some .slip → isMark w = false →
    s.rsp.parser = .header m (some r) → s.rsp.path.running = true → s.rsp.path.capture = some c →
    markTag m = c.tag → markTest m = true → w.toNat = c.len →
    exec .parserTakesWord s = .next { s with rsp := { s.rsp with
      buffer := rest
      parser := .samples ⟨true, c.tag, c.len, 0⟩
      truncTimer := some s.fcu.firing.shotPeriod
      path := { s.rsp.path with capture := some { c with headerTaken := true } } } })
  ∧ (∀ (s : State) (rest : List BufItem) (m r w : Word), s.settled →
    s.rsp.buffer = .word w :: .slip :: rest → isMark w = false → s.rsp.parser = .header m (some r) →
    let hunting : Rsp := { s.rsp with
      buffer := rest.dropWhile fun x => !x.isWord, parser := .hunt, truncTimer := none }
    (∀ sh : Shot, s.rsp.path.running = false → s.fcu.shot = some sh → s.fcu.state = .running →
      markTag m = sh.tag → markTest m = false → w.toNat = s.fcu.firing.recordLen →
      (sh.kind = .dark ∧ 2 * readingOf r < s.progs[sh.prog].eRef
        ∨ sh.kind = .fire ∧ 4 * readingOf r ≤ 5 * s.progs[sh.prog].eRef ∧ s.fcu.weakRun < 15) →
      ∃ t, exec .parserTakesWord s = .next t ∧ t.rsp = hunting ∧ t.fcu.shot = none
        ∧ t.fcu.state = .running ∧ t.fcu.lostRun = 0 ∧ t.gau.staging = .idle
        ∧ t.fcu.servos = (if sh.kind = .fire then servosFed s sh.prog (readingOf r) else s.fcu.servos)
        ∧ counted Ctr.slippedBursts s t)
    ∧ ∀ c : PathCapture, s.rsp.path.running = true → s.rsp.path.capture = some c →
      markTag m = c.tag → markTest m = true → w.toNat = c.len →
      ∃ t, exec .parserTakesWord s = .next t
        ∧ t.rsp = { hunting with path := { s.rsp.path with
            capture := none
            settled := s.rsp.path.settled + 1
            running := decide (s.rsp.path.issued ≠ s.rsp.path.n) } }
        ∧ t.fcu = s.fcu ∧ t.gau.staging = .idle ∧ counted Ctr.slippedBursts s t)
  ∧ ∀ (s : State) (sh : Shot) (rest : List BufItem) (m r w : Word),
    s.headerAt sh rest m r w → s.fcu.state = .running → sh.kind = .fire →
    2 * readingOf r < s.progs[sh.prog].eRef → s.fcu.weakRun = 15 →
    ∃ t, exec .parserTakesWord s = .next t ∧ s.tripsTo t .misfire sh.slot
      ∧ counted Ctr.weakShots s t ∧ counted (energyBin (readingOf r) s.progs[sh.prog].eRef) s t
      ∧ counted Ctr.strayBursts s t ∧ t.gau.staging = .idle
      ∧ t.fcu.servos = servosFed s sh.prog (readingOf r)
      ∧ t.rsp = { s.rsp with buffer := rest, parser := .hunt, truncTimer := none }

/-- A servo fed with any reading keeps its drive within 0 to drive max, moves it by at most 16 in ACQUIRE
and at most 1 in TRACK, never moves a MANUAL one, and keeps lock run and group count in their ranges
(R17 to R19). What a feeding does: in ACQUIRE the rounded and clamped step and the lock run (R18), in TRACK the
group and its end (R19), and the armed flag with the raise of DRIVE_LIMIT (R20). -/
def Obligations.ServoStaysInRange : Prop :=
  ∀ (v : Servo) (r : ProgramRec) (e : Nat), v.drive ≤ r.driveMax → v.lockRun ≤ 8 → v.groupCount < 16 →
    let err : Int := (r.eRef : Int) - e
    let v1 := (v.feed r err).rearm r err
    v1.drive ≤ r.driveMax ∧ v1.lockRun ≤ 8 ∧ v1.groupCount < 16
      ∧ (v.mode = .manual → v1.drive = v.drive ∧ v1.mode = .manual)
      ∧ (v.mode = .acquire → Machine.dist v1.drive v.drive ≤ 16)
      ∧ (v.mode = .track → Machine.dist v1.drive v.drive ≤ 1)
      ∧ (v.mode = .track → v.groupCount < 15 → v1.drive = v.drive ∧ v1.mode = .track
          ∧ v1.groupSum = v.groupSum + err)
      ∧ (v.mode = .acquire → (v1.mode = .track ↔ v.lockRun ≥ 7 ∧ err.natAbs ≤ r.eRef / 16))
      ∧ (let u := v.feed r err
        let moved (x : Int) : Nat := (max 0 (min (r.driveMax : Int) (v.drive + x))).toNat
        let run := if err.natAbs ≤ r.eRef / 16 then v.lockRun + 1 else 0
        let mean := roundDiv (v.groupSum + err) 16
        (v.mode = .manual → u = v)
        ∧ (v.mode = .acquire → u = { v with
            drive := moved (max (-16) (min 16 (roundDiv err 64)))
            lockRun := min run 8
            mode := if 8 ≤ run then .track else .acquire
            groupSum := if 8 ≤ run then 0 else v.groupSum
            groupCount := if 8 ≤ run then 0 else v.groupCount })
        ∧ (v.mode = .track → v.groupCount < 15 → u = { v with
            groupSum := v.groupSum + err, groupCount := v.groupCount + 1 })
        ∧ (v.mode = .track → v.groupCount = 15 → u = { v with
            groupSum := 0
            groupCount := 0
            mode := if r.eRef / 8 < mean.natAbs then .acquire else .track
            lockRun := if r.eRef / 8 < mean.natAbs then 0 else v.lockRun
            drive := if mean.natAbs ≤ r.eRef / 8 ∧ r.eRef / 32 < mean.natAbs then moved mean.sign else v.drive })
        ∧ v1 = { u with armed :=
            if 0 < err ∧ u.drive = r.driveMax ∧ v.armed = true then false
            else if u.drive < r.driveMax then true else v.armed }
        ∧ (u.atLimit r err = true ↔ 0 < err ∧ u.drive = r.driveMax ∧ v.armed = true))

/-! ### The FCU's commands (R25 to R28) -/

/-- Outside RUNNING, SET_FIRING replaces the four settings, and SET_SCHEDULE the 32 entries and sets the
pointer to 0; nothing else changes (R25). -/
def Obligations.FiringSettingsReplaced : Prop :=
  ∀ (s : State) (b : CmdBlock), s.ready → s.fcu.state ≠ .running → b.single = true →
    (∀ f : Firing, b.payload = firingBytes f → f.valid = true →
      ∃ t, exec (.setFiring b) s = .next t
        ∧ s.answered t (responseTo s.slc 0x11 b .ok [] .nothing) ∧ ctrsKept commandCtrs s t
        ∧ ({ s with fcu := { s.fcu with firing := f } } : State).sameButLine t)
    ∧ ∀ v : Vector SlotEntry 32, b.payload = scheduleBytes v →
      ∃ t, exec (.setSchedule b) s = .next t
        ∧ s.answered t (responseTo s.slc 0x12 b .ok [] .nothing) ∧ ctrsKept commandCtrs s t
        ∧ ({ s with fcu := { s.fcu with schedule := v, pointer := 0 } } : State).sameButLine t

/-- START whose checks pass (R26): RUNNING, the servos as R17 sets them, runs and flags cleared; the tag,
the pointer, the window and the drive continue. -/
def Obligations.StartEntersRunning : Prop :=
  ∀ (s : State) (b : CmdBlock), s.ready → b.single = true → b.payload = [] → s.fcu.state = .halted →
    s.fcu.interlockClosed = true → s.rsp.path.running = false →
    (∃ (i : Fin 32) (p : Prog), s.fcu.schedule[i] = .fire p ∧ s.progs[p].enabled = true) →
    s.gateFault = none →
    ∃ t, exec (.start b) s = .next t
      ∧ s.answered t (responseTo s.slc 0x13 b .ok [] .nothing) ∧ ctrsKept commandCtrs s t
      ∧ t.fcu = { s.fcu with
          state := .running
          servos := t.fcu.servos
          weakRun := 0
          lostRun := 0
          budgetHold := false }
      ∧ (∀ p : Prog, t.fcu.servos[p] =
          if s.fcu.servos[p].mode = .manual then { s.fcu.servos[p] with drive := s.progs[p].startDrive }
          else { s.fcu.servos[p] with mode := .acquire, lockRun := 0, groupSum := 0, groupCount := 0 })
      ∧ t.gau = { s.gau with starved := Vector.replicate 4 false }
      ∧ t.progs = s.progs ∧ t.rsp = s.rsp ∧ t.pcu = s.pcu ∧ t.ldu = s.ldu ∧ t.ltu = s.ltu
      ∧ t.sku = s.sku ∧ t.mgu = s.mgu ∧ t.slc.sameSettings s.slc

/-- The refusals of START in the order of R26, BAD_CONFIG with program and entry index (R52, R177). -/
def Obligations.StartRefusedInOrder : Prop :=
  ∀ (s : State) (b : CmdBlock), s.ready → b.single = true → b.payload = [] →
    (s.fcu.state ≠ .halted → ∃ t, exec (.start b) s = .next t
      ∧ s.refusedWith t 0x13 b .wrongState [] [])
    ∧ (s.fcu.state = .halted → s.fcu.interlockClosed = false → ∃ t, exec (.start b) s = .next t
      ∧ s.refusedWith t 0x13 b .interlock [] [])
    ∧ (s.fcu.state = .halted → s.fcu.interlockClosed = true →
      (s.rsp.path.running = true
        ∨ ∀ (i : Fin 32) (p : Prog), s.fcu.schedule[i] = .fire p → s.progs[p].enabled = false) →
      ∃ t, exec (.start b) s = .next t ∧ s.refusedWith t 0x13 b .notReady [] [])
    ∧ (∀ (p : Prog) (i : Nat), s.fcu.state = .halted → s.fcu.interlockClosed = true →
      s.startReady = true → s.gateFault = some (p, i) → ∃ t, exec (.start b) s = .next t
      ∧ s.refusedWith t 0x13 b .badConfig (be 1 p.val ++ be 2 i) [])

/-- The run check of START finds the first entry that ends beyond L or begins before the entry ahead of it
ends, and none exactly when every entry is in place (R52); a sample goes to a gate of the run that covers
its range index, and to none exactly when no gate does (R54). -/
def Obligations.GateRunsCheckedAndUsed : Prop :=
  (∀ (len : Nat) (run : List GateEntry),
    let bad (i : Nat) : Prop := ∃ g, run[i]? = some g ∧
      (len < g.first + g.width ∨ ∃ (j : Nat) (h : GateEntry), i = j + 1 ∧ run[j]? = some h
        ∧ g.first < h.first + h.width)
    (∀ i, runFault len 0 run = some i → bad i ∧ ∀ j, j < i → ¬ bad j)
      ∧ (runFault len 0 run = none → ∀ i, ¬ bad i))
  ∧ ∀ (run : List GateEntry) (k : Nat),
    (∀ g, gateOf run k = some g → ∃ e, run[g]? = some e ∧ e.first ≤ k ∧ k ≤ e.lastIndex)
      ∧ (gateOf run k = none ↔ ∀ e ∈ run, 1 ≤ e.width → ¬ (e.first ≤ k ∧ k ≤ e.lastIndex))

/-- STOP (R27): a RUNNING FCU is HALTED with DRIVE 0, the shot dropped, the open banks abandoned and
counted, the pending injections cleared and counted; otherwise it changes nothing and answers OK. -/
def Obligations.StopHalts : Prop :=
  ∀ (s : State) (b : CmdBlock), s.ready → b.single = true → b.payload = [] →
    ∃ t, exec (.stop b) s = .next t ∧ s.answered t (responseTo s.slc 0x14 b .ok [] .nothing)
      ∧ (s.fcu.state ≠ .running → s.sameButLine t ∧ ctrsKept commandCtrs s t)
      ∧ (s.fcu.state = .running →
          t.fcu = { s.fcu with state := .halted, drive := 0, shot := none }
            ∧ t.gau = { s.gau with
                staging := .idle
                banks := s.gau.banks.map fun k => if k.state = .accumulating then Bank.freed else k }
            ∧ t.pcu = { s.pcu with pendingInj := Vector.replicate 4 none }
            ∧ t.ctrs[Ctr.profilesAbandoned]
                = min (s.ctrs[Ctr.profilesAbandoned] + s.gau.accCount) Config.counterMax
            ∧ t.ctrs[Ctr.injectionsCleared]
                = min (s.ctrs[Ctr.injectionsCleared] + s.pcu.pendingCount) Config.counterMax
            ∧ (s.samplingShot = false → t.rsp = s.rsp)
            ∧ (s.samplingShot = true → t.rsp = { s.rsp with parser := .hunt, truncTimer := none }
                ∧ counted Ctr.strayBursts s t)
            ∧ ctrsKept ([Ctr.profilesAbandoned, Ctr.injectionsCleared, Ctr.strayBursts] ++ commandCtrs) s t
            ∧ t.progs = s.progs ∧ t.ldu = s.ldu ∧ t.ltu = s.ltu ∧ t.sku = s.sku ∧ t.mgu = s.mgu
            ∧ t.slc.sameSettings s.slc)

/-- CLEAR_TRIP (R28): WRONG_STATE outside TRIPPED, INTERLOCK while the chain is open, and otherwise the
trip record moves, ALERT is released and the FCU is HALTED. INTERLOCK_CLOSES changes nothing but the level
of the pin (R22). -/
def Obligations.InterlockClosingAllowsClearTrip : Prop :=
  (∀ s : State, exec .interlockCloses s = .next { s with fcu := { s.fcu with interlockClosed := true } })
  ∧ ∀ (s : State) (b : CmdBlock), s.ready → b.single = true → b.payload = [] →
    (s.fcu.state ≠ .tripped → ∃ t, exec (.clearTrip b) s = .next t
      ∧ s.refusedWith t 0x15 b .wrongState [] [])
    ∧ (s.fcu.state = .tripped → s.fcu.interlockClosed = false →
      ∃ t, exec (.clearTrip b) s = .next t ∧ s.refusedWith t 0x15 b .interlock [] [])
    ∧ (s.fcu.state = .tripped → s.fcu.interlockClosed = true →
      ∃ t, exec (.clearTrip b) s = .next t
        ∧ s.answered t (responseTo s.slc 0x15 b .ok [] .nothing) ∧ ctrsKept commandCtrs s t
        ∧ ({ s with fcu := { s.fcu with
              state := .halted, alert := false, lastTrip := s.fcu.trip, trip := none } } : State).sameButLine t)

/-! ### Sample port and bursts (R31 to R41, R53 to R61) -/

/-- A word at an SDSTB strobe is stored, or lost to a slip spell that it begins or finds, or ends the
spell as a mark that finds room (R31, R32). -/
def Obligations.SampleWordStoredOrLost : Prop :=
  ∀ (s : State) (w : Word), ∃ t, exec (.sampleWordArrival w) s = .next t
    ∧ (s.rsp.slipSpell = false → s.rsp.occupancy < 8192 →
        t = { s with rsp := { s.rsp with
          buffer := s.rsp.buffer ++ [.word w]
          highWater := max s.rsp.highWater (s.rsp.occupancy + 1) } }
        ∧ t.rsp.occupancy = s.rsp.occupancy + 1)
    ∧ (s.rsp.slipSpell = false → 8192 ≤ s.rsp.occupancy →
        t.rsp = { s.rsp with buffer := s.rsp.buffer ++ [.slip], slipSpell := true }
        ∧ t.rsp.occupancy = s.rsp.occupancy ∧ counted Ctr.slippedWords s t
        ∧ t.slc.sameSettings s.slc ∧ ctrsKept (Ctr.slippedWords :: raiseCtrs) s t
        ∧ (s.slc.masked .slip = true → t.slc = { s.slc with
            noticeSet := s.slc.noticeSet ||| NoticeKind.slip.flag }))
    ∧ (s.rsp.slipSpell = true → (8192 ≤ s.rsp.occupancy ∨ isMark w = false) →
        t.rsp = s.rsp ∧ counted Ctr.slippedWords s t ∧ ctrsKept [Ctr.slippedWords] s t ∧ t.slc = s.slc)
    ∧ (s.rsp.slipSpell = true → s.rsp.occupancy < 8192 → isMark w = true →
        t = { s with rsp := { s.rsp with
          buffer := s.rsp.buffer ++ [.word w]
          highWater := max s.rsp.highWater (s.rsp.occupancy + 1)
          slipSpell := false } })
    ∧ t.fcu = s.fcu ∧ t.gau = s.gau ∧ t.pcu = s.pcu ∧ t.ldu = s.ldu ∧ t.ltu = s.ltu ∧ t.sku = s.sku
    ∧ t.progs = s.progs ∧ t.mgu = s.mgu

/-- What the parser makes of a word outside SAMPLES, short of a header's count word, and of a slip point in
HUNT, TRAIL or HEADER, at the head of the buffer or behind the word taken (R32, R33, R39, R49). That a slip
point is reached at the event that brings it to the head, a run of them at one event, and that a partial
header it drops is counted in DISCARDED_WORDS, is log entry 14. -/
def Obligations.ParserOutsideSamples : Prop :=
  (∀ (s : State) (rest : List BufItem), s.settled → s.rsp.buffer = .slip :: rest →
    (s.rsp.parser = .hunt ∨ s.rsp.parser = .trail → exec .parserTakesWord s = .next { s with
      rsp := { s.rsp with
        buffer := rest.dropWhile fun x => !x.isWord, parser := .hunt, truncTimer := none } })
    ∧ ∀ m r, s.rsp.parser = .header m r → exec .parserTakesWord s = .next { s with
      rsp := { s.rsp with
        buffer := rest.dropWhile fun x => !x.isWord, parser := .hunt, truncTimer := none }
      ctrs := Counters.add s.ctrs Ctr.discardedWords (if r = none then 1 else 2) })
  ∧ (∀ (s : State) (w : Word) (rest : List BufItem), s.settled → s.rsp.buffer = .word w :: rest →
    rest.head? ≠ some .slip →
    (isMark w = false → s.rsp.parser = .hunt → exec .parserTakesWord s = .next { s with
      rsp := { s.rsp with buffer := rest }, ctrs := Counters.add s.ctrs Ctr.discardedWords 1 })
    ∧ (isMark w = false → s.rsp.parser = .trail → exec .parserTakesWord s = .next { s with
      rsp := { s.rsp with buffer := rest }, ctrs := Counters.add s.ctrs Ctr.excessWords 1 })
    ∧ (∀ m, isMark w = false → s.rsp.parser = .header m none → exec .parserTakesWord s = .next { s with
      rsp := { s.rsp with buffer := rest, parser := .header m (some w), truncTimer := none } })
    ∧ (isMark w = true → s.rsp.parser = .hunt ∨ s.rsp.parser = .trail →
      exec .parserTakesWord s = .next { s with
        rsp := { s.rsp with buffer := rest, parser := .header w none, truncTimer := none } })
    ∧ (∀ m r, isMark w = true → s.rsp.parser = .header m r → exec .parserTakesWord s = .next { s with
      rsp := { s.rsp with buffer := rest, parser := .header w none, truncTimer := none }
      ctrs := Counters.add s.ctrs Ctr.discardedWords (if r = none then 1 else 2) }))
  ∧ ∀ (s : State) (w : Word) (rest : List BufItem), s.settled → s.rsp.buffer = .word w :: .slip :: rest →
    let slipped (c : Ctr) (n : Nat) : State := { s with
      rsp := { s.rsp with
        buffer := rest.dropWhile fun x => !x.isWord, parser := .hunt, truncTimer := none }
      ctrs := Counters.add s.ctrs c n }
    (isMark w = false → s.rsp.parser = .hunt →
      exec .parserTakesWord s = .next (slipped Ctr.discardedWords 1))
    ∧ (isMark w = false → s.rsp.parser = .trail →
      exec .parserTakesWord s = .next (slipped Ctr.excessWords 1))
    ∧ (∀ m, isMark w = false → s.rsp.parser = .header m none →
      exec .parserTakesWord s = .next (slipped Ctr.discardedWords 2))
    ∧ (isMark w = true → s.rsp.parser = .hunt ∨ s.rsp.parser = .trail →
      exec .parserTakesWord s = .next (slipped Ctr.discardedWords 1))
    ∧ (∀ m r, isMark w = true → s.rsp.parser = .header m r →
      exec .parserTakesWord s = .next (slipped Ctr.discardedWords (if r = none then 2 else 3)))

/-- Headers that fail: STRAY with nothing in flight, TAG_ERROR, LENGTH_ERROR of a shot, a dark capture or a
path-check capture (R34 to R36). Bursts in SAMPLES, of a shot, a dark capture or a path-check capture,
rejected before completion: SHORT at a mark, SLIPPED at a slip point, TRUNCATED at the timer (R32, R38,
R40). The capture is emptied and settled, the vector IDLE, each cause counted; a path-check word taken in
front of a slip point is compared first (R45, R46). The expiry has no effect outside SAMPLES (R40) or with
no timer running (log entry 6). Slip points act and count as in log entry 14, a COMMITTING vector is
discarded by log entry 17, and the length is that of log entry 18. -/
def Obligations.BurstRejectedBeforeCompletion : Prop :=
  ∀ (s : State), s.settled →
    let left (rest : List BufItem) : List BufItem := rest.dropWhile fun x => !x.isWord
    let hunting (rest : List BufItem) : Rsp :=
      { s.rsp with buffer := left rest, parser := .hunt, truncTimer := none }
    let lost : PathCheck := { s.rsp.path with
      capture := none, settled := s.rsp.path.settled + 1, running := decide (s.rsp.path.issued ≠ s.rsp.path.n) }
    (∀ (m r w : Word) (rest : List BufItem), s.rsp.buffer = .word w :: rest → isMark w = false →
      s.rsp.parser = .header m (some r) →
      (s.rsp.path.running = true ∧ s.rsp.path.capture = none
          ∨ s.rsp.path.running = false ∧ s.fcu.shot = none →
        exec .parserTakesWord s = .next { s with
          rsp := hunting rest
          ctrs := Counters.add (Counters.add s.ctrs Ctr.strayBursts 1) Ctr.discardedWords 3 })
      ∧ (∀ sh : Shot, s.rsp.path.running = false → s.fcu.shot = some sh →
        (markTag m ≠ sh.tag ∨ markTest m = true → ∃ t, exec .parserTakesWord s = .next t
          ∧ t.rsp = hunting rest ∧ t.fcu = { s.fcu with shot := none } ∧ t.gau.staging = .idle
          ∧ counted Ctr.tagErrors s t
          ∧ t.ctrs[Ctr.discardedWords] = min (s.ctrs[Ctr.discardedWords] + 3) Config.counterMax)
        ∧ (markTag m = sh.tag → markTest m = false → w.toNat ≠ s.fcu.firing.recordLen →
          s.fcu.state = .running →
          (sh.kind = .dark ∧ 2 * readingOf r < s.progs[sh.prog].eRef
            ∨ sh.kind = .fire ∧ 4 * readingOf r ≤ 5 * s.progs[sh.prog].eRef ∧ s.fcu.weakRun < 15) →
          ∃ t, exec .parserTakesWord s = .next t ∧ t.rsp = hunting rest ∧ t.fcu.shot = none
            ∧ t.fcu.state = .running ∧ t.fcu.lostRun = 0 ∧ t.gau.staging = .idle
            ∧ counted Ctr.lengthErrors s t
            ∧ t.ctrs[Ctr.discardedWords] = min (s.ctrs[Ctr.discardedWords] + 3) Config.counterMax))
      ∧ ∀ c : PathCapture, s.rsp.path.running = true → s.rsp.path.capture = some c →
        (markTag m ≠ c.tag ∨ markTest m = false → ∃ t, exec .parserTakesWord s = .next t
          ∧ t.rsp = { hunting rest with path := lost } ∧ t.fcu = s.fcu ∧ counted Ctr.tagErrors s t)
        ∧ (markTag m = c.tag → markTest m = true → w.toNat ≠ c.len →
          ∃ t, exec .parserTakesWord s = .next t
          ∧ t.rsp = { hunting rest with path := lost } ∧ t.fcu = s.fcu ∧ counted Ctr.lengthErrors s t))
    ∧ (∀ (b : Burst) (sh : Shot), s.rsp.parser = .samples b → b.path = false → s.fcu.shot = some sh →
      (∀ (w : Word) (rest : List BufItem), s.rsp.buffer = .word w :: rest → isMark w = true →
        ∃ t, exec .parserTakesWord s = .next t
          ∧ (rest.head? ≠ some .slip →
              t.rsp = { s.rsp with buffer := rest, parser := .header w none, truncTimer := none })
          ∧ (rest.head? = some .slip → t.rsp = hunting rest ∧ counted Ctr.discardedWords s t)
          ∧ t.fcu = { s.fcu with shot := none } ∧ t.gau.staging = .idle ∧ counted Ctr.shortBursts s t)
      ∧ (∀ rest : List BufItem, s.rsp.buffer = .slip :: rest → ∃ t, exec .parserTakesWord s = .next t
          ∧ t.rsp = hunting rest ∧ t.fcu = { s.fcu with shot := none } ∧ t.gau.staging = .idle
          ∧ counted Ctr.slippedBursts s t)
      ∧ (∀ (w : Word) (rest : List BufItem), s.rsp.buffer = .word w :: .slip :: rest → isMark w = false →
        b.next + 1 < b.expected → (b.next ≠ 0 ∨ s.gau.staging.busy = false) →
        ∃ t, exec .parserTakesWord s = .next t
          ∧ t.rsp = hunting rest ∧ t.fcu = { s.fcu with shot := none } ∧ t.gau.staging = .idle
          ∧ counted Ctr.slippedBursts s t ∧ (16383 ≤ w.toNat → counted Ctr.saturatedSamples s t))
      ∧ (∀ us : Nat, s.rsp.truncTimer = some us → ∃ t, exec .truncationTimerExpiry s = .next t
          ∧ t.rsp = { s.rsp with parser := .hunt, truncTimer := none }
          ∧ t.fcu = { s.fcu with shot := none } ∧ t.gau.staging = .idle ∧ counted Ctr.truncatedBursts s t))
    ∧ (∀ b : Burst, s.rsp.parser = .samples b → b.path = true → s.rsp.path.running = true →
      (∀ (w : Word) (rest : List BufItem), s.rsp.buffer = .word w :: rest → isMark w = true →
        ∃ t, exec .parserTakesWord s = .next t
          ∧ (rest.head? ≠ some .slip → t.rsp = { s.rsp with
              buffer := rest, parser := .header w none, truncTimer := none, path := lost })
          ∧ (rest.head? = some .slip →
              t.rsp = { hunting rest with path := lost } ∧ counted Ctr.discardedWords s t)
          ∧ t.fcu = s.fcu ∧ t.gau.staging = .idle ∧ counted Ctr.shortBursts s t)
      ∧ (∀ rest : List BufItem, s.rsp.buffer = .slip :: rest → ∃ t, exec .parserTakesWord s = .next t
          ∧ t.rsp = { hunting rest with path := lost } ∧ t.fcu = s.fcu ∧ t.gau.staging = .idle
          ∧ counted Ctr.slippedBursts s t)
      ∧ (∀ (w : Word) (rest : List BufItem), s.rsp.buffer = .word w :: .slip :: rest → isMark w = false →
        b.next + 1 < b.expected →
        let judged := (s.rsp.path.compare (w.toNat = (b.tag.toNat * 257 + b.next * 4093) % 16384)).1
        ∃ t, exec .parserTakesWord s = .next t
          ∧ t.rsp = { hunting rest with path := { judged with
              capture := none, settled := lost.settled, running := lost.running } }
          ∧ t.fcu = s.fcu ∧ t.gau.staging = .idle ∧ counted Ctr.slippedBursts s t
          ∧ counted Ctr.pathWordsCompared s t)
      ∧ ∀ us : Nat, s.rsp.truncTimer = some us → ∃ t, exec .truncationTimerExpiry s = .next t
        ∧ t.rsp = { s.rsp with parser := .hunt, truncTimer := none, path := lost } ∧ t.fcu = s.fcu
        ∧ t.gau.staging = .idle ∧ counted Ctr.truncatedBursts s t)
    ∧ ((∀ b, s.rsp.parser ≠ .samples b) ∨ s.rsp.truncTimer = none →
      exec .truncationTimerExpiry s = .next s)

/-- The last sample of a fired shot's burst (R40, R55, R61): an accepted shot's vector, with that sample
binned, is added into the bank that holds its mark; a WEAK one is discarded. Either is settled, and a bank
whose window is complete closes at that settlement with its outcome, at the tail of the Conditioning Queue
(R62, R63, R67). The last sample of a dark capture (R64): discarded without an ACCUMULATING bank of its
program or at the cap of 16384, else added to that bank's dark sums. -/
def Obligations.LastSampleCommitsOrDiscards : Prop :=
  ∀ (s : State) (b : Burst) (sh : Shot) (v : StageVec) (w : Word) (rest : List BufItem),
    s.settled → s.rsp.parser = .samples b → b.path = false → b.next ≠ 0 → b.next + 1 = b.expected →
    s.rsp.buffer = .word w :: rest → rest.head? ≠ some .slip → isMark w = false →
    s.fcu.shot = some sh → s.gau.staging = .staging v →
    let v1 := v.take (s.gau.run s.progs[v.prog]) b.next (min w.toNat 16383) (16383 ≤ w.toNat)
    let added (k : Bank) : Bank := { k with
      gates := List.zipWith (fun g x => { g with sig := g.sig + x.sum, sat := g.sat + x.sat }) k.gates v1.bins
      eSum := k.eSum + v.energy
      nAcc := k.nAcc + 1
      ownShot := none }
    (∀ k : Fin 6, sh.kind = .fire → s.gau.ownBank sh.slot = some k →
      s.gau.banks[k].elapsed < s.gau.banks[k].copy.nTarget →
      ∃ t, exec .parserTakesWord s = .next t ∧ t.fcu = { s.fcu with shot := none }
      ∧ t.rsp = { s.rsp with buffer := rest, parser := .trail, truncTimer := none }
      ∧ (sh.weak = false → counted Ctr.firedAccepted s t
          ∧ t.gau.staging = .committing v1 none ∧ t.gau.banks[k] = added s.gau.banks[k])
      ∧ (sh.weak = true → t.ctrs[Ctr.firedAccepted] = s.ctrs[Ctr.firedAccepted]
          ∧ t.gau.staging = .idle ∧ t.gau.banks[k] = { s.gau.banks[k] with ownShot := none })
      ∧ (∀ j : Fin 6, j ≠ k → t.gau.banks[j] = s.gau.banks[j]) ∧ t.gau.queue = s.gau.queue
      ∧ (16383 < w.toNat → counted Ctr.overRangeSamples s t)
      ∧ (16383 ≤ w.toNat → counted Ctr.saturatedSamples s t)
      ∧ ctrsKept [Ctr.overRangeSamples, Ctr.saturatedSamples, Ctr.firedAccepted] s t)
    ∧ (∀ k : Fin 6, sh.kind = .fire → s.gau.ownBank sh.slot = some k →
      s.gau.banks[k].elapsed = s.gau.banks[k].copy.nTarget → s.pcu.job.isSome = true →
      s.ldu.job.isSome = true → s.gau.queue ≠ [] → k ∉ s.gau.queue →
      let done : Bank := if sh.weak then { s.gau.banks[k] with ownShot := none } else added s.gau.banks[k]
      ∃ t, exec .parserTakesWord s = .next t ∧ t.fcu = { s.fcu with shot := none }
      ∧ t.gau.queue = s.gau.queue ++ [k]
      ∧ t.gau.banks[k] = { done with
          state := .closed
          waitCounted := false
          outcome := some (
            if done.copy.nTarget ≤ 2 * done.nAcc then .complete else if done.nAcc = 0 then .void else .degraded) }
      ∧ (∀ j : Fin 6, j ≠ k → t.gau.banks[j] = s.gau.banks[j]) ∧ t.pcu = s.pcu ∧ t.ldu = s.ldu
      ∧ (done.copy.nTarget ≤ 2 * done.nAcc → counted Ctr.profilesComplete s t)
      ∧ (1 ≤ done.nAcc → 2 * done.nAcc < done.copy.nTarget → counted Ctr.profilesDegraded s t)
      ∧ (done.nAcc = 0 → 1 ≤ done.copy.nTarget → counted Ctr.profilesVoid s t))
    ∧ (sh.kind = .dark → ∃ t, exec .parserTakesWord s = .next t ∧ t.fcu = { s.fcu with shot := none }
      ∧ t.rsp = { s.rsp with buffer := rest, parser := .trail, truncTimer := none }
      ∧ counted Ctr.darkAccepted s t ∧ t.gau.queue = s.gau.queue
      ∧ (s.gau.accBank sh.prog = none → t.gau = { s.gau with staging := .idle } ∧ counted Ctr.darkNoBank s t)
      ∧ ∀ k : Fin 6, s.gau.accBank sh.prog = some k →
        (s.gau.banks[k].dAcc = 16384 → t.gau = { s.gau with staging := .idle } ∧ counted Ctr.darkOverCap s t)
        ∧ (s.gau.banks[k].dAcc ≠ 16384 → counted Ctr.darkAdded s t ∧ t.gau.staging = .committing v1 none
          ∧ t.gau.banks[k] = { s.gau.banks[k] with
              gates := List.zipWith (fun g x => { g with dark := g.dark + x.sum }) s.gau.banks[k].gates v1.bins
              dAcc := s.gau.banks[k].dAcc + 1 }
          ∧ ∀ j : Fin 6, j ≠ k → t.gau.banks[j] = s.gau.banks[j]))

/-- While the vector is COMMITTING, the first sample word of a burst to be binned waits and the event
changes nothing; the end of the commit carries out the held open, and the word is then taken and binned
(R31, R53, R54). A commit with no held open ends IDLE. -/
def Obligations.CommitEndReleasesWaitingWord : Prop :=
  (∀ (s : State) (v : StageVec), s.gau.staging = .committing v none →
    exec .commitEnd s = .next { s with gau := { s.gau with staging := .idle } })
  ∧ ∀ (s : State) (b : Burst) (v : StageVec) (r : OpenReq) (w : Word) (rest : List BufItem), s.settled →
    s.rsp.parser = .samples b → b.path = false → b.next = 0 → 1 < b.expected →
    s.rsp.buffer = .word w :: rest → rest.head? ≠ some .slip → isMark w = false →
    s.gau.staging = .committing v (some r) →
    exec .parserTakesWord s = .next s
      ∧ ∃ u, exec .commitEnd s = .next u
        ∧ u = { s with gau := { s.gau with staging := .staging ⟨r.prog, r.kind, r.energy,
                                  List.replicate s.progs[r.prog].gateCount ⟨0, 0⟩⟩ } }
        ∧ ∃ t, exec .parserTakesWord u = .next t
          ∧ t.rsp = { s.rsp with buffer := rest, parser := .samples { b with next := 1 } }
          ∧ t.gau.staging = .staging (StageVec.take
              ⟨r.prog, r.kind, r.energy, List.replicate s.progs[r.prog].gateCount ⟨0, 0⟩⟩
              (s.gau.run s.progs[r.prog]) 0 (min w.toNat 16383) (16383 ≤ w.toNat))

/-! ### Path check (R43, R46, R47) -/

/-- The sync state of a path check: 48 correct words in a row end OUT_OF_SYNC at the forty-eighth, with no
error counted; ten errors at the start of a window end IN_SYNC at the tenth, all ten counted (R47). Each word
of a path-check burst is compared with its pattern as it is taken, and judged (R46, R47; the run of a check
IN_SYNC stays: log entry 20). The last one completes the burst: it is counted in PATH_BURSTS, its capture is
emptied and settled, and the check ends when all n have been issued (R40, R45, R48). -/
def Obligations.PathSyncGainedAndLost : Prop :=
  (∀ c : PathCheck,
    let feed (n : Nat) (ok : Bool) : PathCheck :=
      (List.replicate n ok).foldl (fun d x => (d.compare x).1) c
    (c.inSync = false → c.correctRun = 0 →
      (∀ n, n < 48 → (feed n true).inSync = false)
        ∧ (feed 48 true).inSync = true ∧ (feed 48 true).errors = c.errors
        ∧ (feed 48 true).compared = c.compared + 48 ∧ (feed 48 true).syncChanges = c.syncChanges + 1)
    ∧ (c.inSync = true → c.wordIndex % 48 = 0 →
      (∀ n, n < 10 → (feed n false).inSync = true)
        ∧ (feed 10 false).inSync = false ∧ (feed 10 false).errors = c.errors + 10
        ∧ (feed 10 false).correctRun = 0 ∧ (feed 10 false).syncChanges = c.syncChanges + 1))
  ∧ ∀ (s : State) (b : Burst) (w : Word) (rest : List BufItem), s.settled →
    s.rsp.parser = .samples b → b.path = true → s.rsp.path.running = true →
    s.rsp.buffer = .word w :: rest → rest.head? ≠ some .slip → isMark w = false →
    let c := s.rsp.path
    let ok := decide (w.toNat = (b.tag.toNat * 257 + b.next * 4093) % 16384)
    let window := (if c.wordIndex % 48 = 0 then 0 else c.windowErrors) + (if ok then 0 else 1)
    let gained := !c.inSync && ok && decide (c.correctRun + 1 = 48)
    let left := c.inSync && !ok && decide (10 ≤ window)
    let judged : PathCheck := { c with
      compared := c.compared + 1
      wordIndex := c.wordIndex + 1
      windowErrors := window
      errors := if c.inSync && !ok then c.errors + 1 else c.errors
      inSync := gained || (c.inSync && !left)
      correctRun := if c.inSync then (if left then 0 else c.correctRun) else if ok then c.correctRun + 1 else 0
      syncChanges := if gained || left then c.syncChanges + 1 else c.syncChanges }
    ∃ t, exec .parserTakesWord s = .next t
      ∧ (b.next + 1 ≠ b.expected →
          t.rsp = { s.rsp with buffer := rest, parser := .samples { b with next := b.next + 1 }, path := judged }
          ∧ t.ctrs[Ctr.pathBursts] = s.ctrs[Ctr.pathBursts])
      ∧ (b.next + 1 = b.expected →
          t.rsp = { s.rsp with
            buffer := rest
            parser := .trail
            truncTimer := none
            path := { judged with
              capture := none
              settled := c.settled + 1
              running := decide (c.issued ≠ c.n) } }
          ∧ counted Ctr.pathBursts s t)
      ∧ counted Ctr.pathWordsCompared s t
      ∧ (c.inSync = true → ok = false → counted Ctr.pathWordErrors s t)
      ∧ (c.inSync = false ∨ ok = true → t.ctrs[Ctr.pathWordErrors] = s.ctrs[Ctr.pathWordErrors])
      ∧ (gained = true ∨ left = true → counted Ctr.pathSyncChanges s t
          ∧ (s.ctrs[Ctr.noticesRaised] < Config.counterMax →
              s.ctrs[Ctr.noticesRaised] < t.ctrs[Ctr.noticesRaised])
          ∧ (t.slc.noticeSet.getLsbD NoticeKind.pathSyncChange.bit = true
              ∨ ∃ f : Frame, t.slc.current = some f ∧ f.kind = .notice))
      ∧ (gained = false → left = false → t.slc = s.slc
          ∧ ctrsKept [Ctr.pathWordsCompared, Ctr.pathWordErrors, Ctr.pathBursts] s t)
      ∧ ctrsKept ([Ctr.pathWordsCompared, Ctr.pathWordErrors, Ctr.pathBursts, Ctr.pathSyncChanges]
          ++ raiseCtrs) s t
      ∧ t.slc.sameSettings s.slc
      ∧ t = { s with rsp := t.rsp, slc := t.slc, ctrs := t.ctrs }

/-- PATH_CHECK (R43): its refusals in order, and the fresh record that an accepted one starts. -/
def Obligations.PathCheckStarts : Prop :=
  ∀ (s : State) (b : CmdBlock) (n : Nat), s.ready → b.single = true → n ≤ 65535 → b.payload = be 2 n →
    (s.fcu.state ≠ .halted → ∃ t, exec (.pathCheck b) s = .next t
      ∧ s.refusedWith t 0x1F b .wrongState [] [])
    ∧ (s.fcu.state = .halted → s.rsp.path.running = true → ∃ t, exec (.pathCheck b) s = .next t
      ∧ s.refusedWith t 0x1F b .busy [] [])
    ∧ (s.fcu.state = .halted → s.rsp.path.running = false → n = 0 → ∃ t, exec (.pathCheck b) s = .next t
      ∧ s.refusedWith t 0x1F b .badValue [] [])
    ∧ (s.fcu.state = .halted → s.rsp.path.running = false → 1 ≤ n →
      ∃ t, exec (.pathCheck b) s = .next t
        ∧ s.answered t (responseTo s.slc 0x1F b .ok [] .nothing) ∧ ctrsKept commandCtrs s t
        ∧ ({ s with rsp := { s.rsp with
            path := ⟨true, n, 0, 0, none, false, 0, 0, 0, 0, 0, 0⟩ } } : State).sameButLine t)

/-! ### Tables (R51, R89, R109) -/

/-- An accepted LOAD_GATES, LOAD_CORRECTION or LOAD_THRESHOLDS replaces the entries of its run and no
other entry and no other state; a run held by a running program, a waiting bank, the conditioning or the
detection in progress is refused with IN_USE or BUSY, counted where the rule says so. Before these checks,
whoever uses the run, a run beyond the table, an entry count out of range or an entry out of range is
refused with BAD_VALUE (R51, R89, R109). -/
def Obligations.TableLoadsWriteTheirRunOnly : Prop :=
  ∀ (s : State) (b : CmdBlock), s.ready → s.tablesWf → b.single = true →
    b.payload.length = 3 + 3 * field b.payload 2 1 →
    let start := field b.payload 0 2
    let count := field b.payload 2 1
    (2048 < start + count ∨ count = 0 ∨ 63 < count
        ∨ (∃ k, k < count ∧ (field b.payload (5 + 3 * k) 1 = 0 ∨ 64 < field b.payload (5 + 3 * k) 1
            ∨ 4096 < field b.payload (3 + 3 * k) 2 + field b.payload (5 + 3 * k) 1)) →
      ∃ t, exec (.loadGates b) s = .next t ∧ s.refusedWith t 0x16 b .badValue [] [])
    ∧ (2048 < start + count ∨ count = 0 ∨ 84 < count
        ∨ (∃ k, k < count ∧ 23 < field b.payload (5 + 3 * k) 1) →
      ∃ t, exec (.loadCorrection b) s = .next t ∧ s.refusedWith t 0x17 b .badValue [] [])
    ∧ (2048 < start + count ∨ count = 0 ∨ 84 < count
        ∨ (∃ k, k < count ∧ 8388607 < field b.payload (3 + 3 * k) 3) →
      ∃ t, exec (.loadThresholds b) s = .next t ∧ s.refusedWith t 0x18 b .badValue [] [])
    ∧
    (∀ l, readGates b.payload = some l →
      let held := s.fcu.state = .running ∧ s.runEnabled l.start l.entries.length = true
      let waits := s.gau.runWaiting l.start l.entries.length
      (held → ∃ t, exec (.loadGates b) s = .next t ∧ s.refusedWith t 0x16 b .inUse [] [])
      ∧ (¬ held → waits = true → ∃ t, exec (.loadGates b) s = .next t
        ∧ s.refusedWith t 0x16 b .busy [] [])
      ∧ (¬ held → waits = false → ∃ t, exec (.loadGates b) s = .next t
        ∧ s.answered t (responseTo s.slc 0x16 b .ok [] .nothing) ∧ ctrsKept commandCtrs s t
        ∧ ({ s with gau := { s.gau with gateMap := t.gau.gateMap } } : State).sameButLine t
        ∧ ∀ i, Tab.read GateEntry.reset t.gau.gateMap i =
            if l.start ≤ i then (l.entries[i - l.start]?).getD (Tab.read GateEntry.reset s.gau.gateMap i)
            else Tab.read GateEntry.reset s.gau.gateMap i))
    ∧ (∀ l, readCorrection b.payload = some l →
      (s.correctionHeld l.start l.entries.length = true → ∃ t, exec (.loadCorrection b) s = .next t
        ∧ s.refusedWith t 0x17 b .busy [] [Ctr.correctionBusy])
      ∧ (s.correctionHeld l.start l.entries.length = false → ∃ t, exec (.loadCorrection b) s = .next t
        ∧ s.answered t (responseTo s.slc 0x17 b .ok [] .nothing) ∧ ctrsKept commandCtrs s t
        ∧ ({ s with pcu := { s.pcu with corrTable := t.pcu.corrTable } } : State).sameButLine t
        ∧ ∀ i, Tab.read CorrEntry.reset t.pcu.corrTable i =
            if l.start ≤ i then (l.entries[i - l.start]?).getD (Tab.read CorrEntry.reset s.pcu.corrTable i)
            else Tab.read CorrEntry.reset s.pcu.corrTable i))
    ∧ (∀ l, readThresholds b.payload = some l →
      (s.thresholdsHeld l.start l.entries.length = true → ∃ t, exec (.loadThresholds b) s = .next t
        ∧ s.refusedWith t 0x18 b .busy [] [Ctr.thresholdBusy])
      ∧ (s.thresholdsHeld l.start l.entries.length = false → ∃ t, exec (.loadThresholds b) s = .next t
        ∧ s.answered t (responseTo s.slc 0x18 b .ok [] .nothing) ∧ ctrsKept commandCtrs s t
        ∧ ({ s with ldu := { s.ldu with thrTable := t.ldu.thrTable } } : State).sameButLine t
        ∧ ∀ i, Tab.read Config.betaMax t.ldu.thrTable i =
            if l.start ≤ i then (l.entries[i - l.start]?).getD (Tab.read Config.betaMax s.ldu.thrTable i)
            else Tab.read Config.betaMax s.ldu.thrTable i))

/-! ### Conditioning (R71 to R86) -/

/-- CONDITIONING_BEGIN where a conditioning can begin and no detection can: a non-void bank becomes
CONDITIONING with its inputs fixed and its program's injection taken, a VOID one passes at once (R71,
R73, R75). Where none can begin, nothing happens: log entry 6. -/
def Obligations.ConditioningBegins : Prop :=
  ∀ s : State, s.detReady = none →
    (s.condReady = none → exec .conditioningBegin s = .next s)
    ∧ ∀ (b : Fin 6) (k : Fin 2), s.condReady = some (b, k) →
      let bank := s.gau.banks[b]
      s.pcu.bufs[k].state = .free ∧ (k = 1 → s.pcu.bufs[0].state ≠ .free)
      ∧ (∀ o, bank.outcome = some o → o ≠ .void → ∃ t, exec .conditioningBegin s = .next t
          ∧ t.gau = s.gau.setBank b { bank with state := .conditioning }
          ∧ t.pcu = { s.pcu with
              bufs := s.pcu.bufs.set k ⟨.filling, some (s.beginRecord bank)⟩
              job := some ⟨b, k,
                Tab.readRun CorrEntry.reset s.pcu.corrTable bank.copy.corrBase bank.copy.gateCount,
                if bank.copy.bgMethod = .dark ∧ bank.dAcc = 0 then s.pcu.held[bank.prog] else none,
                s.pcu.pendingInj[bank.prog]⟩
              pendingInj := s.pcu.pendingInj.set bank.prog none }
          ∧ t = { s with gau := t.gau, pcu := t.pcu })
      ∧ (bank.outcome = some .void → s.gau.queue = [b] → s.ldu.job.isSome = true →
          ∃ t, exec .conditioningBegin s = .next t
          ∧ t.gau = { s.gau.setBank b Bank.freed with queue := [] }
          ∧ t.pcu = { s.pcu with
              bufs := s.pcu.bufs.set k ⟨.ready, some (s.beginRecord bank)⟩
              readyOrder := s.pcu.readyOrder ++ [k] }
          ∧ counted Ctr.voidPassed s t ∧ counted Ctr.profilesConditioned s t
          ∧ ctrsKept [Ctr.voidPassed, Ctr.profilesConditioned] s t
          ∧ t = { s with gau := t.gau, pcu := t.pcu, ctrs := t.ctrs })

/-- CONDITIONING_COMPLETE with no other bank waiting and the LDU busy: the buffer is READY with the
complete record, the bank is freed, a DARK profile with dark captures replaces the held background, the
PCU is IDLE (R72, R74, R77). With no conditioning in progress, nothing happens: log entry 6. A gate
clamped twice adds 2 to BETA_CLAMPED_GATES: log entry 16. -/
def Obligations.ConditioningCompletes : Prop :=
  ∀ s : State,
    (s.pcu.job = none → exec .conditioningComplete s = .next s)
    ∧ ∀ (j : PcuJob) (r0 : ResultRec), s.pcu.job = some j → s.gau.queue = [j.bank] →
      s.ldu.job.isSome = true → s.pcu.bufs[j.buf].record = some r0 →
      let bank := s.gau.banks[j.bank]
      let a := arith bank r0.shape j
      ∃ t, exec .conditioningComplete s = .next t
        ∧ t.gau = { s.gau.setBank j.bank Bank.freed with queue := [] }
        ∧ t.pcu.job = none ∧ t.pcu.readyOrder = s.pcu.readyOrder ++ [j.buf]
        ∧ t.pcu.bufs[j.buf] = ⟨.ready, some { r0 with
            test := j.inj.isSome, clamped := decide (1 ≤ a.clamps), cond := some a.cond }⟩
        ∧ (∀ k : Fin 2, k ≠ j.buf → t.pcu.bufs[k] = s.pcu.bufs[k])
        ∧ (∀ p : Prog, t.pcu.held[p] =
            if p = bank.prog ∧ bank.copy.bgMethod = .dark ∧ 1 ≤ bank.dAcc
            then some ⟨bank.copy.gateCount, bank.seq, a.bg⟩ else s.pcu.held[p])
        ∧ t.pcu.pendingInj = s.pcu.pendingInj ∧ t.pcu.corrTable = s.pcu.corrTable
        ∧ counted Ctr.profilesConditioned s t
        ∧ t.ctrs[Ctr.betaClampedGates]
            = min (s.ctrs[Ctr.betaClampedGates] + a.clamps) Config.counterMax
        ∧ t.ctrs[Ctr.clippedGates] = min (s.ctrs[Ctr.clippedGates] + a.clipped) Config.counterMax
        ∧ t = { s with gau := t.gau, pcu := t.pcu, ctrs := t.ctrs }

/-- Every quotient is rounded to the nearest integer, ties away from zero (I.5), and every β of a
conditioned profile lies within ±8,388,607 (R82, R85). Gate by gate, the arithmetic of a non-void profile: the
mean (R76), the background of each method (R78, R79), the net and the normalised signal (R80, R81), the
correction and its clamp (R82), the clipped marks (R83), the noise of the clamped column (R84), the test echo
and its clamp (R85), and what the counters count of them; that a gate clamped twice counts twice is log entry
16. -/
def Obligations.QuotientsRoundAndBetasClamp : Prop :=
  (∀ (a : Int) (b : Nat), 1 ≤ b →
    2 * (a - roundDiv a b * b).natAbs ≤ b
      ∧ (2 * (a - roundDiv a b * b).natAbs = b → a.natAbs ≤ (roundDiv a b * b).natAbs))
  ∧ (∀ a b : Nat, (roundDivNat a b : Int) = roundDiv a b)
  ∧ (∀ (k : Bank) (shape : List GateEntry) (j : PcuJob), ∀ g ∈ (arith k shape j).cond.betas,
    -8388607 ≤ g.beta ∧ g.beta ≤ 8388607)
  ∧ ∀ (k : Bank) (shape : List GateEntry) (j : PcuJob), 1 ≤ k.nAcc →
    k.gates.length = shape.length → k.copy.gateCount = shape.length → j.corr.length = shape.length →
    k.copy.tailGates ≤ shape.length →
    (∀ h, j.held = some h → h.gateCount = shape.length → h.values.length = shape.length) →
    let a := arith k shape j
    let gates := List.range shape.length
    let tail := gates.drop (shape.length - k.copy.tailGates)
    let width (g : Nat) : Nat := (shape.map GateEntry.width).getD g 0
    let sig (g : Nat) : Nat := (k.gates.map GateSums.sig).getD g 0
    let dark (g : Nat) : Nat := (k.gates.map GateSums.dark).getD g 0
    let clipped (g : Nat) : Bool := decide (1 ≤ (k.gates.map GateSums.sat).getD g 0)
    let heldNow : Option HeldRec := j.held.filter fun h => h.gateCount = shape.length
    let noDark : Prop := k.copy.bgMethod = .dark ∧ k.dAcc = 0
    let bg (g : Nat) : Nat := match k.copy.bgMethod with
      | .dark =>
        if 1 ≤ k.dAcc then roundDivNat (dark g * 256) (k.dAcc * width g)
        else (heldNow.map fun h => h.values.getD g 0).getD 0
      | .tail => roundDivNat ((tail.map sig).sum * 256) (k.nAcc * (tail.map width).sum)
      | .none => 0
    let mean (g : Nat) : Nat := roundDivNat (sig g * 256) (k.nAcc * width g)
    let eMean := roundDivNat k.eSum k.nAcc
    let net (g : Nat) : Int := roundDiv (((mean g : Int) - bg g) * k.copy.eRef) eMean
    let mant (g : Nat) : Nat := (j.corr.map CorrEntry.mant).getD g 0
    let expo (g : Nat) : Nat := (j.corr.map CorrEntry.exp).getD g 0
    let exact (g : Nat) : Int := roundDiv (net g * mant g * (2 ^ expo g : Nat)) (2 ^ 24)
    let clamp (x : Int) : Int := max (-8388607) (min 8388607 x)
    let echo (g : Nat) : Int := match j.inj with
      | some i => if i.first ≤ g ∧ g < i.first + i.count then clamp (exact g) + i.amp else clamp (exact g)
      | none => clamp (exact g)
    let centre := roundDiv (tail.map fun g => clamp (exact g)).sum k.copy.tailGates
    a.cond.betas = gates.map (fun g => ⟨clamp (echo g), clipped g⟩)
      ∧ a.bg = gates.map bg ∧ a.cond.eMean = eMean
      ∧ (a.cond.bgHeld = true ↔ noDark ∧ heldNow.isSome = true)
      ∧ (a.cond.bgNone = true ↔ noDark ∧ heldNow = none)
      ∧ (k.copy.tailGates = 0 → a.cond.noise = 0)
      ∧ (1 ≤ k.copy.tailGates → a.cond.noise =
          roundDivNat (tail.map fun g => (clamp (exact g) - centre).natAbs).sum k.copy.tailGates)
      ∧ a.cond.anyClipped = gates.any clipped ∧ a.clipped = (gates.filter clipped).length
      ∧ a.clamps = (gates.filter fun g => clamp (exact g) ≠ exact g).length
          + (gates.filter fun g => clamp (echo g) ≠ echo g).length

/-- INJECT_ECHO (R86): its refusals in order, and the pending record that an accepted one leaves, OK for
an empty record and REPLACED for a full one. -/
def Obligations.EchoInjected : Prop :=
  ∀ (s : State) (b : CmdBlock) (e : EchoArgs), s.ready → b.single = true → b.payload.length = 7 →
    readEcho b.payload = e →
    let inRange (p : Prog) := 1 ≤ e.count ∧ e.count ≤ 16 ∧ e.first + e.count ≤ s.progs[p].gateCount
    (s.fcu.state ≠ .running → ∃ t, exec (.injectEcho b) s = .next t
      ∧ s.refusedWith t 0x1D b .wrongState [] [])
    ∧ (s.fcu.state = .running → 4 ≤ e.prog → ∃ t, exec (.injectEcho b) s = .next t
      ∧ s.refusedWith t 0x1D b .badValue [] [])
    ∧ ∀ p : Prog, e.prog = p.val → s.fcu.state = .running →
      (¬ inRange p → ∃ t, exec (.injectEcho b) s = .next t ∧ s.refusedWith t 0x1D b .badValue [] [])
      ∧ (inRange p → s.progs[p].enabled = false → ∃ t, exec (.injectEcho b) s = .next t
        ∧ s.refusedWith t 0x1D b .notReady [] [])
      ∧ (inRange p → s.progs[p].enabled = true → ∃ t, exec (.injectEcho b) s = .next t
        ∧ ({ s with pcu := { s.pcu with
              pendingInj := s.pcu.pendingInj.set p (some ⟨e.first, e.count, max e.amp (-8388607)⟩) } } :
            State).sameButLine t
        ∧ (s.pcu.pendingInj[p] = none →
            s.answered t (responseTo s.slc 0x1D b .ok [] .nothing) ∧ ctrsKept commandCtrs s t)
        ∧ (s.pcu.pendingInj[p].isSome = true →
            s.answered t (responseTo s.slc 0x1D b .replaced [] .nothing)
              ∧ counted Ctr.injectionsReplaced s t
              ∧ ctrsKept (Ctr.injectionsReplaced :: commandCtrs) s t))

/-! ### Detection and tracking (R92 to R134) -/

/-- DETECTION_BEGIN with no conditioning that can begin: the oldest READY buffer is DETECTING and the last
detection emptied, its program and sequence number too (log entry 19); a profile with detection on fixes its
on thresholds, each entry raised to the noise floor (R92, R96); a VOID one, and a conditioned one with
detection off and no frame due, passes as "no observation" at the same event, the latter counted in
NO_OBS_DETECTION_OFF (R93, R105). -/
def Obligations.DetectionBegins : Prop :=
  ∀ (s : State) (k : Fin 2) (more : List (Fin 2)) (r : ResultRec), s.condReady = none → s.waitSettled →
    s.ldu.job = none → s.pcu.readyOrder = k :: more → s.pcu.bufs[k] = ⟨.ready, some r⟩ →
    (∀ c, r.cond = some c → r.copy.detection = true → ∃ t, exec .detectionBegin s = .next t
      ∧ t.ldu = { s.ldu with
          last := none
          job := some ⟨k, some ((List.range r.copy.gateCount).map fun i =>
            max (Tab.read Config.betaMax s.ldu.thrTable (r.copy.thrBase + i))
              (roundDivNat (c.noise * r.copy.noiseFactor) 16))⟩ }
      ∧ t.pcu = { s.pcu with bufs := s.pcu.bufs.set k ⟨.detecting, some r⟩, readyOrder := more }
      ∧ t = { s with ldu := t.ldu, pcu := t.pcu })
    ∧ (r.cond = none → more = [] → s.gau.queue = [] → ∃ t, exec .detectionBegin s = .next t
      ∧ t.ldu = { s.ldu with job := none, last := some ⟨r.prog, r.seq, [], false, none⟩ }
      ∧ t.pcu = { s.pcu with bufs := s.pcu.bufs.set k ⟨.free, none⟩, readyOrder := [] }
      ∧ counted Ctr.noObsResults s t ∧ ctrsKept [Ctr.noObsResults] s t
      ∧ t = { s with ldu := t.ldu, pcu := t.pcu, ctrs := t.ctrs })
    ∧ (∀ c, r.cond = some c → r.copy.detection = false → more = [] → s.gau.queue = [] →
      (r.copy.divider = 0 ∨ s.ldu.frameCount[r.prog] + 1 < r.copy.divider) →
      (∀ i : Fin 4, s.sku.captures[i].pending = true → s.sku.captures[i].prog ≠ r.prog) →
      ∃ t, exec .detectionBegin s = .next t
      ∧ t.ldu = { s.ldu with
          job := none
          last := some ⟨r.prog, r.seq, [], false, none⟩
          frameCount := if r.copy.divider = 0 then s.ldu.frameCount
            else s.ldu.frameCount.set r.prog (s.ldu.frameCount[r.prog] + 1) }
      ∧ t.pcu = { s.pcu with bufs := s.pcu.bufs.set k ⟨.free, none⟩, readyOrder := [] }
      ∧ counted Ctr.noObsDetectionOff s t ∧ counted Ctr.noObsResults s t
      ∧ ctrsKept [Ctr.noObsDetectionOff, Ctr.noObsResults] s t
      ∧ t = { s with ldu := t.ldu, pcu := t.pcu, ctrs := t.ctrs })

/-- DETECTION_COMPLETE with nothing else waiting in the profile path: the LDU keeps what the scan and the
obscuration found and is IDLE, the buffer is FREE, the frame count advances by the divider, a frame due by
it or by a capture request is offered (R106 to R108), the Track Table is updated from that result and the
SKU evaluates its summary (R93, R104, R117, R128, R136). With no detection in progress, nothing happens: log
entry 6. The second part says of the frame step what is offered, and what its outcome does to the capture
entries (R106 to R108, R144). The third part says of the tracking update, step by step, which tracks a profile
observes (R118), how candidates are associated (R119), what a hit and a miss make of a track (R120 to R123), what
step 5 creates, displaces or discards (R114, R124, R125), how tracks merge (R126), the order and the ages (R127),
and what it counts (R133); that step 6 runs in every update is log entry 25. -/
def Obligations.DetectionCompletes : Prop :=
  let byDivider (s : State) (r : ResultRec) : Prop :=
    r.copy.divider ≠ 0 ∧ r.copy.divider ≤ s.ldu.frameCount[r.prog] + 1
  let byCapture (s : State) (r : ResultRec) : Prop :=
    ∃ i : Fin 4, s.sku.captures[i].pending = true ∧ s.sku.captures[i].prog = r.prog
  let nextCount (s : State) (r : ResultRec) : Vector Nat 4 := s.ldu.frameCount.set r.prog
    (if r.copy.divider = 0 then s.ldu.frameCount[r.prog]
     else if r.copy.divider ≤ s.ldu.frameCount[r.prog] + 1 then 0 else s.ldu.frameCount[r.prog] + 1)
  (∀ s : State,
    (s.ldu.job = none → exec .detectionComplete s = .next s)
    ∧ ∀ (k : Fin 2) (on : List Nat) (r : ResultRec) (c : Conditioned), s.ldu.job = some ⟨k, some on⟩ →
      s.pcu.bufs[k].record = some r → r.cond = some c → s.pcu.readyOrder = [] → s.gau.queue = [] →
      let gates := (scanGates r.shape c.betas on).drop r.copy.detectStart
      let found := (findings r gates (scanFrom gates)).1
      let u := s.ltu.update (detectionOf r found)
      let sky := s.sku.decide u.ltu.tracks (u.summary (detectionOf r found))
      ∃ t, exec .detectionComplete s = .next t
        ∧ t.ldu.job = none ∧ t.ldu.last = some ⟨r.prog, r.seq, found.cands, found.obscured, found.vv⟩
        ∧ t.ldu.thrTable = s.ldu.thrTable ∧ t.ldu.frameCount = nextCount s r
        ∧ t.pcu = { s.pcu with bufs := s.pcu.bufs.set k ⟨.free, none⟩ }
        ∧ t.ltu = u.ltu
        ∧ t.sku.sky = sky.sky ∧ t.sku.lastVv = sky.lastVv ∧ t.sku.hold = sky.hold
        ∧ t.sku.ceiling = sky.ceilingNow u.ltu.tracks
        ∧ counted Ctr.profilesDetected s t ∧ counted Ctr.trackUpdates s t
        ∧ (∀ x ∈ [(Ctr.trackHits, u.hits), (Ctr.trackMisses, u.misses), (Ctr.tracksCreated, u.created),
              (Ctr.tracksConfirmed, u.confirmed + u.createdConfirmed), (Ctr.tracksRecovered, u.recovered),
              (Ctr.tracksLost, u.lost), (Ctr.tentativeDropped, u.dropped), (Ctr.tracksDisplaced, u.displaced),
              (Ctr.candidatesDiscarded, u.discarded), (Ctr.tracksMerged, u.merged)],
            t.ctrs[x.1] = min (s.ctrs[x.1] + x.2) Config.counterMax)
        ∧ counted Ctr.skyEvaluations s t
        ∧ (byDivider s r ∨ byCapture s r → counted Ctr.profileFramesOffered s t)
        ∧ (byCapture s r → counted Ctr.captureFramesOffered s t)
        ∧ t.fcu = s.fcu ∧ t.rsp = s.rsp ∧ t.gau = s.gau ∧ t.progs = s.progs ∧ t.mgu = s.mgu
        ∧ t.slc.sameSettings s.slc)
  ∧ (∀ (s : State) (r : ResultRec) (c : Conditioned) (overflow capture : Bool),
    (capture = true ↔ byCapture s r) →
    let t := s.frameStep r c overflow
    let payload := profilePayload r c capture overflow
    t.ldu = { s.ldu with frameCount := nextCount s r }
    ∧ (¬ byDivider s r → capture = false → t = { s with ldu := t.ldu })
    ∧ (byDivider s r ∨ capture = true → counted Ctr.profileFramesOffered s t
      ∧ (capture = true → counted Ctr.captureFramesOffered s t)
      ∧ (s.slc.fits payload.length = true → s.slc.lineSound →
        ∃ f ∈ t.slc.queue ++ t.slc.current.toList, f.kind = .profile ∧ f.level = s.slc.levels.profile
          ∧ f.tag = s.slc.tagCounter ∧ f.payload = payload))
    ∧ (s.slc.fits payload.length = true → ∀ i : Fin 4, t.sku.captures[i] =
        if s.sku.captures[i].pending = true ∧ s.sku.captures[i].prog = r.prog then
          { s.sku.captures[i] with
            pending := false
            armed := s.sku.captures[i].armed
              || decide (s.sku.captures[i].cond = .skyChange ∨ s.sku.captures[i].cond = .trackNew) }
        else s.sku.captures[i])
    ∧ (s.slc.fits payload.length = false → (∀ g ∈ s.slc.queue, g.level ≤ s.slc.levels.profile) →
        capture = true → t.sku = s.sku
        ∧ t.ctrs[Ctr.captureReposts] = min (s.ctrs[Ctr.captureReposts]
            + ((List.finRange 4).filter fun i =>
                s.sku.captures[i].pending && decide (s.sku.captures[i].prog = r.prog)).length)
            Config.counterMax))
  ∧ (∀ (w : Nat) (free : List Track), (free.map Track.id).Nodup →
    associate w free [] = ([], [])
    ∧ ∀ (c : Candidate) (cs : List Candidate),
      ((∀ t ∈ free, w < Machine.dist t.base c.base) →
        associate w free (c :: cs) = ((associate w free cs).1, c :: (associate w free cs).2))
      ∧ ∀ t ∈ free, Machine.dist t.base c.base ≤ w →
        (∀ u ∈ free, u.id ≠ t.id → Machine.dist u.base c.base ≤ w →
          Machine.dist t.base c.base < Machine.dist u.base c.base
            ∨ Machine.dist t.base c.base = Machine.dist u.base c.base
              ∧ (t.base < u.base ∨ t.base = u.base ∧ t.id < u.id)) →
        let rest := associate w (free.filter fun u => u.id ≠ t.id) cs
        associate w free (c :: cs) = ((t.id, c) :: rest.1, rest.2))
  ∧ (∀ (q : TrackParams) (d : Detection) (x : Creation) (c : Candidate),
    (x.tracks.map Track.id).Nodup → x.tracks.length ≤ 10 → 1 ≤ x.nextId → x.nextId ≤ 255 →
    let after (y : Creation) (n : Nat) : Nat := (y.nextId - 1 + n) % 255 + 1
    let makes (y z : Creation) : Prop := ∃ n, (∀ m, m < n → after y m ∈ y.tracks.map Track.id)
      ∧ after y n ∉ y.tracks.map Track.id
      ∧ z = { y with
          tracks := y.tracks ++ [⟨after y n, if q.confirm = 1 then .confirmed else .tentative, c.base, c.top,
            c.peak, [true], 0, 1, 0, progSet d.prog, d.test⟩]
          nextId := after y (n + 1)
          touched := after y n :: y.touched
          created := y.created + 1 }
    let eligible (t : Track) : Prop :=
      t.state = .tentative ∧ t.id ∉ x.touched ∧ t.history.count true = 1
    (x.tracks.length < 10 → makes x (x.take q d c))
    ∧ (x.tracks.length = 10 → ∀ u ∈ x.tracks, eligible u →
      (∀ t ∈ x.tracks, eligible t → t.id ≠ u.id → t.base < u.base ∨ t.base = u.base ∧ t.id < u.id) →
      makes { x with
        tracks := x.tracks.filter fun t => t.id ≠ u.id, displaced := x.displaced + 1 } (x.take q d c))
    ∧ (x.tracks.length = 10 → (∀ u ∈ x.tracks, ¬ eligible u) →
      x.take q d c = { x with discarded := x.discarded + 1 }))
  ∧ (∀ (dm : Nat) (a b : Track) (ts : List Track),
    let upper : Prop := a.history.count true < b.history.count true
      ∨ a.history.count true = b.history.count true ∧ a.state = .tentative ∧ b.state ≠ .tentative
    (sortTracks ts).Perm ts
    ∧ (sortTracks ts).Pairwise (fun t u => t.base < u.base ∨ t.base = u.base ∧ t.id ≤ u.id)
    ∧ mergeAll dm [] = [] ∧ (∀ t r, sortTracks ts = t :: r → mergeAll dm ts = mergeUp dm t r)
    ∧ mergeUp dm a [] = [a]
    ∧ (dm < Machine.dist a.base b.base → mergeUp dm a (b :: ts) = a :: mergeUp dm b ts)
    ∧ (Machine.dist a.base b.base ≤ dm → upper → mergeUp dm a (b :: ts)
        = mergeUp dm { b with sources := a.sources ||| b.sources, test := a.test || b.test } ts)
    ∧ (Machine.dist a.base b.base ≤ dm → ¬ upper → mergeUp dm a (b :: ts)
        = mergeUp dm { a with sources := a.sources ||| b.sources, test := a.test || b.test } ts))
  ∧ ∀ (k : Ltu) (d : Detection), (k.tracks.map Track.id).Nodup →
    (d.obscured = true → d.vv.isSome = true) →
    let q := k.params
    let u := k.update d
    let a := associate q.assocWin (k.tracks.filter d.observes) d.cands
    let candidate (t : Track) : Option Candidate := (a.1.find? fun x => x.1 = t.id).map Prod.snd
    let missed (t : Track) : Bool := !d.hitsOnly && d.observes t && (candidate t).isNone
    let fate (t : Track) : Option Track :=
      match candidate t with
      | some c =>
        let history := (true :: t.history).take q.histLen
        some { t with
          base := ((t.base : Int) + roundDiv (((c.base : Int) - t.base) * q.smooth) 8).toNat
          top := c.top
          peak := c.peak
          history := history
          misses := 0
          totalHits := min (t.totalHits + 1) 65535
          sources := t.sources ||| progSet d.prog
          test := t.test || d.test
          state := if t.state = .tentative ∧ history.count true < q.confirm then .tentative else .confirmed }
      | none =>
        if missed t then
          let history := (false :: t.history).take q.histLen
          let misses := min (t.misses + 1) 15
          if t.state = .tentative then
            if q.histLen - q.confirm < history.count false then none
            else some { t with history := history, misses := misses }
          else if q.loss ≤ misses then none
          else some { t with history := history, misses := misses, state := .coasting }
        else some t
    let x : Creation := a.2.foldl (fun y c => Creation.take y q d c)
      ⟨k.tracks.filterMap fate, k.nextId, a.1.map Prod.fst, 0, 0, 0⟩
    (∀ t, d.observes t = true ↔ d.covLo ≤ t.base ∧ t.base ≤ d.covHi
        ∧ (d.obscured = true → ∃ v, d.vv = some v ∧ t.base ≤ v))
      ∧ u.ltu = { k with
          tracks := (mergeAll q.mergeDist x.tracks).map fun t => { t with age := min (t.age + 1) 65535 }
          nextId := x.nextId }
      ∧ u.hits = a.1.length ∧ u.misses = (k.tracks.filter missed).length
      ∧ u.confirmed = (k.tracks.filter fun t => t.state = .tentative
          && (fate t).any fun v => v.state = .confirmed).length
      ∧ u.recovered = (k.tracks.filter fun t => t.state = .coasting && (candidate t).isSome).length
      ∧ u.lost = (k.tracks.filter fun t => t.state ≠ .tentative && (fate t).isNone).length
      ∧ u.dropped = (k.tracks.filter fun t => t.state = .tentative && (fate t).isNone).length
      ∧ u.created = x.created ∧ u.createdConfirmed = (if q.confirm = 1 then x.created else 0)
      ∧ u.displaced = x.displaced ∧ u.discarded = x.discarded
      ∧ u.merged = x.tracks.length - (mergeAll q.mergeDist x.tracks).length

/-- The scan of a profile whose gates ascend records at most eight candidates, drops a layer only when it
has eight, and a drop is the overflow (R98, R101). The profile is obscured exactly when its lowest candidate
is based at the detect start gate and has no top (R102); it is then the only one, it is removed, and a VV is
present: the last range index of the first gate at which the running integral reaches the VV limit, or of
the last gate where it stays below, which is told apart for VV_AT_REACH (R103, R104). -/
def Obligations.ScanKeepsEightCandidates : Prop :=
  ∀ (r : ResultRec) (c : Conditioned) (on : List Nat),
    r.shape.Pairwise (fun a b => a.first < b.first) →
    let gs := (scanGates r.shape c.betas on).drop r.copy.detectStart
    let k := scanFrom gs
    let f := (findings r gs k).1
    let atReach := (findings r gs k).2
    let integral (n : Nat) : Int := ((gs.take n).map fun g => g.gb.beta * (g.shape.width : Int)).sum
    k.cands.length ≤ 8
      ∧ (0 < k.drops → k.cands.length = 8)
      ∧ (f.overflow = true ↔ 0 < k.drops)
      ∧ (f.obscured = true ↔ ∃ (x : Candidate) (e : GateEntry), k.cands.head? = some x
          ∧ r.shape[r.copy.detectStart]? = some e ∧ x.base = e.first ∧ x.top = none)
      ∧ (f.obscured = true → k.cands.length = 1 ∧ f.cands = [] ∧ f.overflow = false
          ∧ (∀ n g, gs[n]? = some g → (r.copy.vvLimit : Int) ≤ integral (n + 1) →
              (∀ m, m < n → integral (m + 1) < r.copy.vvLimit) →
              f.vv = some g.shape.lastIndex ∧ atReach = false)
          ∧ ((∀ m, m < gs.length → integral (m + 1) < r.copy.vvLimit) →
              ∃ e, r.shape.getLast? = some e ∧ f.vv = some e.lastIndex ∧ atReach = true)
          ∧ f.vv.isSome = true)
      ∧ (f.obscured = false → f.cands = k.cands ∧ f.vv = none ∧ atReach = false)

/-- A tracking update, SET_TRACKING, RESET_TRACKS, a reset or any other command keeps the Track Table: at
most ten tracks, distinct ids of 1 to 255, ascending bases (R112, R114). -/
def Obligations.TrackTableKept : Prop :=
  ∀ (c : Instr) (s t : State), s.ltu.sound → exec c s = .next t → t.ltu.sound

/-- SET_TRACKING replaces the six parameters and cuts each history to its newest N (R116); RESET_TRACKS
empties the table, keeps the next id and the parameters, answers with the number removed, and sends the
SKU to UNKNOWN (R130, R139); SET_SKY replaces three settings and zeroes the report count (R145);
SET_CAPTURE rewrites one entry, armed unless NONE and not pending (R146). -/
def Obligations.TrackingAndSkyCommands : Prop :=
  ∀ (s : State) (b : CmdBlock), s.ready → b.single = true →
    (∀ q : TrackParams, b.payload = trackingBytes q → q.valid = true →
      ∃ t, exec (.setTracking b) s = .next t
        ∧ s.answered t (responseTo s.slc 0x19 b .ok [] .nothing) ∧ counted Ctr.trackingSets s t
        ∧ ctrsKept (Ctr.trackingSets :: commandCtrs) s t
        ∧ ({ s with ltu := ⟨s.ltu.tracks.map fun k => { k with history := k.history.take q.histLen },
              s.ltu.nextId, q⟩ } : State).sameButLine t)
    ∧ (b.payload = [] → ∃ t, exec (.resetTracks b) s = .next t
        ∧ s.answered t (responseTo s.slc 0x1A b .ok (be 1 s.ltu.tracks.length) .nothing)
        ∧ t.ltu = { s.ltu with tracks := [] }
        ∧ t.sku.sky = .unknown ∧ t.sku.lastVv = none ∧ t.sku.hold = 0 ∧ t.sku.ceiling = none
        ∧ t.sku.ceilingLow = s.sku.ceilingLow ∧ t.sku.reportCount = s.sku.reportCount
        ∧ t.ctrs[Ctr.tracksCleared]
            = min (s.ctrs[Ctr.tracksCleared] + s.ltu.tracks.length) Config.counterMax
        ∧ (s.sku.sky ≠ .unknown → counted Ctr.skyChangeRaises s t)
        ∧ t.progs = s.progs ∧ t.fcu = s.fcu ∧ t.rsp = s.rsp ∧ t.gau = s.gau ∧ t.pcu = s.pcu
        ∧ t.ldu = s.ldu ∧ t.mgu = s.mgu ∧ t.slc.sameSettings s.slc)
    ∧ (∀ T H R : Nat, T ≤ 4095 → H ≤ 4095 → 1 ≤ R → R ≤ 255 → b.payload = be 2 T ++ be 2 H ++ be 1 R →
      ∃ t, exec (.setSky b) s = .next t
        ∧ s.answered t (responseTo s.slc 0x1B b .ok [] .nothing) ∧ ctrsKept commandCtrs s t
        ∧ ({ s with sku := { s.sku with
              threshold := T, hysteresis := H, divider := R, reportCount := 0 } } : State).sameButLine t)
    ∧ ∀ (e : Fin 4) (c : CaptureCond) (h : Nat) (p : Prog), h ≤ 4095 →
      b.payload = be 1 e.val ++ [c.code] ++ be 2 h ++ be 1 p.val →
      ∃ t, exec (.setCapture b) s = .next t
        ∧ s.answered t (responseTo s.slc 0x1C b .ok [] .nothing) ∧ ctrsKept commandCtrs s t
        ∧ ({ s with sku := { s.sku with
              captures := s.sku.captures.set e ⟨c, h, p, decide (c ≠ .none), false⟩ } } :
            State).sameButLine t

/-! ### Sky (R137) -/

/-- A sky that has become OBSCURED stays so for two summaries of programs that reach down to the last VV,
and takes CLEAR or LAYERED from the Track Table at the third; summaries of programs that do not reach it
change nothing (R137). SKY_CHANGE, the CLEAR re-arm flag and CLEAR_SUPPRESSED follow R138; that a change out of
UNKNOWN into CLEAR with the flag clear is counted there is log entry 26. An evaluation runs its four steps in
their order (R136). The later steps: the ceiling height and the ceiling state with
threshold and hysteresis (R140), the capture triggers (R142, R143), and the layer report of every R-th
evaluation (R141). -/
def Obligations.ObscurationHeldForThreeSummaries : Prop :=
  (∀ (k : Sku) (v : Nat) (m0 m1 m2 m3 : Summary) (ts : List Track), m0.obscured = true → m0.vv = some v →
    m1.obscured = false → m2.obscured = false → m3.obscured = false →
    m1.detStart ≤ v → m2.detStart ≤ v →
    let k0 := k.decide ts m0
    let k2 := (k0.decide ts m1).decide ts m2
    k0.sky = .obscured ∧ k0.lastVv = some v ∧ (k0.decide ts m1).sky = .obscured ∧ k2.sky = .obscured
      ∧ (v < m3.detStart → k2.decide ts m3 = k2)
      ∧ (m3.detStart ≤ v → (k2.decide ts m3).lastVv = none
          ∧ ((k2.decide ts m3).sky = .layered ↔ ∃ t ∈ ts, t.state ≠ .tentative)
          ∧ ((k2.decide ts m3).sky = .clear ↔ ∀ t ∈ ts, t.state = .tentative)))
  ∧ (∀ (s : State) (m : Summary),
    let after := s.sku.decide s.ltu.tracks m
    let t := s.skyStep m
    let changed : Prop := after.sky ≠ s.sku.sky
    let raises : Prop := changed ∧ s.sku.sky ≠ .unknown ∧ (after.sky = .clear → s.sku.clearRearm = true)
    t.sku = { after with clearRearm := t.sku.clearRearm }
    ∧ (after.sky = .layered ∨ after.sky = .obscured → t.sku.clearRearm = true)
    ∧ (after.sky = .clear → raises → t.sku.clearRearm = false)
    ∧ (after.sky = .clear → ¬ raises → t.sku.clearRearm = s.sku.clearRearm)
    ∧ (raises → counted Ctr.skyChangeRaises s t
        ∧ (t.slc.noticeSet.getLsbD NoticeKind.skyChange.bit = true
            ∨ ∃ f : Frame, t.slc.current = some f ∧ f.kind = .notice))
    ∧ (¬ raises → t.slc = s.slc ∧ ctrsKept [Ctr.clearSuppressed] s t)
    ∧ (changed → after.sky = .clear → s.sku.clearRearm = false → counted Ctr.clearSuppressed s t)
    ∧ (¬ changed ∨ after.sky ≠ .clear ∨ s.sku.clearRearm = true →
        t.ctrs[Ctr.clearSuppressed] = s.ctrs[Ctr.clearSuppressed])
    ∧ t.slc.sameSettings s.slc ∧ t = { s with sku := t.sku, slc := t.slc, ctrs := t.ctrs }
    ∧ ∀ raised : Bool, (raised = true ↔ raises) → s.evaluate m =
        ((((s.bump Ctr.skyEvaluations).skyStep m).ceilingStep).triggerStep raised (1 ≤ m.confirmed)).reportStep m)
  ∧ (∀ s : State,
    let t := s.ceilingStep
    let goesLow := s.sku.ceilingLow = false ∧ ∃ h, t.sku.ceiling = some h ∧ h < s.sku.threshold
    let goesOk := s.sku.ceilingLow = true ∧ (s.sku.sky = .clear
      ∨ ∃ h, t.sku.ceiling = some h ∧ s.sku.threshold + s.sku.hysteresis ≤ h)
    (s.sku.sky = .obscured → t.sku.ceiling = s.sku.lastVv)
    ∧ (s.sku.sky = .layered → ∀ h, t.sku.ceiling = some h ↔
        (∃ k ∈ s.ltu.tracks, k.state ≠ .tentative ∧ k.base = h)
          ∧ ∀ k ∈ s.ltu.tracks, k.state ≠ .tentative → h ≤ k.base)
    ∧ (s.sku.sky = .clear → t.sku.ceiling = none)
    ∧ (goesLow → t.sku = { s.sku with ceiling := t.sku.ceiling, ceilingLow := true }
        ∧ counted Ctr.ceilingLowRaises s t)
    ∧ (goesOk → t.sku = { s.sku with ceiling := t.sku.ceiling, ceilingLow := false }
        ∧ counted Ctr.ceilingOkRaises s t)
    ∧ (¬ goesLow → ¬ goesOk → t = { s with sku := { s.sku with ceiling := t.sku.ceiling } }))
  ∧ (∀ (s : State) (raised confirmed : Bool) (i : Fin 4),
    let e := s.sku.captures[i]
    let t := s.triggerStep raised confirmed
    let holds := e.cond = .ceilingBelow ∧ (∃ h, s.sku.ceiling = some h ∧ h < e.height)
      ∨ e.cond = .obscured ∧ s.sku.sky = .obscured ∨ e.cond = .skyChange ∧ raised = true
      ∨ e.cond = .trackNew ∧ confirmed = true
    let level := e.cond = .ceilingBelow ∨ e.cond = .obscured
    (e.armed = true → holds → t.sku.captures[i] = { e with armed := false, pending := true }
        ∧ (s.ctrs[Ctr.captureTriggers] < Config.counterMax →
            s.ctrs[Ctr.captureTriggers] < t.ctrs[Ctr.captureTriggers]))
    ∧ (e.armed = false → level → ¬ holds → t.sku.captures[i] = { e with armed := true })
    ∧ (e.armed = true ∧ ¬ holds ∨ e.armed = false ∧ (holds ∨ ¬ level) → t.sku.captures[i] = e)
    ∧ t = { s with sku := { s.sku with captures := t.sku.captures }, ctrs := t.ctrs }
    ∧ ctrsKept [Ctr.captureTriggers] s t)
  ∧ ∀ (s : State) (m : Summary),
    let t := s.reportStep m
    let payload := layerPayload s.slc.time s.sku s.ltu.tracks m
    (s.sku.reportCount + 1 < s.sku.divider →
      t = { s with sku := { s.sku with reportCount := s.sku.reportCount + 1 } })
    ∧ (s.sku.divider ≤ s.sku.reportCount + 1 → t.sku = { s.sku with reportCount := 0 }
        ∧ counted Ctr.layerReportsOffered s t
        ∧ (s.slc.fits payload.length = true → s.slc.lineSound ∨ s.slc.phase = .boundary →
          ∃ f ∈ t.slc.queue ++ t.slc.current.toList, f.kind = .layer ∧ f.level = s.slc.levels.layer
            ∧ f.tag = s.slc.tagCounter ∧ f.payload = payload))

/-! ### The station line (R149 to R161) -/

/-- The characters of a block of up to 256 bytes, arriving from HUNT, deliver that block to the Inbound
Command Queue (log entry 7); with its CRC complemented they are discarded and counted in INBOUND_CRC (R150,
R151, R174). Each character fixes the timeout of the gap behind it (log entry 5). A character is a start
bit, its 8 bits least significant first, and a stop bit, inward and outward, ten bit times without a gap on
SLTX, which idles at the stop level (R149; the levels of the bits are log entry 34). -/
def Obligations.InboundBlockDelivered : Prop :=
  (∀ (s : State) (b : InBlock), s.slc.inParser = .hunt → b.payload.length ≤ 256 →
    let s0 : State := { s with slc := { s.slc with gapTimeout := s.slc.charTimeout } }
    let arrive (invert : Bool) : List Instr :=
      (blockChars b.kind b.tag b.segment b.last b.payload invert).map fun c => .inboundCharacter c true
    Runs (arrive false) s (s0.deliver b)
      ∧ ∃ t, Runs (arrive true) s t ∧ t.slc = s0.slc ∧ counted Ctr.inboundCrc s t
        ∧ ctrsKept [Ctr.inboundCrc] s t)
  ∧ (∀ (c : Byte) (stop : Bool),
    heardChar (false :: (List.range 8).map (fun k => c.getLsbD k) ++ [stop]) = some (c, stop))
  ∧ ∀ l : Slc,
    (∀ (i : Nat) (c : Byte), l.txBlock[i]? = some c →
      l.txLevel (10 * i) = false ∧ (∀ k, k < 8 → l.txLevel (10 * i + 1 + k) = c.getLsbD k)
        ∧ l.txLevel (10 * i + 9) = true)
    ∧ ∀ k, 10 * l.txBlock.length ≤ k → l.txLevel k = true

/-- Inbound discards (R151): a stop-bit error and the inter-character timeout end a block in progress with
their counters and leave HUNT alone; a header with a length above 256 is a LENGTH discard. That each character
fixes the timeout of the gap behind it is log entry 5, that a timeout in HUNT has no effect log entry 6. -/
def Obligations.InboundDiscards : Prop :=
  ∀ (s : State) (c : Byte),
    let s0 : State := { s with slc := { s.slc with gapTimeout := s.slc.charTimeout } }
    let dropped (u : State) (k : Ctr) : State :=
      { u with slc := { u.slc with inParser := .hunt }, ctrs := Counters.add u.ctrs k 1 }
    (s.slc.inParser = .hunt → exec .interCharacterTimeout s = .next s
      ∧ exec (.inboundCharacter c false) s = .next s0
      ∧ (c ≠ 0xA5 → exec (.inboundCharacter c true) s = .next s0))
    ∧ (s.slc.inParser ≠ .hunt → exec .interCharacterTimeout s = .next (dropped s Ctr.inboundTimeout)
      ∧ exec (.inboundCharacter c false) s = .next (dropped s0 Ctr.inboundLineError))
    ∧ ∀ got : List Byte, s.slc.inParser = .header got → got.length = 5 → 256 < field (got ++ [c]) 4 2 →
      exec (.inboundCharacter c true) s = .next (dropped s0 Ctr.inboundLength)

/-- A command block that arrives while none can be taken joins a queue of fewer than four and waits; at a
full queue it is discarded and counted in INBOUND_OVERRUN (R152, R163). That the row of a command is the
arrival of its good block is the model's choice: log entry 7. -/
def Obligations.CommandsWaitOrOverrun : Prop :=
  ∀ (i : Instr) (b : InBlock) (s : State), commandRow i = some b →
    (s.slc.inbound.length < 4 → (s.mgu = .resetting ∨ s.slc.responsesUsed = 4) →
      exec i s = .next { s with
        slc := { s.slc with inbound := s.slc.inbound ++ [b] }
        ctrs := Counters.add s.ctrs Ctr.inboundGood 1 })
    ∧ (s.slc.inbound.length = 4 → ∃ t, exec i s = .next t ∧ t.slc.sameSettings s.slc
        ∧ counted Ctr.inboundOverrun s t ∧ ctrsKept (Ctr.inboundOverrun :: raiseCtrs) s t
        ∧ t = { s with slc := t.slc, ctrs := t.ctrs })

/-- The arbitration at a block boundary (R155): a CURRENT frame with more blocks goes on or is preempted
by a frame of strictly higher priority; one that ends gives the line to the highest pending frame, to the
top of the stack, or to nobody. -/
def Obligations.BlockCompleteArbitrates : Prop :=
  ∀ (s : State) (f : Frame), s.slc.current = some f →
    let f1 : Frame := { f with sent := f.sent + 1 }
    (f1.sent < f.blocks →
      (∀ g, s.slc.highest = some g → g.level < f.level → s.slc.stack.length < 3 → g.sent = 0 →
        ∃ t, exec .blockComplete s = .next t ∧ t.slc.stack = f1 :: s.slc.stack
          ∧ t.slc.current = some (s.slc.filled g) ∧ t.slc.phase = .sending
          ∧ counted Ctr.preemptions s t ∧ counted Ctr.blocksSent s t
          ∧ t.ctrs[Ctr.framesSent] = s.ctrs[Ctr.framesSent])
      ∧ ((∀ g, s.slc.highest = some g → f.level ≤ g.level ∨ 3 ≤ s.slc.stack.length) →
        ∃ t, exec .blockComplete s = .next t ∧ counted Ctr.blocksSent s t
          ∧ t.slc = { s.slc with
              current := some f1
              phase := .sending
              txBlock := f1.nextChars s.slc.crcInject
              crcInject := false }
          ∧ ctrsKept [Ctr.blocksSent, Ctr.crcInjected] s t))
    ∧ (f.blocks ≤ f1.sent → f.after = .nothing → s.slc.inbound = [] → s.slc.unmaskedPending = false →
      ∃ t, exec .blockComplete s = .next t ∧ counted Ctr.blocksSent s t ∧ counted Ctr.framesSent s t
        ∧ (∀ g, s.slc.highest = some g → (∀ top, s.slc.stack.head? = some top → g.level < top.level) →
            t.slc.stack = s.slc.stack ∧ t.slc.current = some (s.slc.filled g) ∧ t.slc.phase = .sending)
        ∧ (∀ top below, s.slc.stack = top :: below → top.kind ≠ .notice →
            (∀ g, s.slc.highest = some g → top.level ≤ g.level) →
            t.slc.stack = below ∧ t.slc.current = some top ∧ t.slc.phase = .sending
              ∧ t.slc.txBlock = top.nextChars s.slc.crcInject)
        ∧ (s.slc.highest = none → s.slc.stack = [] →
            t.slc = { s.slc with current := none, phase := .idle, txBlock := [] }))

/-- The frame chosen to be sent has the smallest level, then the earliest place in tie order, then the
greatest age (R155). The QUEUED frame discarded for one that does not fit is of strictly lower priority,
with the largest level, then the latest in tie order, then the oldest, and the placement goes on without it
(R156). A placement keeps every QUEUED frame of the new frame's level or a smaller one; an enqueued frame
takes the next tag at the tail and fits; a dropped one leaves no frame of strictly lower priority QUEUED and
takes no tag (R153, R156). -/
def Obligations.SentAndDroppedByPriority : Prop :=
  (∀ (fs : List Frame) (f : Frame), firstToSend fs = some f →
    ∃ older younger, fs = older ++ f :: younger
      ∧ (∀ g ∈ older, f.level < g.level ∨ (f.level = g.level ∧ f.kind.code < g.kind.code))
      ∧ ∀ g ∈ younger, f.level < g.level ∨ (f.level = g.level ∧ f.kind.code ≤ g.kind.code))
  ∧ (∀ (lv : Nat) (fs : List Frame),
    (victim lv fs = none ↔ ∀ g ∈ fs, g.level ≤ lv)
    ∧ ∀ g, victim lv fs = some g → lv < g.level ∧ ∃ older younger, fs = older ++ g :: younger
      ∧ (∀ x ∈ older, x.level < g.level ∨ (x.level = g.level ∧ x.kind.code < g.kind.code))
      ∧ ∀ x ∈ younger, x.level < g.level ∨ (x.level = g.level ∧ x.kind.code ≤ g.kind.code))
  ∧ ∀ (l : Link) (f : Frame),
    let p := l.place f
    (p.enqueued = true →
      (p.link.slc.queue.filter fun g => g.level ≤ f.level)
          = (l.slc.queue.filter fun g => g.level ≤ f.level) ++ [{ f with tag := l.slc.tagCounter }]
        ∧ p.link.slc.tagCounter = l.slc.tagCounter + 1
        ∧ p.link.slc.bytesUsed ≤ 16384 ∧ p.link.slc.descUsed ≤ 32)
    ∧ (p.enqueued = false →
      p.link.slc.queue = (l.slc.queue.filter fun g => g.level ≤ f.level)
        ∧ p.link.slc.tagCounter = l.slc.tagCounter ∧ p.lost = true)
    ∧ (l.slc.fits f.size = true → p.enqueued = true ∧ p.lost = false)
    ∧ ∀ g, l.slc.fits f.size = false → victim f.level l.slc.queue = some g →
      p.lost = true ∧ p.link = ((l.discard g).place f).link ∧ p.enqueued = ((l.discard g).place f).enqueued
        ∧ (l.discard g).slc = { l.slc with queue := l.slc.queue.erase g }
        ∧ (l.discard g).ctrs = Counters.add l.ctrs g.kind.dropCtr 1

/-- A raised notice is pending, or it went out in a NOTICE frame that has just started with the timebase
and a set that holds it (R157, R158): it is delayed by a full Report Buffer but not lost. On a line that is
busy or held, the notices of a tracking update are pending when its summary is handed on (R128), and the
whole update and evaluation start at most one NOTICE frame and queue at most one (R125; that an idle line is
held through them is log entry 33). -/
def Obligations.RaisedNoticeIsPendingOrSent : Prop :=
  (∀ (l : Link) (k : NoticeKind),
    (l.raise k).slc.noticeSet.getLsbD k.bit = true
      ∨ ∃ (f : Frame) (set : BitVec 16), (l.raise k).slc.current = some f ∧ f.kind = .notice
        ∧ set.getLsbD k.bit = true
        ∧ f.payload = be 4 l.slc.time.sec ++ be 4 l.slc.time.usec ++ [bit1 l.slc.time.valid]
            ++ be 2 set.toNat)
  ∧ (∀ (s : State) (u : Tracking),
    let t := (s.withLink s.link.hold).raiseTracking u
    (1 ≤ u.confirmed + u.createdConfirmed → t.slc.noticeSet.getLsbD NoticeKind.layerNew.bit = true)
      ∧ (1 ≤ u.lost → t.slc.noticeSet.getLsbD NoticeKind.layerLost.bit = true)
      ∧ (1 ≤ u.discarded → t.slc.noticeSet.getLsbD NoticeKind.trackTableFull.bit = true))
  ∧ ∀ (s : State) (d : Detection), (s.slc.queue.filter fun f => f.kind = .notice).length ≤ 1 →
    s.slc.phase ≠ .boundary →
    ((s.track d).slc.queue.filter fun f => f.kind = .notice).length ≤ 1
      ∧ (s.track d).ctrs[Ctr.noticeFrames] ≤ s.ctrs[Ctr.noticeFrames] + 1
      ∧ (s.slc.phase ≠ .idle → (s.track d).ctrs[Ctr.noticeFrames] = s.ctrs[Ctr.noticeFrames])

/-- INTERVAL_DUE at an elapsed count of P with room for the frame: the 81-byte frame is built from the
counters and their snapshots, the elapsed count and the span are 0, and the snapshots are fresh; it has
no effect at any other count, which is log entry 6 (R160, R179). -/
def Obligations.IntervalReportBuilt : Prop :=
  ∀ s : State,
    (s.slc.interval = 0 ∨ s.slc.elapsed ≠ s.slc.interval → exec .intervalDue s = .next s)
    ∧ (1 ≤ s.slc.interval → s.slc.elapsed = s.slc.interval → s.slc.fits 81 = true → s.slc.lineSound →
      s.slc.span < 4294967296 →
      ∃ (t : State) (f : Frame), exec .intervalDue s = .next t
        ∧ f ∈ t.slc.queue ++ t.slc.current.toList ∧ f.kind = .interval
        ∧ f.level = s.slc.levels.interval ∧ f.tag = s.slc.tagCounter
        ∧ f.payload = be 4 s.slc.time.sec ++ be 4 s.slc.time.usec ++ [bit1 s.slc.time.valid]
            ++ be 4 s.slc.span ++ [s.fcu.state.code] ++ [s.sku.sky.code]
            ++ be 2 (flagBits ((List.finRange 16).map fun i => s.ctrs[intervalList[i]] = 4294967295))
            ++ ((List.finRange 16).flatMap fun i => be 4 (s.ctrs[intervalList[i]] - s.slc.snapshots[i]))
        ∧ f.payload.length = 81
        ∧ t.slc.elapsed = 0 ∧ t.slc.span = 0
        ∧ (∀ i : Fin 16, t.slc.snapshots[i] = s.ctrs[intervalList[i]])
        ∧ counted Ctr.intervalFrames s t ∧ ctrsKept (Ctr.intervalFrames :: blockCtrs) s t
        ∧ t = { s with slc := t.slc, ctrs := t.ctrs })

/-- A number of microseconds advances the timebase by that number modulo 2^32 seconds, and with the
interval reports off the span by its whole seconds of running, whatever the timebase says (R159, R160). With
any period, a microsecond inside the running second moves the two clocks alone; the one that completes it
advances the span, and with P of 1 or more the elapsed count, and where the count then equals P the INTERVAL
frame due is built and offered at that event, which is what INTERVAL_DUE does (R160; that this row offers it
is log entry 31). -/
def Obligations.TimebaseCountsMicroseconds : Prop :=
  (∀ (n : Nat) (s : State), s.slc.interval = 0 → s.slc.time.sec < 4294967296 →
    s.slc.time.usec < 1000000 → s.slc.runUsec < 1000000 →
    ∃ t, Runs (List.replicate n .timebaseAdvance) s t
      ∧ t.slc.time.sec * 1000000 + t.slc.time.usec
          = (s.slc.time.sec * 1000000 + s.slc.time.usec + n) % 4294967296000000
      ∧ t.slc.time.usec < 1000000 ∧ t.slc.time.valid = s.slc.time.valid
      ∧ t.slc.runUsec = (s.slc.runUsec + n) % 1000000
      ∧ t.slc.span = s.slc.span + (s.slc.runUsec + n) / 1000000
      ∧ t = { s with slc := { s.slc with time := t.slc.time, runUsec := t.slc.runUsec, span := t.slc.span } })
  ∧ ∀ s : State,
    (s.slc.runUsec < 999999 → exec .timebaseAdvance s = .next { s with
      slc := { s.slc with time := s.slc.time.tick, runUsec := s.slc.runUsec + 1 } })
    ∧ (s.slc.runUsec = 999999 →
      let u : State := { s with slc := { s.slc with
        time := s.slc.time.tick
        runUsec := 0
        span := s.slc.span + 1
        elapsed := if s.slc.interval = 0 then s.slc.elapsed else s.slc.elapsed + 1 } }
      (s.slc.interval = 0 ∨ s.slc.elapsed + 1 ≠ s.slc.interval → exec .timebaseAdvance s = .next u)
      ∧ (1 ≤ s.slc.interval → s.slc.elapsed + 1 = s.slc.interval →
        exec .timebaseAdvance s = exec .intervalDue u
        ∧ ∃ t, exec .timebaseAdvance s = .next t ∧ t.slc.elapsed = 0
          ∧ (s.slc.fits 81 = true → t.slc.span = 0 ∧ counted Ctr.intervalFrames s t)))

/-- TIME_MARK sets the timebase and the valid flag, answers with the clamped step, 0 on an unset clock,
and raises TIME_STEP only for a step beyond 1,000 µs of a set one (R159). SET_REPORTING replaces the four
settings, zeroes the elapsed count, keeps snapshots and span, and its own response already goes at the new
RESPONSE level (R167). -/
def Obligations.TimeAndReportingCommands : Prop :=
  ∀ (s : State) (b : CmdBlock), s.ready → b.single = true →
    (∀ sec usec : Nat, sec < 4294967296 → usec ≤ 999999 → b.payload = be 4 sec ++ be 4 usec →
      let now := s.slc.time
      let step : Int := ((sec : Int) * 1000000 + usec) - ((now.sec : Int) * 1000000 + now.usec)
      let shown : Int := if now.valid then max (-2147483647) (min 2147483647 step) else 0
      ∃ t, exec (.timeMark b) s = .next t
        ∧ s.answered t (responseTo s.slc 0x21 b .ok (beInt 4 shown) .nothing)
        ∧ t.slc.time = ⟨sec, usec, true⟩ ∧ t.slc.runUsec = s.slc.runUsec
        ∧ t.slc.elapsed = s.slc.elapsed ∧ t.slc.span = s.slc.span ∧ counted Ctr.timeMarks s t
        ∧ (now.valid = true → 1000 < step.natAbs → counted Ctr.timeSteps s t)
        ∧ ((now.valid = false ∨ step.natAbs ≤ 1000) → ctrsKept (Ctr.timeMarks :: commandCtrs) s t)
        ∧ t = { s with slc := t.slc, ctrs := t.ctrs })
    ∧ ∀ r : Reporting, b.payload = reportingBytes r → readReporting b.payload = some r →
      ∃ t, exec (.setReporting b) s = .next t
        ∧ s.answered t (responseTo { s.slc with levels := r.levels } 0x20 b .ok [] .nothing)
        ∧ t.slc.levels = r.levels ∧ t.slc.noticeMask = r.mask ∧ t.slc.interval = r.period
        ∧ t.slc.charTimeout = r.timeout ∧ t.slc.gapTimeout = s.slc.gapTimeout ∧ t.slc.elapsed = 0
        ∧ t.slc.span = s.slc.span ∧ t.slc.snapshots = s.slc.snapshots ∧ t.slc.time = s.slc.time
        ∧ t.slc.stack = s.slc.stack
        ∧ t = { s with slc := t.slc, ctrs := t.ctrs }

/-! ### Programs, reads, resets, refusals (R161 to R171) -/

/-- SET_PROGRAM outside RUNNING (R166): the record is replaced, the servo initialised (R17), the frame
count 0 (R106), the held background emptied where the gate count changes (R77), and nothing else. The codes of
enabled and detection in the payload are log entry 32. -/
def Obligations.ProgramRecordWritten : Prop :=
  ∀ (s : State) (b : CmdBlock) (p : Prog) (r : ProgramRec), s.ready → s.fcu.state ≠ .running →
    b.single = true → b.payload = programBytes p r → r.valid = true →
    ∃ t, exec (.setProgram b) s = .next t
      ∧ s.answered t (responseTo s.slc 0x10 b .ok [] .nothing) ∧ ctrsKept commandCtrs s t
      ∧ ({ s with
          progs := s.progs.set p r
          fcu := { s.fcu with
            servos := s.fcu.servos.set p ⟨if r.autoServo then .acquire else .manual, r.startDrive, 0, 0, 0, true⟩ }
          ldu := { s.ldu with frameCount := s.ldu.frameCount.set p 0 }
          pcu := { s.pcu with
            held := if r.gateCount = s.progs[p].gateCount then s.pcu.held
                    else s.pcu.held.set p none } } : State).sameButLine t

/-- The reads change no state but what answering takes (R168 to R170): READ_STATUS answers with a section
of the length that R178 gives, READ_TRACKS with 10 bytes and 23 per track, READ_COUNTERS with the values
of its range, which its clear flag clears together with their interval snapshots (log entry 8: the flag is
bit 0 of its byte). That the values read and cleared have INBOUND_GOOD and COMMANDS_TAKEN of this very command
counted in them is log entry 13. -/
def Obligations.ReadsReport : Prop :=
  ∀ (s : State) (b : CmdBlock), s.ready → b.single = true →
    (∀ (n : Nat), n ≤ 6 → b.payload = be 1 n → s.gau.queue.length ≤ 6 → ∃ t p, exec (.readStatus b) s = .next t
      ∧ statusSection s.taken n = some p
      ∧ s.answered t (responseTo s.slc 0x22 b .ok p .nothing) ∧ ctrsKept commandCtrs s t ∧ s.sameButLine t
      ∧ (n ≠ 4 → p.length = [46, 25, 81, 61, 0, 50, 147].getD n 0)
      ∧ (n = 4 → p.length = 18 + 16 * (match s.ldu.last with | some d => d.cands.length | none => 0)))
    ∧ (b.payload = [] → ∃ t p, exec (.readTracks b) s = .next t ∧ p = tracksPayload s.ltu
      ∧ p.length = 10 + 23 * s.ltu.tracks.length
      ∧ s.answered t (responseTo s.slc 0x24 b .ok p .nothing) ∧ ctrsKept commandCtrs s t ∧ s.sameButLine t)
    ∧ ∀ (first count : Nat) (clear : Bool), 1 ≤ count → count ≤ 63 → first + count ≤ 117 →
      b.payload = be 1 first ++ be 1 count ++ [bit1 clear] →
      ∃ t, exec (.readCounters b) s = .next t
        ∧ List.Perm t.slc.held (responseTo s.slc 0x23 b .ok (be 1 first ++ be 1 count
            ++ (List.range count).flatMap fun k => be 4 (s.taken.ctrs.value (first + k))) .nothing
              :: s.slc.held)
        ∧ (∀ c : Ctr, c ∉ blockCtrs →
            t.ctrs[c] = if clear = true ∧ first ≤ c.val ∧ c.val < first + count then 0 else s.taken.ctrs[c])
        ∧ (∀ i : Fin 16, t.slc.snapshots[i] =
            if clear = true ∧ first ≤ (intervalList[i]).val ∧ (intervalList[i]).val < first + count then 0
            else s.slc.snapshots[i])
        ∧ t.slc.sameSettings { s.slc with snapshots := t.slc.snapshots }
        ∧ t = { s with slc := t.slc, ctrs := t.ctrs }

/-- SOFT_RESET answers OK and puts the MGU in RESETTING; it takes effect at the completion of its
response's block, from any state: soft-reset values, with the counters, the timebase, the snapshots and
the line rate kept and the discarded commands counted (R171). That the microseconds of the running second
go on is log entry 12, that the INTERLOCK pin keeps its level log entry 2, and values at reset that no rule
gives are log entries 5, 10, 11 and 27. INJECT_CRC answers OK and changes
nothing until its response has completed, which sets the flag (R161). -/
def Obligations.ResponsesWithAfterEffects : Prop :=
  (∀ (s : State) (b : CmdBlock), s.ready → b.single = true → b.payload = [] →
    (∃ t, exec (.softReset b) s = .next t
      ∧ s.answered t (responseTo s.slc 0x25 b .ok [] .softReset) ∧ ctrsKept commandCtrs s t
      ∧ ({ s with mgu := .resetting } : State).sameButLine t)
    ∧ ∃ t, exec (.injectCrc b) s = .next t
      ∧ s.answered t (responseTo s.slc 0x1E b .ok [] .crcInject) ∧ ctrsKept commandCtrs s t
      ∧ s.sameButLine t)
  ∧ ∀ (s : State) (f : Frame), s.slc.current = some f → f.blocks ≤ f.sent + 1 →
    (f.after = .softReset → ∃ t, exec .blockComplete s = .next t
      ∧ t.progs = State.reset.progs ∧ t.fcu = { Fcu.reset with interlockClosed := s.fcu.interlockClosed }
      ∧ t.rsp = Rsp.reset ∧ t.gau = Gau.reset ∧ t.pcu = Pcu.reset ∧ t.ldu = Ldu.reset
      ∧ t.ltu = Ltu.reset ∧ t.sku = Sku.reset ∧ t.mgu = .ready
      ∧ t.slc = { Slc.reset s.slc.rate with
          time := s.slc.time, runUsec := s.slc.runUsec, snapshots := s.slc.snapshots }
      ∧ counted Ctr.blocksSent s t ∧ counted Ctr.framesSent s t
      ∧ t.ctrs[Ctr.commandsDiscarded]
          = min (s.ctrs[Ctr.commandsDiscarded] + s.slc.inbound.length) Config.counterMax
      ∧ ctrsKept ([Ctr.blocksSent, Ctr.framesSent, Ctr.commandsDiscarded] ++ raiseCtrs) s t)
    ∧ (f.after = .crcInject → s.slc.inbound = [] → s.slc.unmaskedPending = false →
      s.slc.highest = none → s.slc.stack = [] → ∃ t, exec .blockComplete s = .next t
      ∧ t.slc = { s.slc with current := none, phase := .idle, txBlock := [], crcInject := true })

/-- The refusals of R165 and the ranges of the owning rules: BAD_COMMAND for a block that is not single or
of an unknown kind, BAD_LENGTH for a wrong payload length, WRONG_STATE before BAD_VALUE for the settings
refused while RUNNING, BAD_VALUE for operands out of range. The ranges stand here field by field at the offsets
of R177, for SET_PROGRAM (R166), SET_FIRING and SET_SCHEDULE (R25), SET_TRACKING (R116), SET_SKY (R145),
SET_CAPTURE (R146), SET_REPORTING (R167), TIME_MARK (R159), READ_STATUS (R168) and READ_COUNTERS (R169); the
model's readers accept exactly the operands within the first seven. -/
def Obligations.BlocksRefused : Prop :=
  let badProgram (p : List Byte) : Prop :=
    let count := field p 4 2
    3 < field p 0 1 ∨ 1 < field p 1 1 ∨ 2047 < field p 2 2 ∨ count = 0 ∨ 1024 < count
      ∨ 2048 < field p 2 2 + count ∨ field p 6 2 < 16 ∨ 16384 < field p 6 2 ∨ field p 8 2 < 64
      ∨ 4000 < field p 8 2 ∨ 1 < field p 10 1 ∨ field p 12 1 < field p 11 1 ∨ 2 < field p 13 1
      ∨ 64 < field p 14 1 ∨ count < field p 14 1 ∨ field p 13 1 = 1 ∧ field p 14 1 = 0
      ∨ 2047 < field p 15 2 ∨ 2048 < field p 15 2 + count ∨ 2047 < field p 17 2
      ∨ 2048 < field p 17 2 + count ∨ count ≤ field p 19 2 ∨ 1 < field p 21 1 ∨ 1 < field p 22 1
      ∨ field p 24 4 = 0
  let badFiring (p : List Byte) : Prop :=
    field p 0 2 < 100 ∨ 10000 < field p 0 2 ∨ field p 2 2 < 512 ∨ 4096 < field p 2 2 ∨ field p 4 2 < 10
      ∨ 1000 < field p 4 2 ∨ 4193280 < field p 6 4 ∨ field p 0 2 ≤ field p 4 2
  let badSchedule (p : List Byte) : Prop := ∃ n, n < 32 ∧ (2 < field p n 1 / 16 ∨ 3 < field p n 1 % 16)
  let badTracking (p : List Byte) : Prop :=
    field p 0 1 = 0 ∨ field p 1 1 < field p 0 1 ∨ field p 1 1 < 3 ∨ 10 < field p 1 1 ∨ field p 2 1 = 0
      ∨ 15 < field p 2 1 ∨ 4095 < field p 3 2 ∨ 4095 < field p 5 2 ∨ field p 7 1 = 0 ∨ 8 < field p 7 1
  let badSky (p : List Byte) : Prop := 4095 < field p 0 2 ∨ 4095 < field p 2 2 ∨ field p 4 1 = 0
  let badCapture (p : List Byte) : Prop :=
    3 < field p 0 1 ∨ 4 < field p 1 1 ∨ 4095 < field p 2 2 ∨ 3 < field p 4 1
  let badReporting (p : List Byte) : Prop :=
    (∃ n, n < 5 ∧ 3 < field p n 1) ∨ 3600 < field p 7 2 ∨ field p 9 1 = 0
  (∀ p : List Byte, (readProgram p = none ↔ badProgram p) ∧ (readFiring p = none ↔ badFiring p)
    ∧ (readSchedule p = none ↔ badSchedule p) ∧ (readTracking p = none ↔ badTracking p)
    ∧ (readSky p = none ↔ badSky p) ∧ (readCapture p = none ↔ badCapture p)
    ∧ (readReporting p = none ↔ badReporting p))
  ∧ ∀ (s : State) (i : Instr) (k : Byte) (b : CmdBlock), s.ready →
    commandRow i = some ⟨k, b.tag, b.segment, b.last, b.payload⟩ →
    (b.single = false → ∃ t, exec i s = .next t ∧ s.refusedWith t k b .badCommand [] [])
    ∧ (commandKind k = false → ∃ t, exec i s = .next t ∧ s.refusedWith t k b .badCommand [] [])
    ∧ (∀ c, b.single = true → commandOf k = some c → b.payload.length ≠ c.length b.payload →
      ∃ t, exec i s = .next t ∧ s.refusedWith t k b .badLength [] [])
    ∧ (b.single = true → s.fcu.state = .running →
      (k = 0x10 ∧ b.payload.length = 29 ∨ k = 0x11 ∧ b.payload.length = 10
        ∨ k = 0x12 ∧ b.payload.length = 32) →
      ∃ t, exec i s = .next t ∧ s.refusedWith t k b .wrongState [] [])
    ∧ (b.single = true → s.fcu.state ≠ .running →
      (k = 0x10 ∧ b.payload.length = 29 ∧ badProgram b.payload
        ∨ k = 0x11 ∧ b.payload.length = 10 ∧ badFiring b.payload
        ∨ k = 0x12 ∧ b.payload.length = 32 ∧ badSchedule b.payload) →
      ∃ t, exec i s = .next t ∧ s.refusedWith t k b .badValue [] [])
    ∧ (b.single = true →
      (k = 0x19 ∧ b.payload.length = 8 ∧ badTracking b.payload
        ∨ k = 0x1B ∧ b.payload.length = 5 ∧ badSky b.payload
        ∨ k = 0x1C ∧ b.payload.length = 5 ∧ badCapture b.payload
        ∨ k = 0x20 ∧ b.payload.length = 10 ∧ badReporting b.payload
        ∨ k = 0x21 ∧ b.payload.length = 8 ∧ 999999 < field b.payload 4 4
        ∨ k = 0x22 ∧ b.payload.length = 1 ∧ 6 < field b.payload 0 1
        ∨ k = 0x23 ∧ b.payload.length = 3 ∧ (field b.payload 1 1 = 0 ∨ 63 < field b.payload 1 1
            ∨ 117 < field b.payload 0 1 + field b.payload 1 1)) →
      ∃ t, exec i s = .next t ∧ s.refusedWith t k b .badValue [] [])

/-- A command taken at its arrival and answered with any result but OK or REPLACED changes no state of
any block, the refusal counters apart (R164): whatever the command, its operands and the state. -/
def Obligations.RefusalChangesNothing : Prop :=
  ∀ (s t : State) (i : Instr) (b : InBlock) (f : Frame), s.ready → commandRow i = some b →
    exec i s = .next t → List.Perm t.slc.held (f :: s.slc.held) →
    f.payload.getD 1 0 ≠ 0 → f.payload.getD 1 0 ≠ 1 →
    f.tag = b.tag ∧ f.payload.head? = some b.kind ∧ s.sameButLine t ∧ counted Ctr.commandsRefused s t
      ∧ ctrsKept ([Ctr.commandsRefused, Ctr.correctionBusy, Ctr.thresholdBusy] ++ commandCtrs) s t

/-! ### Operands as bytes (R175, R177) -/

/-- Every valid program record, firing settings, schedule, set of tracking parameters and reporting
settings, every table load, and the operands of SET_SKY, SET_CAPTURE, INJECT_ECHO, PATH_CHECK, TIME_MARK,
READ_STATUS and READ_COUNTERS are read back from the bytes that carry them: no field of these layouts is
dropped (R175, R177). The code of each of a pair (yes or no, on or off) is log entry 32, the bit of the clear
flag of READ_COUNTERS log entry 8. -/
def Obligations.OperandsReadBack : Prop :=
  (∀ (p : Prog) (r : ProgramRec), r.valid = true →
    (programBytes p r).length = 29 ∧ readProgram (programBytes p r) = some (p, r))
    ∧ (∀ f : Firing, f.valid = true →
      (firingBytes f).length = 10 ∧ readFiring (firingBytes f) = some f)
    ∧ (∀ v : Vector SlotEntry 32, (scheduleBytes v).length = 32 ∧ readSchedule (scheduleBytes v) = some v)
    ∧ (∀ q : TrackParams, q.valid = true →
      (trackingBytes q).length = 8 ∧ readTracking (trackingBytes q) = some q)
    ∧ (∀ r : Reporting, r.levels.response ≤ 3 → r.levels.notice ≤ 3 → r.levels.layer ≤ 3 →
      r.levels.interval ≤ 3 → r.levels.profile ≤ 3 → r.period ≤ 3600 → 1 ≤ r.timeout → r.timeout ≤ 255 →
      (reportingBytes r).length = 10 ∧ readReporting (reportingBytes r) = some r)
    ∧ (∀ (start : Nat) (es : List GateEntry), 1 ≤ es.length → es.length ≤ 63 → start + es.length ≤ 2048 →
      (∀ g ∈ es, 1 ≤ g.width ∧ g.width ≤ 64 ∧ g.first + g.width ≤ 4096) →
      readGates (be 2 start ++ be 1 es.length ++ es.flatMap fun g => be 2 g.first ++ be 1 g.width)
        = some ⟨start, es⟩)
    ∧ (∀ (start : Nat) (es : List CorrEntry), 1 ≤ es.length → es.length ≤ 84 → start + es.length ≤ 2048 →
      (∀ e ∈ es, e.mant ≤ 65535 ∧ e.exp ≤ 23) →
      readCorrection (be 2 start ++ be 1 es.length ++ es.flatMap fun e => be 2 e.mant ++ be 1 e.exp)
        = some ⟨start, es⟩)
    ∧ (∀ (start : Nat) (es : List Nat), 1 ≤ es.length → es.length ≤ 84 → start + es.length ≤ 2048 →
      (∀ x ∈ es, x ≤ 8388607) →
      readThresholds (be 2 start ++ be 1 es.length ++ es.flatMap (be 3)) = some ⟨start, es⟩)
    ∧ (∀ T H R : Nat, T ≤ 4095 → H ≤ 4095 → 1 ≤ R → R ≤ 255 →
      readSky (be 2 T ++ be 2 H ++ be 1 R) = some ⟨T, H, R⟩)
    ∧ (∀ (e : Fin 4) (c : CaptureCond) (h : Nat) (p : Prog), h ≤ 4095 →
      readCapture (be 1 e.val ++ [c.code] ++ be 2 h ++ be 1 p.val) = some ⟨e, c, h, p⟩)
    ∧ (∀ (p first count : Nat) (amp : Int), p ≤ 255 → first ≤ 65535 → count ≤ 255 → -8388608 ≤ amp →
      amp ≤ 8388607 → readEcho (be 1 p ++ be 2 first ++ be 1 count ++ beInt 3 amp) = ⟨p, first, count, amp⟩)
    ∧ (∀ sec usec : Nat, sec ≤ 4294967295 → usec ≤ 999999 →
      readTimeMark (be 4 sec ++ be 4 usec) = some (sec, usec))
    ∧ (∀ n : Nat, n ≤ 65535 → field (be 2 n) 0 2 = n)
    ∧ (∀ n : Nat, n ≤ 255 → field (be 1 n) 0 1 = n)
    ∧ ∀ (first count : Nat) (clear : Bool), 1 ≤ count → count ≤ 63 → first + count ≤ 117 →
      readCounterRange (be 1 first ++ be 1 count ++ [bit1 clear]) = some (first, count, clear)

/-! ### Invariants that every command keeps -/

/-- ALERT is asserted exactly while the FCU is TRIPPED, a trip record is held exactly then, INTERLOCK is
closed while RUNNING, nothing is in flight and DRIVE is 0 outside RUNNING, and a path check runs only
while HALTED (R6, R21, R23, R24, R43). -/
def Obligations.FcuStaysSafe : Prop :=
  ∀ (c : Instr) (s t : State), s.fcuSafe → exec c s = .next t → t.fcuSafe

/-- Every command keeps the three tables in canonical form, the sizes of the buffer, the inbound queue,
the stack and the window, and the bound of every counter (R10, R31, R152, R155, I.5). -/
def Obligations.TablesAndStoresKept : Prop :=
  ∀ (c : Instr) (s t : State), exec c s = .next t →
    (s.tablesWf → t.tablesWf) ∧ (s.storesBounded → t.storesBounded)
      ∧ (s.countersBounded → t.countersBounded)

/-- After every command the profile path is settled: no conditioning and no detection that could begin is
left waiting (R71, R92), and the queue, the banks and the Result Buffers agree (R56, R67, R73). -/
def Obligations.ProfilePathSettles : Prop :=
  ∀ (c : Instr) (s t : State), s.pathSound → s.settled → exec c s = .next t → t.pathSound ∧ t.settled

/-- The Report Buffer, the descriptor queue and the Response Queue never exceed their sizes, and every
response is one block (R153, R154). -/
def Obligations.OutboundStoresNeverOverflow : Prop :=
  ∀ (c : Instr) (s t : State), s.pathSound → s.settled → s.outboundSound → exec c s = .next t →
    t.outboundSound
end

