-- ==== Sys2Proof/Laws/State.lean ====
section
/-! SUPPORT. The field of every update of the part: one lemma per field per update, true by rfl. -/

namespace Sys2Proof.Machine

/-! ### withLink -/
@[simp] theorem State.withLink_progs (s : State) (l : Link) : (s.withLink l).progs = s.progs := rfl
@[simp] theorem State.withLink_fcu (s : State) (l : Link) : (s.withLink l).fcu = s.fcu := rfl
@[simp] theorem State.withLink_rsp (s : State) (l : Link) : (s.withLink l).rsp = s.rsp := rfl
@[simp] theorem State.withLink_gau (s : State) (l : Link) : (s.withLink l).gau = s.gau := rfl
@[simp] theorem State.withLink_pcu (s : State) (l : Link) : (s.withLink l).pcu = s.pcu := rfl
@[simp] theorem State.withLink_ldu (s : State) (l : Link) : (s.withLink l).ldu = s.ldu := rfl
@[simp] theorem State.withLink_ltu (s : State) (l : Link) : (s.withLink l).ltu = s.ltu := rfl
@[simp] theorem State.withLink_sku (s : State) (l : Link) : (s.withLink l).sku = s.sku := rfl
@[simp] theorem State.withLink_slc (s : State) (l : Link) : (s.withLink l).slc = l.slc := rfl
@[simp] theorem State.withLink_mgu (s : State) (l : Link) : (s.withLink l).mgu = s.mgu := rfl
@[simp] theorem State.withLink_ctrs (s : State) (l : Link) : (s.withLink l).ctrs = l.ctrs := rfl
@[simp] theorem State.withLink_pending (s : State) (l : Link) : (s.withLink l).pending = s.pending := rfl

/-! ### withGau -/
@[simp] theorem State.withGau_progs (s : State) (g : Gau) : (s.withGau g).progs = s.progs := rfl
@[simp] theorem State.withGau_fcu (s : State) (g : Gau) : (s.withGau g).fcu = s.fcu := rfl
@[simp] theorem State.withGau_rsp (s : State) (g : Gau) : (s.withGau g).rsp = s.rsp := rfl
@[simp] theorem State.withGau_gau (s : State) (g : Gau) : (s.withGau g).gau = g := rfl
@[simp] theorem State.withGau_pcu (s : State) (g : Gau) : (s.withGau g).pcu = s.pcu := rfl
@[simp] theorem State.withGau_ldu (s : State) (g : Gau) : (s.withGau g).ldu = s.ldu := rfl
@[simp] theorem State.withGau_ltu (s : State) (g : Gau) : (s.withGau g).ltu = s.ltu := rfl
@[simp] theorem State.withGau_sku (s : State) (g : Gau) : (s.withGau g).sku = s.sku := rfl
@[simp] theorem State.withGau_slc (s : State) (g : Gau) : (s.withGau g).slc = s.slc := rfl
@[simp] theorem State.withGau_mgu (s : State) (g : Gau) : (s.withGau g).mgu = s.mgu := rfl
@[simp] theorem State.withGau_ctrs (s : State) (g : Gau) : (s.withGau g).ctrs = s.ctrs := rfl
@[simp] theorem State.withGau_pending (s : State) (g : Gau) : (s.withGau g).pending = s.pending := rfl

/-! ### withStaging -/
@[simp] theorem State.withStaging_progs (s : State) (v : Staging) : (s.withStaging v).progs = s.progs := rfl
@[simp] theorem State.withStaging_fcu (s : State) (v : Staging) : (s.withStaging v).fcu = s.fcu := rfl
@[simp] theorem State.withStaging_rsp (s : State) (v : Staging) : (s.withStaging v).rsp = s.rsp := rfl
@[simp] theorem State.withStaging_gau (s : State) (v : Staging) : (s.withStaging v).gau = { s.gau with staging := v } := rfl
@[simp] theorem State.withStaging_pcu (s : State) (v : Staging) : (s.withStaging v).pcu = s.pcu := rfl
@[simp] theorem State.withStaging_ldu (s : State) (v : Staging) : (s.withStaging v).ldu = s.ldu := rfl
@[simp] theorem State.withStaging_ltu (s : State) (v : Staging) : (s.withStaging v).ltu = s.ltu := rfl
@[simp] theorem State.withStaging_sku (s : State) (v : Staging) : (s.withStaging v).sku = s.sku := rfl
@[simp] theorem State.withStaging_slc (s : State) (v : Staging) : (s.withStaging v).slc = s.slc := rfl
@[simp] theorem State.withStaging_mgu (s : State) (v : Staging) : (s.withStaging v).mgu = s.mgu := rfl
@[simp] theorem State.withStaging_ctrs (s : State) (v : Staging) : (s.withStaging v).ctrs = s.ctrs := rfl
@[simp] theorem State.withStaging_pending (s : State) (v : Staging) : (s.withStaging v).pending = s.pending := rfl

/-! ### withFcu -/
@[simp] theorem State.withFcu_progs (s : State) (f : Fcu) : (s.withFcu f).progs = s.progs := rfl
@[simp] theorem State.withFcu_fcu (s : State) (f : Fcu) : (s.withFcu f).fcu = f := rfl
@[simp] theorem State.withFcu_rsp (s : State) (f : Fcu) : (s.withFcu f).rsp = s.rsp := rfl
@[simp] theorem State.withFcu_gau (s : State) (f : Fcu) : (s.withFcu f).gau = s.gau := rfl
@[simp] theorem State.withFcu_pcu (s : State) (f : Fcu) : (s.withFcu f).pcu = s.pcu := rfl
@[simp] theorem State.withFcu_ldu (s : State) (f : Fcu) : (s.withFcu f).ldu = s.ldu := rfl
@[simp] theorem State.withFcu_ltu (s : State) (f : Fcu) : (s.withFcu f).ltu = s.ltu := rfl
@[simp] theorem State.withFcu_sku (s : State) (f : Fcu) : (s.withFcu f).sku = s.sku := rfl
@[simp] theorem State.withFcu_slc (s : State) (f : Fcu) : (s.withFcu f).slc = s.slc := rfl
@[simp] theorem State.withFcu_mgu (s : State) (f : Fcu) : (s.withFcu f).mgu = s.mgu := rfl
@[simp] theorem State.withFcu_ctrs (s : State) (f : Fcu) : (s.withFcu f).ctrs = s.ctrs := rfl
@[simp] theorem State.withFcu_pending (s : State) (f : Fcu) : (s.withFcu f).pending = s.pending := rfl

/-! ### withRsp -/
@[simp] theorem State.withRsp_progs (s : State) (r : Rsp) : (s.withRsp r).progs = s.progs := rfl
@[simp] theorem State.withRsp_fcu (s : State) (r : Rsp) : (s.withRsp r).fcu = s.fcu := rfl
@[simp] theorem State.withRsp_rsp (s : State) (r : Rsp) : (s.withRsp r).rsp = r := rfl
@[simp] theorem State.withRsp_gau (s : State) (r : Rsp) : (s.withRsp r).gau = s.gau := rfl
@[simp] theorem State.withRsp_pcu (s : State) (r : Rsp) : (s.withRsp r).pcu = s.pcu := rfl
@[simp] theorem State.withRsp_ldu (s : State) (r : Rsp) : (s.withRsp r).ldu = s.ldu := rfl
@[simp] theorem State.withRsp_ltu (s : State) (r : Rsp) : (s.withRsp r).ltu = s.ltu := rfl
@[simp] theorem State.withRsp_sku (s : State) (r : Rsp) : (s.withRsp r).sku = s.sku := rfl
@[simp] theorem State.withRsp_slc (s : State) (r : Rsp) : (s.withRsp r).slc = s.slc := rfl
@[simp] theorem State.withRsp_mgu (s : State) (r : Rsp) : (s.withRsp r).mgu = s.mgu := rfl
@[simp] theorem State.withRsp_ctrs (s : State) (r : Rsp) : (s.withRsp r).ctrs = s.ctrs := rfl
@[simp] theorem State.withRsp_pending (s : State) (r : Rsp) : (s.withRsp r).pending = s.pending := rfl

/-! ### withPcu -/
@[simp] theorem State.withPcu_progs (s : State) (p : Pcu) : (s.withPcu p).progs = s.progs := rfl
@[simp] theorem State.withPcu_fcu (s : State) (p : Pcu) : (s.withPcu p).fcu = s.fcu := rfl
@[simp] theorem State.withPcu_rsp (s : State) (p : Pcu) : (s.withPcu p).rsp = s.rsp := rfl
@[simp] theorem State.withPcu_gau (s : State) (p : Pcu) : (s.withPcu p).gau = s.gau := rfl
@[simp] theorem State.withPcu_pcu (s : State) (p : Pcu) : (s.withPcu p).pcu = p := rfl
@[simp] theorem State.withPcu_ldu (s : State) (p : Pcu) : (s.withPcu p).ldu = s.ldu := rfl
@[simp] theorem State.withPcu_ltu (s : State) (p : Pcu) : (s.withPcu p).ltu = s.ltu := rfl
@[simp] theorem State.withPcu_sku (s : State) (p : Pcu) : (s.withPcu p).sku = s.sku := rfl
@[simp] theorem State.withPcu_slc (s : State) (p : Pcu) : (s.withPcu p).slc = s.slc := rfl
@[simp] theorem State.withPcu_mgu (s : State) (p : Pcu) : (s.withPcu p).mgu = s.mgu := rfl
@[simp] theorem State.withPcu_ctrs (s : State) (p : Pcu) : (s.withPcu p).ctrs = s.ctrs := rfl
@[simp] theorem State.withPcu_pending (s : State) (p : Pcu) : (s.withPcu p).pending = s.pending := rfl

/-! ### withLdu -/
@[simp] theorem State.withLdu_progs (s : State) (k : Ldu) : (s.withLdu k).progs = s.progs := rfl
@[simp] theorem State.withLdu_fcu (s : State) (k : Ldu) : (s.withLdu k).fcu = s.fcu := rfl
@[simp] theorem State.withLdu_rsp (s : State) (k : Ldu) : (s.withLdu k).rsp = s.rsp := rfl
@[simp] theorem State.withLdu_gau (s : State) (k : Ldu) : (s.withLdu k).gau = s.gau := rfl
@[simp] theorem State.withLdu_pcu (s : State) (k : Ldu) : (s.withLdu k).pcu = s.pcu := rfl
@[simp] theorem State.withLdu_ldu (s : State) (k : Ldu) : (s.withLdu k).ldu = k := rfl
@[simp] theorem State.withLdu_ltu (s : State) (k : Ldu) : (s.withLdu k).ltu = s.ltu := rfl
@[simp] theorem State.withLdu_sku (s : State) (k : Ldu) : (s.withLdu k).sku = s.sku := rfl
@[simp] theorem State.withLdu_slc (s : State) (k : Ldu) : (s.withLdu k).slc = s.slc := rfl
@[simp] theorem State.withLdu_mgu (s : State) (k : Ldu) : (s.withLdu k).mgu = s.mgu := rfl
@[simp] theorem State.withLdu_ctrs (s : State) (k : Ldu) : (s.withLdu k).ctrs = s.ctrs := rfl
@[simp] theorem State.withLdu_pending (s : State) (k : Ldu) : (s.withLdu k).pending = s.pending := rfl

/-! ### withLtu -/
@[simp] theorem State.withLtu_progs (s : State) (k : Ltu) : (s.withLtu k).progs = s.progs := rfl
@[simp] theorem State.withLtu_fcu (s : State) (k : Ltu) : (s.withLtu k).fcu = s.fcu := rfl
@[simp] theorem State.withLtu_rsp (s : State) (k : Ltu) : (s.withLtu k).rsp = s.rsp := rfl
@[simp] theorem State.withLtu_gau (s : State) (k : Ltu) : (s.withLtu k).gau = s.gau := rfl
@[simp] theorem State.withLtu_pcu (s : State) (k : Ltu) : (s.withLtu k).pcu = s.pcu := rfl
@[simp] theorem State.withLtu_ldu (s : State) (k : Ltu) : (s.withLtu k).ldu = s.ldu := rfl
@[simp] theorem State.withLtu_ltu (s : State) (k : Ltu) : (s.withLtu k).ltu = k := rfl
@[simp] theorem State.withLtu_sku (s : State) (k : Ltu) : (s.withLtu k).sku = s.sku := rfl
@[simp] theorem State.withLtu_slc (s : State) (k : Ltu) : (s.withLtu k).slc = s.slc := rfl
@[simp] theorem State.withLtu_mgu (s : State) (k : Ltu) : (s.withLtu k).mgu = s.mgu := rfl
@[simp] theorem State.withLtu_ctrs (s : State) (k : Ltu) : (s.withLtu k).ctrs = s.ctrs := rfl
@[simp] theorem State.withLtu_pending (s : State) (k : Ltu) : (s.withLtu k).pending = s.pending := rfl

/-! ### withSku -/
@[simp] theorem State.withSku_progs (s : State) (k : Sku) : (s.withSku k).progs = s.progs := rfl
@[simp] theorem State.withSku_fcu (s : State) (k : Sku) : (s.withSku k).fcu = s.fcu := rfl
@[simp] theorem State.withSku_rsp (s : State) (k : Sku) : (s.withSku k).rsp = s.rsp := rfl
@[simp] theorem State.withSku_gau (s : State) (k : Sku) : (s.withSku k).gau = s.gau := rfl
@[simp] theorem State.withSku_pcu (s : State) (k : Sku) : (s.withSku k).pcu = s.pcu := rfl
@[simp] theorem State.withSku_ldu (s : State) (k : Sku) : (s.withSku k).ldu = s.ldu := rfl
@[simp] theorem State.withSku_ltu (s : State) (k : Sku) : (s.withSku k).ltu = s.ltu := rfl
@[simp] theorem State.withSku_sku (s : State) (k : Sku) : (s.withSku k).sku = k := rfl
@[simp] theorem State.withSku_slc (s : State) (k : Sku) : (s.withSku k).slc = s.slc := rfl
@[simp] theorem State.withSku_mgu (s : State) (k : Sku) : (s.withSku k).mgu = s.mgu := rfl
@[simp] theorem State.withSku_ctrs (s : State) (k : Sku) : (s.withSku k).ctrs = s.ctrs := rfl
@[simp] theorem State.withSku_pending (s : State) (k : Sku) : (s.withSku k).pending = s.pending := rfl

/-! ### withSlc -/
@[simp] theorem State.withSlc_progs (s : State) (l : Slc) : (s.withSlc l).progs = s.progs := rfl
@[simp] theorem State.withSlc_fcu (s : State) (l : Slc) : (s.withSlc l).fcu = s.fcu := rfl
@[simp] theorem State.withSlc_rsp (s : State) (l : Slc) : (s.withSlc l).rsp = s.rsp := rfl
@[simp] theorem State.withSlc_gau (s : State) (l : Slc) : (s.withSlc l).gau = s.gau := rfl
@[simp] theorem State.withSlc_pcu (s : State) (l : Slc) : (s.withSlc l).pcu = s.pcu := rfl
@[simp] theorem State.withSlc_ldu (s : State) (l : Slc) : (s.withSlc l).ldu = s.ldu := rfl
@[simp] theorem State.withSlc_ltu (s : State) (l : Slc) : (s.withSlc l).ltu = s.ltu := rfl
@[simp] theorem State.withSlc_sku (s : State) (l : Slc) : (s.withSlc l).sku = s.sku := rfl
@[simp] theorem State.withSlc_slc (s : State) (l : Slc) : (s.withSlc l).slc = l := rfl
@[simp] theorem State.withSlc_mgu (s : State) (l : Slc) : (s.withSlc l).mgu = s.mgu := rfl
@[simp] theorem State.withSlc_ctrs (s : State) (l : Slc) : (s.withSlc l).ctrs = s.ctrs := rfl
@[simp] theorem State.withSlc_pending (s : State) (l : Slc) : (s.withSlc l).pending = s.pending := rfl

/-! ### bump -/
@[simp] theorem State.bump_progs (s : State) (c : Ctr) : (s.bump c).progs = s.progs := rfl
@[simp] theorem State.bump_fcu (s : State) (c : Ctr) : (s.bump c).fcu = s.fcu := rfl
@[simp] theorem State.bump_rsp (s : State) (c : Ctr) : (s.bump c).rsp = s.rsp := rfl
@[simp] theorem State.bump_gau (s : State) (c : Ctr) : (s.bump c).gau = s.gau := rfl
@[simp] theorem State.bump_pcu (s : State) (c : Ctr) : (s.bump c).pcu = s.pcu := rfl
@[simp] theorem State.bump_ldu (s : State) (c : Ctr) : (s.bump c).ldu = s.ldu := rfl
@[simp] theorem State.bump_ltu (s : State) (c : Ctr) : (s.bump c).ltu = s.ltu := rfl
@[simp] theorem State.bump_sku (s : State) (c : Ctr) : (s.bump c).sku = s.sku := rfl
@[simp] theorem State.bump_slc (s : State) (c : Ctr) : (s.bump c).slc = s.slc := rfl
@[simp] theorem State.bump_mgu (s : State) (c : Ctr) : (s.bump c).mgu = s.mgu := rfl
@[simp] theorem State.bump_ctrs (s : State) (c : Ctr) : (s.bump c).ctrs = Counters.add s.ctrs c 1 := rfl
@[simp] theorem State.bump_pending (s : State) (c : Ctr) : (s.bump c).pending = s.pending := rfl

/-! ### bumpBy -/
@[simp] theorem State.bumpBy_progs (s : State) (c : Ctr) (n : Nat) : (s.bumpBy c n).progs = s.progs := rfl
@[simp] theorem State.bumpBy_fcu (s : State) (c : Ctr) (n : Nat) : (s.bumpBy c n).fcu = s.fcu := rfl
@[simp] theorem State.bumpBy_rsp (s : State) (c : Ctr) (n : Nat) : (s.bumpBy c n).rsp = s.rsp := rfl
@[simp] theorem State.bumpBy_gau (s : State) (c : Ctr) (n : Nat) : (s.bumpBy c n).gau = s.gau := rfl
@[simp] theorem State.bumpBy_pcu (s : State) (c : Ctr) (n : Nat) : (s.bumpBy c n).pcu = s.pcu := rfl
@[simp] theorem State.bumpBy_ldu (s : State) (c : Ctr) (n : Nat) : (s.bumpBy c n).ldu = s.ldu := rfl
@[simp] theorem State.bumpBy_ltu (s : State) (c : Ctr) (n : Nat) : (s.bumpBy c n).ltu = s.ltu := rfl
@[simp] theorem State.bumpBy_sku (s : State) (c : Ctr) (n : Nat) : (s.bumpBy c n).sku = s.sku := rfl
@[simp] theorem State.bumpBy_slc (s : State) (c : Ctr) (n : Nat) : (s.bumpBy c n).slc = s.slc := rfl
@[simp] theorem State.bumpBy_mgu (s : State) (c : Ctr) (n : Nat) : (s.bumpBy c n).mgu = s.mgu := rfl
@[simp] theorem State.bumpBy_ctrs (s : State) (c : Ctr) (n : Nat) : (s.bumpBy c n).ctrs = Counters.add s.ctrs c n := rfl
@[simp] theorem State.bumpBy_pending (s : State) (c : Ctr) (n : Nat) : (s.bumpBy c n).pending = s.pending := rfl

/-! ### link -/
@[simp] theorem State.link_slc (s : State) : s.link.slc = s.slc := rfl
@[simp] theorem State.link_ctrs (s : State) : s.link.ctrs = s.ctrs := rfl

/-! ### Link.bump -/
@[simp] theorem Link.bump_slc (l : Link) (c : Ctr) : (l.bump c).slc = l.slc := rfl
@[simp] theorem Link.bump_ctrs (l : Link) (c : Ctr) : (l.bump c).ctrs = Counters.add l.ctrs c 1 := rfl

/-! ### Counters -/

/-- An increase reads back at its own counter and leaves the others (I.5). -/
theorem Counters.add_get (v : Counters) (c d : Ctr) (k : Nat) :
    (Counters.add v c k)[d.val] = if d = c then min (v[d.val] + k) Config.counterMax else v[d.val] := by
  unfold Counters.add
  by_cases h : d = c
  · subst h; simp
  · simp [h, Ne.symm (Fin.val_ne_of_ne h)]

@[simp] theorem Counters.add_get_self (v : Counters) (c : Ctr) (k : Nat) :
    (Counters.add v c k)[c.val] = min (v[c.val] + k) Config.counterMax := by
  rw [Counters.add_get, if_pos rfl]

theorem Counters.add_get_ne (v : Counters) {c d : Ctr} (k : Nat) (h : d ≠ c) :
    (Counters.add v c k)[d.val] = v[d.val] := by
  rw [Counters.add_get, if_neg h]

end Sys2Proof.Machine
end

