-- ==== Sys2Proof/Laws/Frames.lean ====
section
/-! SUPPORT. What each shared operation leaves alone: one lemma per operation, every block of the part
that it does not touch. -/

namespace Sys2Proof.Machine

/-! ### Link -/

/-- `State.raise` leaves these alone. -/
@[simp] theorem State.raise_frame (s : State) (k : NoticeKind) :
    (s.raise k).progs = s.progs ∧ (s.raise k).fcu = s.fcu ∧ (s.raise k).rsp = s.rsp
      ∧ (s.raise k).gau = s.gau ∧ (s.raise k).pcu = s.pcu ∧ (s.raise k).ldu = s.ldu
      ∧ (s.raise k).ltu = s.ltu ∧ (s.raise k).sku = s.sku ∧ (s.raise k).mgu = s.mgu
      ∧ (s.raise k).pending = s.pending := by simp [State.raise]

/-- `State.offer` leaves these alone. -/
@[simp] theorem State.offer_frame (s : State) (k : FrameKind) (p : List Byte) :
    (s.offer k p).1.progs = s.progs ∧ (s.offer k p).1.fcu = s.fcu ∧ (s.offer k p).1.rsp = s.rsp
      ∧ (s.offer k p).1.gau = s.gau ∧ (s.offer k p).1.pcu = s.pcu ∧ (s.offer k p).1.ldu = s.ldu
      ∧ (s.offer k p).1.ltu = s.ltu ∧ (s.offer k p).1.sku = s.sku ∧ (s.offer k p).1.mgu = s.mgu
      ∧ (s.offer k p).1.pending = s.pending := by simp [State.offer]

/-- `State.bumpIf` leaves these alone. -/
@[simp] theorem State.bumpIf_frame (s : State) (b : Bool) (c : Ctr) :
    (s.bumpIf b c).progs = s.progs ∧ (s.bumpIf b c).fcu = s.fcu ∧ (s.bumpIf b c).rsp = s.rsp
      ∧ (s.bumpIf b c).gau = s.gau ∧ (s.bumpIf b c).pcu = s.pcu ∧ (s.bumpIf b c).ldu = s.ldu
      ∧ (s.bumpIf b c).ltu = s.ltu ∧ (s.bumpIf b c).sku = s.sku ∧ (s.bumpIf b c).slc = s.slc
      ∧ (s.bumpIf b c).mgu = s.mgu
      ∧ (s.bumpIf b c).pending = s.pending := by simp only [State.bumpIf]; (repeat' split) <;> simp_all

/-- `State.raiseTimes` leaves these alone. -/
@[simp] theorem State.raiseTimes_frame (s : State) (k : NoticeKind) (n : Nat) :
    (s.raiseTimes k n).progs = s.progs ∧ (s.raiseTimes k n).fcu = s.fcu ∧ (s.raiseTimes k n).rsp = s.rsp
      ∧ (s.raiseTimes k n).gau = s.gau ∧ (s.raiseTimes k n).pcu = s.pcu ∧ (s.raiseTimes k n).ldu = s.ldu
      ∧ (s.raiseTimes k n).ltu = s.ltu ∧ (s.raiseTimes k n).sku = s.sku ∧ (s.raiseTimes k n).mgu = s.mgu
      ∧ (s.raiseTimes k n).pending = s.pending := by 
  induction n generalizing s with
  | zero => simp [State.raiseTimes]
  | succ n ih => simp [State.raiseTimes, ih]

/-! ### Gate Accumulation Unit -/

/-- `State.openBank` leaves these alone. -/
@[simp] theorem State.openBank_frame (s : State) (p : Prog) (b : Fin 6) :
    (s.openBank p b).progs = s.progs ∧ (s.openBank p b).fcu = s.fcu ∧ (s.openBank p b).rsp = s.rsp
      ∧ (s.openBank p b).pcu = s.pcu ∧ (s.openBank p b).ldu = s.ldu ∧ (s.openBank p b).ltu = s.ltu
      ∧ (s.openBank p b).sku = s.sku ∧ (s.openBank p b).slc = s.slc ∧ (s.openBank p b).mgu = s.mgu
      ∧ (s.openBank p b).pending = s.pending := by simp [State.openBank]

/-- `State.starve` leaves these alone. -/
@[simp] theorem State.starve_frame (s : State) (p : Prog) :
    (s.starve p).progs = s.progs ∧ (s.starve p).fcu = s.fcu ∧ (s.starve p).rsp = s.rsp
      ∧ (s.starve p).pcu = s.pcu ∧ (s.starve p).ldu = s.ldu ∧ (s.starve p).ltu = s.ltu
      ∧ (s.starve p).sku = s.sku ∧ (s.starve p).mgu = s.mgu
      ∧ (s.starve p).pending = s.pending := by simp only [State.starve]; (repeat' split) <;> simp_all

/-- `State.bankRequest` leaves these alone. -/
@[simp] theorem State.bankRequest_frame (s : State) (p : Prog) :
    (s.bankRequest p).1.progs = s.progs ∧ (s.bankRequest p).1.fcu = s.fcu
      ∧ (s.bankRequest p).1.rsp = s.rsp ∧ (s.bankRequest p).1.pcu = s.pcu
      ∧ (s.bankRequest p).1.ldu = s.ldu ∧ (s.bankRequest p).1.ltu = s.ltu
      ∧ (s.bankRequest p).1.sku = s.sku ∧ (s.bankRequest p).1.mgu = s.mgu
      ∧ (s.bankRequest p).1.pending = s.pending := by simp only [State.bankRequest]; (repeat' split) <;> simp_all

/-- `State.closeBank` leaves these alone. -/
@[simp] theorem State.closeBank_frame (s : State) (b : Fin 6) :
    (s.closeBank b).progs = s.progs ∧ (s.closeBank b).fcu = s.fcu ∧ (s.closeBank b).rsp = s.rsp
      ∧ (s.closeBank b).pcu = s.pcu ∧ (s.closeBank b).ldu = s.ldu ∧ (s.closeBank b).ltu = s.ltu
      ∧ (s.closeBank b).sku = s.sku ∧ (s.closeBank b).slc = s.slc ∧ (s.closeBank b).mgu = s.mgu
      ∧ (s.closeBank b).pending = s.pending := by simp [State.closeBank]

/-- `State.closeIfDone` leaves these alone. -/
@[simp] theorem State.closeIfDone_frame (s : State) (b : Fin 6) :
    (s.closeIfDone b).progs = s.progs ∧ (s.closeIfDone b).fcu = s.fcu ∧ (s.closeIfDone b).rsp = s.rsp
      ∧ (s.closeIfDone b).pcu = s.pcu ∧ (s.closeIfDone b).ldu = s.ldu ∧ (s.closeIfDone b).ltu = s.ltu
      ∧ (s.closeIfDone b).sku = s.sku ∧ (s.closeIfDone b).slc = s.slc ∧ (s.closeIfDone b).mgu = s.mgu
      ∧ (s.closeIfDone b).pending = s.pending := by simp only [State.closeIfDone]; (repeat' split) <;> simp_all

/-- `State.countSlot` leaves these alone. -/
@[simp] theorem State.countSlot_frame (s : State) (b : Fin 6) (t : Option (Fin 32)) :
    (s.countSlot b t).progs = s.progs ∧ (s.countSlot b t).fcu = s.fcu ∧ (s.countSlot b t).rsp = s.rsp
      ∧ (s.countSlot b t).pcu = s.pcu ∧ (s.countSlot b t).ldu = s.ldu ∧ (s.countSlot b t).ltu = s.ltu
      ∧ (s.countSlot b t).sku = s.sku ∧ (s.countSlot b t).slc = s.slc ∧ (s.countSlot b t).mgu = s.mgu
      ∧ (s.countSlot b t).pending = s.pending := by simp only [State.countSlot]; (repeat' split) <;> simp_all

/-- `State.openStaging` leaves these alone. -/
@[simp] theorem State.openStaging_frame (s : State) (r : OpenReq) :
    (s.openStaging r).progs = s.progs ∧ (s.openStaging r).fcu = s.fcu ∧ (s.openStaging r).rsp = s.rsp
      ∧ (s.openStaging r).pcu = s.pcu ∧ (s.openStaging r).ldu = s.ldu ∧ (s.openStaging r).ltu = s.ltu
      ∧ (s.openStaging r).sku = s.sku ∧ (s.openStaging r).slc = s.slc ∧ (s.openStaging r).mgu = s.mgu
      ∧ (s.openStaging r).ctrs = s.ctrs
      ∧ (s.openStaging r).pending = s.pending := by simp only [State.openStaging]; (repeat' split) <;> simp_all

/-- `State.discardStaging` leaves these alone. -/
@[simp] theorem State.discardStaging_frame (s : State) :
    (s.discardStaging).progs = s.progs ∧ (s.discardStaging).fcu = s.fcu ∧ (s.discardStaging).rsp = s.rsp
      ∧ (s.discardStaging).pcu = s.pcu ∧ (s.discardStaging).ldu = s.ldu ∧ (s.discardStaging).ltu = s.ltu
      ∧ (s.discardStaging).sku = s.sku ∧ (s.discardStaging).slc = s.slc ∧ (s.discardStaging).mgu = s.mgu
      ∧ (s.discardStaging).ctrs = s.ctrs
      ∧ (s.discardStaging).pending = s.pending := by simp [State.discardStaging]

/-- `State.binSample` leaves these alone. -/
@[simp] theorem State.binSample_frame (s : State) (k c : Nat) (b : Bool) :
    (s.binSample k c b).progs = s.progs ∧ (s.binSample k c b).fcu = s.fcu
      ∧ (s.binSample k c b).rsp = s.rsp ∧ (s.binSample k c b).pcu = s.pcu
      ∧ (s.binSample k c b).ldu = s.ldu ∧ (s.binSample k c b).ltu = s.ltu
      ∧ (s.binSample k c b).sku = s.sku ∧ (s.binSample k c b).slc = s.slc
      ∧ (s.binSample k c b).mgu = s.mgu ∧ (s.binSample k c b).ctrs = s.ctrs
      ∧ (s.binSample k c b).pending = s.pending := by simp only [State.binSample]; (repeat' split) <;> simp_all

/-- `State.commitFire` leaves these alone. -/
@[simp] theorem State.commitFire_frame (s : State) (t : Fin 32) :
    (s.commitFire t).progs = s.progs ∧ (s.commitFire t).fcu = s.fcu ∧ (s.commitFire t).rsp = s.rsp
      ∧ (s.commitFire t).pcu = s.pcu ∧ (s.commitFire t).ldu = s.ldu ∧ (s.commitFire t).ltu = s.ltu
      ∧ (s.commitFire t).sku = s.sku ∧ (s.commitFire t).slc = s.slc ∧ (s.commitFire t).mgu = s.mgu
      ∧ (s.commitFire t).ctrs = s.ctrs
      ∧ (s.commitFire t).pending = s.pending := by simp only [State.commitFire]; (repeat' split) <;> simp_all

/-- `State.commitDark` leaves these alone. -/
@[simp] theorem State.commitDark_frame (s : State) (p : Prog) :
    (s.commitDark p).progs = s.progs ∧ (s.commitDark p).fcu = s.fcu ∧ (s.commitDark p).rsp = s.rsp
      ∧ (s.commitDark p).pcu = s.pcu ∧ (s.commitDark p).ldu = s.ldu ∧ (s.commitDark p).ltu = s.ltu
      ∧ (s.commitDark p).sku = s.sku ∧ (s.commitDark p).slc = s.slc ∧ (s.commitDark p).mgu = s.mgu
      ∧ (s.commitDark p).pending = s.pending := by simp only [State.commitDark]; (repeat' split) <;> simp_all

/-- `State.settleOwn` leaves these alone. -/
@[simp] theorem State.settleOwn_frame (s : State) (t : Fin 32) :
    (s.settleOwn t).progs = s.progs ∧ (s.settleOwn t).fcu = s.fcu ∧ (s.settleOwn t).rsp = s.rsp
      ∧ (s.settleOwn t).pcu = s.pcu ∧ (s.settleOwn t).ldu = s.ldu ∧ (s.settleOwn t).ltu = s.ltu
      ∧ (s.settleOwn t).sku = s.sku ∧ (s.settleOwn t).slc = s.slc ∧ (s.settleOwn t).mgu = s.mgu
      ∧ (s.settleOwn t).pending = s.pending := by simp only [State.settleOwn]; (repeat' split) <;> simp_all

/-- `State.abandon` leaves these alone. -/
@[simp] theorem State.abandon_frame (s : State) :
    (s.abandon).progs = s.progs ∧ (s.abandon).fcu = s.fcu ∧ (s.abandon).rsp = s.rsp
      ∧ (s.abandon).pcu = s.pcu ∧ (s.abandon).ldu = s.ldu ∧ (s.abandon).ltu = s.ltu
      ∧ (s.abandon).sku = s.sku ∧ (s.abandon).slc = s.slc ∧ (s.abandon).mgu = s.mgu
      ∧ (s.abandon).pending = s.pending := by simp [State.abandon]

/-! ### Fire Control Unit -/

/-- `State.dropBurst` leaves these alone. -/
@[simp] theorem State.dropBurst_frame (s : State) :
    (s.dropBurst).progs = s.progs ∧ (s.dropBurst).fcu = s.fcu ∧ (s.dropBurst).gau = s.gau
      ∧ (s.dropBurst).pcu = s.pcu ∧ (s.dropBurst).ldu = s.ldu ∧ (s.dropBurst).ltu = s.ltu
      ∧ (s.dropBurst).sku = s.sku ∧ (s.dropBurst).slc = s.slc ∧ (s.dropBurst).mgu = s.mgu
      ∧ (s.dropBurst).pending = s.pending := by simp only [State.dropBurst]; (repeat' split) <;> simp_all

/-- `State.clearInjections` leaves these alone. -/
@[simp] theorem State.clearInjections_frame (s : State) :
    (s.clearInjections).progs = s.progs ∧ (s.clearInjections).fcu = s.fcu
      ∧ (s.clearInjections).rsp = s.rsp ∧ (s.clearInjections).gau = s.gau
      ∧ (s.clearInjections).ldu = s.ldu ∧ (s.clearInjections).ltu = s.ltu
      ∧ (s.clearInjections).sku = s.sku ∧ (s.clearInjections).slc = s.slc
      ∧ (s.clearInjections).mgu = s.mgu
      ∧ (s.clearInjections).pending = s.pending := by simp [State.clearInjections]

/-- `State.ceaseFire` leaves these alone. -/
@[simp] theorem State.ceaseFire_frame (s : State) :
    (s.ceaseFire).progs = s.progs ∧ (s.ceaseFire).ldu = s.ldu ∧ (s.ceaseFire).ltu = s.ltu
      ∧ (s.ceaseFire).sku = s.sku ∧ (s.ceaseFire).slc = s.slc ∧ (s.ceaseFire).mgu = s.mgu
      ∧ (s.ceaseFire).pending = s.pending := by simp [State.ceaseFire]

/-- `State.tripFcu` leaves these alone. -/
@[simp] theorem State.tripFcu_frame (s : State) (c : TripCause) (t : Fin 32) :
    (s.tripFcu c t).progs = s.progs ∧ (s.tripFcu c t).ldu = s.ldu ∧ (s.tripFcu c t).ltu = s.ltu
      ∧ (s.tripFcu c t).sku = s.sku ∧ (s.tripFcu c t).mgu = s.mgu
      ∧ (s.tripFcu c t).pending = s.pending := by simp [State.tripFcu]

/-- `State.enterCharge` leaves these alone. -/
@[simp] theorem State.enterCharge_frame (s : State) (n : Nat) :
    (s.enterCharge n).progs = s.progs ∧ (s.enterCharge n).rsp = s.rsp ∧ (s.enterCharge n).gau = s.gau
      ∧ (s.enterCharge n).pcu = s.pcu ∧ (s.enterCharge n).ldu = s.ldu ∧ (s.enterCharge n).ltu = s.ltu
      ∧ (s.enterCharge n).sku = s.sku ∧ (s.enterCharge n).slc = s.slc ∧ (s.enterCharge n).mgu = s.mgu
      ∧ (s.enterCharge n).ctrs = s.ctrs
      ∧ (s.enterCharge n).pending = s.pending := by simp [State.enterCharge]

/-- `State.pulse` leaves these alone. -/
@[simp] theorem State.pulse_frame (s : State) (a b : Bool) :
    (s.pulse a b).progs = s.progs ∧ (s.pulse a b).rsp = s.rsp ∧ (s.pulse a b).gau = s.gau
      ∧ (s.pulse a b).pcu = s.pcu ∧ (s.pulse a b).ldu = s.ldu ∧ (s.pulse a b).ltu = s.ltu
      ∧ (s.pulse a b).sku = s.sku ∧ (s.pulse a b).slc = s.slc ∧ (s.pulse a b).mgu = s.mgu
      ∧ (s.pulse a b).ctrs = s.ctrs ∧ (s.pulse a b).pending = s.pending := by simp [State.pulse]

/-- `State.setShot` leaves these alone. -/
@[simp] theorem State.setShot_frame (s : State) (k : ShotKind) (p : Prog) :
    (s.setShot k p).progs = s.progs ∧ (s.setShot k p).rsp = s.rsp ∧ (s.setShot k p).gau = s.gau
      ∧ (s.setShot k p).pcu = s.pcu ∧ (s.setShot k p).ldu = s.ldu ∧ (s.setShot k p).ltu = s.ltu
      ∧ (s.setShot k p).sku = s.sku ∧ (s.setShot k p).slc = s.slc ∧ (s.setShot k p).mgu = s.mgu
      ∧ (s.setShot k p).ctrs = s.ctrs ∧ (s.setShot k p).pending = s.pending := by simp [State.setShot]

/-- `State.fireShot` leaves these alone. -/
@[simp] theorem State.fireShot_frame (s : State) (p : Prog) :
    (s.fireShot p).progs = s.progs ∧ (s.fireShot p).rsp = s.rsp ∧ (s.fireShot p).gau = s.gau
      ∧ (s.fireShot p).pcu = s.pcu ∧ (s.fireShot p).ldu = s.ldu ∧ (s.fireShot p).ltu = s.ltu
      ∧ (s.fireShot p).sku = s.sku ∧ (s.fireShot p).slc = s.slc ∧ (s.fireShot p).mgu = s.mgu
      ∧ (s.fireShot p).pending = s.pending := by simp [State.fireShot]

/-- `State.fireDark` leaves these alone. -/
@[simp] theorem State.fireDark_frame (s : State) (p : Prog) :
    (s.fireDark p).progs = s.progs ∧ (s.fireDark p).rsp = s.rsp ∧ (s.fireDark p).gau = s.gau
      ∧ (s.fireDark p).pcu = s.pcu ∧ (s.fireDark p).ldu = s.ldu ∧ (s.fireDark p).ltu = s.ltu
      ∧ (s.fireDark p).sku = s.sku ∧ (s.fireDark p).slc = s.slc ∧ (s.fireDark p).mgu = s.mgu
      ∧ (s.fireDark p).pending = s.pending := by simp [State.fireDark]

/-- `State.holdBudget` leaves these alone. -/
@[simp] theorem State.holdBudget_frame (s : State) :
    (s.holdBudget).progs = s.progs ∧ (s.holdBudget).rsp = s.rsp ∧ (s.holdBudget).gau = s.gau
      ∧ (s.holdBudget).pcu = s.pcu ∧ (s.holdBudget).ldu = s.ldu ∧ (s.holdBudget).ltu = s.ltu
      ∧ (s.holdBudget).sku = s.sku ∧ (s.holdBudget).mgu = s.mgu
      ∧ (s.holdBudget).pending = s.pending := by simp only [State.holdBudget]; (repeat' split) <;> simp_all

/-- `State.fireSlot` leaves these alone. -/
@[simp] theorem State.fireSlot_frame (s : State) (p : Prog) (b : Fin 6) :
    (s.fireSlot p b).progs = s.progs ∧ (s.fireSlot p b).rsp = s.rsp ∧ (s.fireSlot p b).pcu = s.pcu
      ∧ (s.fireSlot p b).ldu = s.ldu ∧ (s.fireSlot p b).ltu = s.ltu ∧ (s.fireSlot p b).sku = s.sku
      ∧ (s.fireSlot p b).mgu = s.mgu
      ∧ (s.fireSlot p b).pending = s.pending := by simp only [State.fireSlot]; (repeat' split) <;> simp_all

/-- `State.slotRunning` leaves these alone. -/
@[simp] theorem State.slotRunning_frame (s : State) :
    (s.slotRunning).progs = s.progs ∧ (s.slotRunning).rsp = s.rsp ∧ (s.slotRunning).pcu = s.pcu
      ∧ (s.slotRunning).ldu = s.ldu ∧ (s.slotRunning).ltu = s.ltu ∧ (s.slotRunning).sku = s.sku
      ∧ (s.slotRunning).mgu = s.mgu ∧ (s.slotRunning).pending = s.pending := by 
  unfold State.slotRunning; split
  · simp
  · split
    · split <;> simp
    · simp
  · split
    · rename_i p _ _
      have h := State.bankRequest_frame s p
      split <;> rename_i e <;> rw [e] at h <;> simp at h <;> simp [h]
    · simp

/-- `State.pathSlot` leaves these alone. -/
@[simp] theorem State.pathSlot_frame (s : State) :
    (s.pathSlot).progs = s.progs ∧ (s.pathSlot).gau = s.gau ∧ (s.pathSlot).pcu = s.pcu
      ∧ (s.pathSlot).ldu = s.ldu ∧ (s.pathSlot).ltu = s.ltu ∧ (s.pathSlot).sku = s.sku
      ∧ (s.pathSlot).slc = s.slc ∧ (s.pathSlot).mgu = s.mgu ∧ (s.pathSlot).ctrs = s.ctrs
      ∧ (s.pathSlot).pending = s.pending := by simp only [State.pathSlot]; (repeat' split) <;> simp_all

/-- `State.slotIdle` leaves these alone. -/
@[simp] theorem State.slotIdle_frame (s : State) :
    (s.slotIdle).progs = s.progs ∧ (s.slotIdle).gau = s.gau ∧ (s.slotIdle).pcu = s.pcu
      ∧ (s.slotIdle).ldu = s.ldu ∧ (s.slotIdle).ltu = s.ltu ∧ (s.slotIdle).sku = s.sku
      ∧ (s.slotIdle).slc = s.slc ∧ (s.slotIdle).mgu = s.mgu ∧ (s.slotIdle).ctrs = s.ctrs
      ∧ (s.slotIdle).pending = s.pending := by simp only [State.slotIdle]; (repeat' split) <;> simp_all

/-- `State.slot` leaves these alone. -/
@[simp] theorem State.slot_frame (s : State) :
    (s.slot).progs = s.progs ∧ (s.slot).pcu = s.pcu ∧ (s.slot).ldu = s.ldu ∧ (s.slot).ltu = s.ltu
      ∧ (s.slot).sku = s.sku ∧ (s.slot).mgu = s.mgu
      ∧ (s.slot).pending = s.pending := by simp only [State.slot]; (repeat' split) <;> simp_all

/-- `State.feedServo` leaves these alone. -/
@[simp] theorem State.feedServo_frame (s : State) (p : Prog) (e : Nat) :
    (s.feedServo p e).progs = s.progs ∧ (s.feedServo p e).rsp = s.rsp ∧ (s.feedServo p e).gau = s.gau
      ∧ (s.feedServo p e).pcu = s.pcu ∧ (s.feedServo p e).ldu = s.ldu ∧ (s.feedServo p e).ltu = s.ltu
      ∧ (s.feedServo p e).sku = s.sku ∧ (s.feedServo p e).mgu = s.mgu
      ∧ (s.feedServo p e).pending = s.pending := by simp only [State.feedServo]; (repeat' split) <;> simp_all

/-- `State.matchShot` leaves these alone. -/
@[simp] theorem State.matchShot_frame (s : State) (sh : Shot) :
    (s.matchShot sh).progs = s.progs ∧ (s.matchShot sh).rsp = s.rsp ∧ (s.matchShot sh).gau = s.gau
      ∧ (s.matchShot sh).pcu = s.pcu ∧ (s.matchShot sh).ldu = s.ldu ∧ (s.matchShot sh).ltu = s.ltu
      ∧ (s.matchShot sh).sku = s.sku ∧ (s.matchShot sh).slc = s.slc ∧ (s.matchShot sh).mgu = s.mgu
      ∧ (s.matchShot sh).ctrs = s.ctrs
      ∧ (s.matchShot sh).pending = s.pending := by simp [State.matchShot]

/-- `State.judgeWeak` leaves these alone. -/
@[simp] theorem State.judgeWeak_frame (s : State) (sh : Shot) (e : Nat) :
    (s.judgeWeak sh e).progs = s.progs ∧ (s.judgeWeak sh e).ldu = s.ldu ∧ (s.judgeWeak sh e).ltu = s.ltu
      ∧ (s.judgeWeak sh e).sku = s.sku ∧ (s.judgeWeak sh e).mgu = s.mgu
      ∧ (s.judgeWeak sh e).pending = s.pending := by simp only [State.judgeWeak]; (repeat' split) <;> simp_all

/-- `State.judgeFire` leaves these alone. -/
@[simp] theorem State.judgeFire_frame (s : State) (sh : Shot) (e : Nat) :
    (s.judgeFire sh e).progs = s.progs ∧ (s.judgeFire sh e).ldu = s.ldu ∧ (s.judgeFire sh e).ltu = s.ltu
      ∧ (s.judgeFire sh e).sku = s.sku ∧ (s.judgeFire sh e).mgu = s.mgu
      ∧ (s.judgeFire sh e).pending = s.pending := by simp only [State.judgeFire]; (repeat' split) <;> simp_all

/-- `State.judgeDark` leaves these alone. -/
@[simp] theorem State.judgeDark_frame (s : State) (sh : Shot) (e : Nat) :
    (s.judgeDark sh e).progs = s.progs ∧ (s.judgeDark sh e).ldu = s.ldu ∧ (s.judgeDark sh e).ltu = s.ltu
      ∧ (s.judgeDark sh e).sku = s.sku ∧ (s.judgeDark sh e).mgu = s.mgu
      ∧ (s.judgeDark sh e).pending = s.pending := by simp only [State.judgeDark]; (repeat' split) <;> simp_all

/-- `State.judge` leaves these alone. -/
@[simp] theorem State.judge_frame (s : State) (sh : Shot) (e : Nat) :
    (s.judge sh e).progs = s.progs ∧ (s.judge sh e).ldu = s.ldu ∧ (s.judge sh e).ltu = s.ltu
      ∧ (s.judge sh e).sku = s.sku ∧ (s.judge sh e).mgu = s.mgu
      ∧ (s.judge sh e).pending = s.pending := by simp only [State.judge]; (repeat' split) <;> simp_all

/-- `State.settleShot` leaves these alone. -/
@[simp] theorem State.settleShot_frame (s : State) (sh : Shot) (f : Fate) :
    (s.settleShot sh f).progs = s.progs ∧ (s.settleShot sh f).rsp = s.rsp
      ∧ (s.settleShot sh f).pcu = s.pcu ∧ (s.settleShot sh f).ldu = s.ldu
      ∧ (s.settleShot sh f).ltu = s.ltu ∧ (s.settleShot sh f).sku = s.sku
      ∧ (s.settleShot sh f).slc = s.slc ∧ (s.settleShot sh f).mgu = s.mgu
      ∧ (s.settleShot sh f).pending = s.pending := by simp only [State.settleShot]; (repeat' split) <;> simp_all

/-- `State.loseShot` leaves these alone. -/
@[simp] theorem State.loseShot_frame (s : State) (sh : Shot) :
    (s.loseShot sh).progs = s.progs ∧ (s.loseShot sh).ldu = s.ldu ∧ (s.loseShot sh).ltu = s.ltu
      ∧ (s.loseShot sh).sku = s.sku ∧ (s.loseShot sh).mgu = s.mgu
      ∧ (s.loseShot sh).pending = s.pending := by simp only [State.loseShot]; (repeat' split) <;> simp_all

/-! ### Receiver Sample Port -/

/-- `State.wordArrives` leaves these alone. -/
@[simp] theorem State.wordArrives_frame (s : State) (w : Word) :
    (s.wordArrives w).progs = s.progs ∧ (s.wordArrives w).fcu = s.fcu ∧ (s.wordArrives w).gau = s.gau
      ∧ (s.wordArrives w).pcu = s.pcu ∧ (s.wordArrives w).ldu = s.ldu ∧ (s.wordArrives w).ltu = s.ltu
      ∧ (s.wordArrives w).sku = s.sku ∧ (s.wordArrives w).mgu = s.mgu
      ∧ (s.wordArrives w).pending = s.pending := by simp only [State.wordArrives]; (repeat' split) <;> simp_all

/-- `State.settlePath` leaves these alone. -/
@[simp] theorem State.settlePath_frame (s : State) :
    (s.settlePath).progs = s.progs ∧ (s.settlePath).fcu = s.fcu ∧ (s.settlePath).gau = s.gau
      ∧ (s.settlePath).pcu = s.pcu ∧ (s.settlePath).ldu = s.ldu ∧ (s.settlePath).ltu = s.ltu
      ∧ (s.settlePath).sku = s.sku ∧ (s.settlePath).slc = s.slc ∧ (s.settlePath).mgu = s.mgu
      ∧ (s.settlePath).ctrs = s.ctrs ∧ (s.settlePath).pending = s.pending := by simp [State.settlePath]

/-- `State.parserTo` leaves these alone. -/
@[simp] theorem State.parserTo_frame (s : State) (p : Parser) :
    (s.parserTo p).progs = s.progs ∧ (s.parserTo p).fcu = s.fcu ∧ (s.parserTo p).gau = s.gau
      ∧ (s.parserTo p).pcu = s.pcu ∧ (s.parserTo p).ldu = s.ldu ∧ (s.parserTo p).ltu = s.ltu
      ∧ (s.parserTo p).sku = s.sku ∧ (s.parserTo p).slc = s.slc ∧ (s.parserTo p).mgu = s.mgu
      ∧ (s.parserTo p).ctrs = s.ctrs ∧ (s.parserTo p).pending = s.pending := by simp [State.parserTo]

/-- `State.rejectCapture` leaves these alone. -/
@[simp] theorem State.rejectCapture_frame (s : State) (b : Bool) :
    (s.rejectCapture b).progs = s.progs ∧ (s.rejectCapture b).pcu = s.pcu
      ∧ (s.rejectCapture b).ldu = s.ldu ∧ (s.rejectCapture b).ltu = s.ltu
      ∧ (s.rejectCapture b).sku = s.sku ∧ (s.rejectCapture b).slc = s.slc
      ∧ (s.rejectCapture b).mgu = s.mgu
      ∧ (s.rejectCapture b).pending = s.pending := by simp only [State.rejectCapture]; (repeat' split) <;> simp_all

/-- `State.rejectBurst` leaves these alone. -/
@[simp] theorem State.rejectBurst_frame (s : State) (b : Burst) :
    (s.rejectBurst b).progs = s.progs ∧ (s.rejectBurst b).pcu = s.pcu ∧ (s.rejectBurst b).ldu = s.ldu
      ∧ (s.rejectBurst b).ltu = s.ltu ∧ (s.rejectBurst b).sku = s.sku ∧ (s.rejectBurst b).slc = s.slc
      ∧ (s.rejectBurst b).mgu = s.mgu
      ∧ (s.rejectBurst b).pending = s.pending := by simp [State.rejectBurst]

/-- `State.completeBurst` leaves these alone. -/
@[simp] theorem State.completeBurst_frame (s : State) (b : Burst) :
    (s.completeBurst b).progs = s.progs ∧ (s.completeBurst b).pcu = s.pcu
      ∧ (s.completeBurst b).ldu = s.ldu ∧ (s.completeBurst b).ltu = s.ltu
      ∧ (s.completeBurst b).sku = s.sku ∧ (s.completeBurst b).slc = s.slc
      ∧ (s.completeBurst b).mgu = s.mgu
      ∧ (s.completeBurst b).pending = s.pending := by simp only [State.completeBurst]; (repeat' split) <;> simp_all

/-- `State.failHeader` leaves these alone. -/
@[simp] theorem State.failHeader_frame (s : State) :
    (s.failHeader).progs = s.progs ∧ (s.failHeader).fcu = s.fcu ∧ (s.failHeader).gau = s.gau
      ∧ (s.failHeader).pcu = s.pcu ∧ (s.failHeader).ldu = s.ldu ∧ (s.failHeader).ltu = s.ltu
      ∧ (s.failHeader).sku = s.sku ∧ (s.failHeader).slc = s.slc ∧ (s.failHeader).mgu = s.mgu
      ∧ (s.failHeader).pending = s.pending := by simp [State.failHeader]

/-- `State.enterSamples` leaves these alone. -/
@[simp] theorem State.enterSamples_frame (s : State) (b : Bool) (t : Byte) (n : Nat) :
    (s.enterSamples b t n).progs = s.progs ∧ (s.enterSamples b t n).fcu = s.fcu
      ∧ (s.enterSamples b t n).gau = s.gau ∧ (s.enterSamples b t n).pcu = s.pcu
      ∧ (s.enterSamples b t n).ldu = s.ldu ∧ (s.enterSamples b t n).ltu = s.ltu
      ∧ (s.enterSamples b t n).sku = s.sku ∧ (s.enterSamples b t n).slc = s.slc
      ∧ (s.enterSamples b t n).mgu = s.mgu ∧ (s.enterSamples b t n).ctrs = s.ctrs
      ∧ (s.enterSamples b t n).pending = s.pending := by simp [State.enterSamples]

/-- `State.pathHeader` leaves these alone. -/
@[simp] theorem State.pathHeader_frame (s : State) (c : PathCapture) (m w : Word) :
    (s.pathHeader c m w).progs = s.progs ∧ (s.pathHeader c m w).pcu = s.pcu
      ∧ (s.pathHeader c m w).ldu = s.ldu ∧ (s.pathHeader c m w).ltu = s.ltu
      ∧ (s.pathHeader c m w).sku = s.sku ∧ (s.pathHeader c m w).slc = s.slc
      ∧ (s.pathHeader c m w).mgu = s.mgu
      ∧ (s.pathHeader c m w).pending = s.pending := by simp only [State.pathHeader]; (repeat' split) <;> simp_all

/-- `State.shotHeader` leaves these alone. -/
@[simp] theorem State.shotHeader_frame (s : State) (sh : Shot) (m r w : Word) :
    (s.shotHeader sh m r w).progs = s.progs ∧ (s.shotHeader sh m r w).ldu = s.ldu
      ∧ (s.shotHeader sh m r w).ltu = s.ltu ∧ (s.shotHeader sh m r w).sku = s.sku
      ∧ (s.shotHeader sh m r w).mgu = s.mgu
      ∧ (s.shotHeader sh m r w).pending = s.pending := by simp only [State.shotHeader]; (repeat' split) <;> simp_all

/-- `State.takeHeader` leaves these alone. -/
@[simp] theorem State.takeHeader_frame (s : State) (m r w : Word) :
    (s.takeHeader m r w).progs = s.progs ∧ (s.takeHeader m r w).ldu = s.ldu
      ∧ (s.takeHeader m r w).ltu = s.ltu ∧ (s.takeHeader m r w).sku = s.sku
      ∧ (s.takeHeader m r w).mgu = s.mgu
      ∧ (s.takeHeader m r w).pending = s.pending := by simp only [State.takeHeader]; (repeat' split) <;> simp_all

/-- `State.compareWord` leaves these alone. -/
@[simp] theorem State.compareWord_frame (s : State) (b : Burst) (w : Word) :
    (s.compareWord b w).progs = s.progs ∧ (s.compareWord b w).fcu = s.fcu
      ∧ (s.compareWord b w).gau = s.gau ∧ (s.compareWord b w).pcu = s.pcu
      ∧ (s.compareWord b w).ldu = s.ldu ∧ (s.compareWord b w).ltu = s.ltu
      ∧ (s.compareWord b w).sku = s.sku ∧ (s.compareWord b w).mgu = s.mgu
      ∧ (s.compareWord b w).pending = s.pending := by simp only [State.compareWord]; (repeat' split) <;> simp_all

/-- `State.passSample` leaves these alone. -/
@[simp] theorem State.passSample_frame (s : State) (k : Nat) (w : Word) :
    (s.passSample k w).progs = s.progs ∧ (s.passSample k w).fcu = s.fcu ∧ (s.passSample k w).rsp = s.rsp
      ∧ (s.passSample k w).pcu = s.pcu ∧ (s.passSample k w).ldu = s.ldu ∧ (s.passSample k w).ltu = s.ltu
      ∧ (s.passSample k w).sku = s.sku ∧ (s.passSample k w).slc = s.slc ∧ (s.passSample k w).mgu = s.mgu
      ∧ (s.passSample k w).pending = s.pending := by simp only [State.passSample]; (repeat' split) <;> simp_all

/-- `State.takeSample` leaves these alone. -/
@[simp] theorem State.takeSample_frame (s : State) (b : Burst) (w : Word) :
    (s.takeSample b w).progs = s.progs ∧ (s.takeSample b w).pcu = s.pcu ∧ (s.takeSample b w).ldu = s.ldu
      ∧ (s.takeSample b w).ltu = s.ltu ∧ (s.takeSample b w).sku = s.sku ∧ (s.takeSample b w).mgu = s.mgu
      ∧ (s.takeSample b w).pending = s.pending := by simp only [State.takeSample]; (repeat' split) <;> simp_all

/-- `State.takeMark` leaves these alone. -/
@[simp] theorem State.takeMark_frame (s : State) (w : Word) :
    (s.takeMark w).progs = s.progs ∧ (s.takeMark w).pcu = s.pcu ∧ (s.takeMark w).ldu = s.ldu
      ∧ (s.takeMark w).ltu = s.ltu ∧ (s.takeMark w).sku = s.sku ∧ (s.takeMark w).mgu = s.mgu
      ∧ (s.takeMark w).pending = s.pending := by simp only [State.takeMark]; (repeat' split) <;> simp_all

/-- `State.takeOther` leaves these alone. -/
@[simp] theorem State.takeOther_frame (s : State) (w : Word) :
    (s.takeOther w).progs = s.progs ∧ (s.takeOther w).ldu = s.ldu ∧ (s.takeOther w).ltu = s.ltu
      ∧ (s.takeOther w).sku = s.sku ∧ (s.takeOther w).mgu = s.mgu
      ∧ (s.takeOther w).pending = s.pending := by simp only [State.takeOther]; (repeat' split) <;> simp_all

/-- `State.reachSlip` leaves these alone. -/
@[simp] theorem State.reachSlip_frame (s : State) :
    (s.reachSlip).progs = s.progs ∧ (s.reachSlip).pcu = s.pcu ∧ (s.reachSlip).ldu = s.ldu
      ∧ (s.reachSlip).ltu = s.ltu ∧ (s.reachSlip).sku = s.sku ∧ (s.reachSlip).slc = s.slc
      ∧ (s.reachSlip).mgu = s.mgu
      ∧ (s.reachSlip).pending = s.pending := by simp only [State.reachSlip]; (repeat' split) <;> simp_all

/-- `State.reachSlips` leaves these alone. -/
@[simp] theorem State.reachSlips_frame (s : State) :
    (s.reachSlips).progs = s.progs ∧ (s.reachSlips).pcu = s.pcu ∧ (s.reachSlips).ldu = s.ldu
      ∧ (s.reachSlips).ltu = s.ltu ∧ (s.reachSlips).sku = s.sku ∧ (s.reachSlips).slc = s.slc
      ∧ (s.reachSlips).mgu = s.mgu
      ∧ (s.reachSlips).pending = s.pending := by simp only [State.reachSlips]; (repeat' split) <;> simp_all

/-- `State.parserTakes` leaves these alone. -/
@[simp] theorem State.parserTakes_frame (s : State) :
    (s.parserTakes).progs = s.progs ∧ (s.parserTakes).ldu = s.ldu ∧ (s.parserTakes).ltu = s.ltu
      ∧ (s.parserTakes).sku = s.sku ∧ (s.parserTakes).mgu = s.mgu
      ∧ (s.parserTakes).pending = s.pending := by simp only [State.parserTakes]; (repeat' split) <;> simp_all

/-- `State.truncate` leaves these alone. -/
@[simp] theorem State.truncate_frame (s : State) :
    (s.truncate).progs = s.progs ∧ (s.truncate).pcu = s.pcu ∧ (s.truncate).ldu = s.ldu
      ∧ (s.truncate).ltu = s.ltu ∧ (s.truncate).sku = s.sku ∧ (s.truncate).mgu = s.mgu
      ∧ (s.truncate).pending = s.pending := by simp only [State.truncate]; (repeat' split) <;> simp_all

/-- `State.timeoutExpires` leaves these alone. -/
@[simp] theorem State.timeoutExpires_frame (s : State) :
    (s.timeoutExpires).progs = s.progs ∧ (s.timeoutExpires).ldu = s.ldu ∧ (s.timeoutExpires).ltu = s.ltu
      ∧ (s.timeoutExpires).sku = s.sku ∧ (s.timeoutExpires).mgu = s.mgu
      ∧ (s.timeoutExpires).pending = s.pending := by simp only [State.timeoutExpires]; (repeat' split) <;> simp_all

/-- `State.commitEnds` leaves these alone. -/
@[simp] theorem State.commitEnds_frame (s : State) :
    (s.commitEnds).progs = s.progs ∧ (s.commitEnds).fcu = s.fcu ∧ (s.commitEnds).rsp = s.rsp
      ∧ (s.commitEnds).pcu = s.pcu ∧ (s.commitEnds).ldu = s.ldu ∧ (s.commitEnds).ltu = s.ltu
      ∧ (s.commitEnds).sku = s.sku ∧ (s.commitEnds).slc = s.slc ∧ (s.commitEnds).mgu = s.mgu
      ∧ (s.commitEnds).ctrs = s.ctrs
      ∧ (s.commitEnds).pending = s.pending := by simp only [State.commitEnds]; (repeat' split) <;> simp_all

/-! ### Profile Conditioner -/

/-- `State.freeHead` leaves these alone. -/
@[simp] theorem State.freeHead_frame (s : State) (b : Fin 6) :
    (s.freeHead b).progs = s.progs ∧ (s.freeHead b).fcu = s.fcu ∧ (s.freeHead b).rsp = s.rsp
      ∧ (s.freeHead b).pcu = s.pcu ∧ (s.freeHead b).ldu = s.ldu ∧ (s.freeHead b).ltu = s.ltu
      ∧ (s.freeHead b).sku = s.sku ∧ (s.freeHead b).slc = s.slc ∧ (s.freeHead b).mgu = s.mgu
      ∧ (s.freeHead b).pending = s.pending := by simp [State.freeHead]

/-- `State.passVoid` leaves these alone. -/
@[simp] theorem State.passVoid_frame (s : State) (b : Fin 6) (k : Fin 2) :
    (s.passVoid b k).progs = s.progs ∧ (s.passVoid b k).fcu = s.fcu ∧ (s.passVoid b k).rsp = s.rsp
      ∧ (s.passVoid b k).ldu = s.ldu ∧ (s.passVoid b k).ltu = s.ltu ∧ (s.passVoid b k).sku = s.sku
      ∧ (s.passVoid b k).slc = s.slc ∧ (s.passVoid b k).mgu = s.mgu
      ∧ (s.passVoid b k).pending = s.pending := by simp [State.passVoid]

/-- `State.condBegin` leaves these alone. -/
@[simp] theorem State.condBegin_frame (s : State) (b : Fin 6) (k : Fin 2) :
    (s.condBegin b k).progs = s.progs ∧ (s.condBegin b k).fcu = s.fcu ∧ (s.condBegin b k).rsp = s.rsp
      ∧ (s.condBegin b k).ldu = s.ldu ∧ (s.condBegin b k).ltu = s.ltu ∧ (s.condBegin b k).sku = s.sku
      ∧ (s.condBegin b k).slc = s.slc ∧ (s.condBegin b k).mgu = s.mgu
      ∧ (s.condBegin b k).pending = s.pending := by simp only [State.condBegin]; (repeat' split) <;> simp_all

/-- `State.countArith` leaves these alone. -/
@[simp] theorem State.countArith_frame (s : State) (a : Arith) (t : Bool) :
    (s.countArith a t).progs = s.progs ∧ (s.countArith a t).fcu = s.fcu ∧ (s.countArith a t).rsp = s.rsp
      ∧ (s.countArith a t).gau = s.gau ∧ (s.countArith a t).pcu = s.pcu ∧ (s.countArith a t).ldu = s.ldu
      ∧ (s.countArith a t).ltu = s.ltu ∧ (s.countArith a t).sku = s.sku ∧ (s.countArith a t).slc = s.slc
      ∧ (s.countArith a t).mgu = s.mgu
      ∧ (s.countArith a t).pending = s.pending := by simp [State.countArith]

/-- `State.condFinish` leaves these alone. -/
@[simp] theorem State.condFinish_frame (s : State) (j : PcuJob) :
    (s.condFinish j).progs = s.progs ∧ (s.condFinish j).fcu = s.fcu ∧ (s.condFinish j).rsp = s.rsp
      ∧ (s.condFinish j).ldu = s.ldu ∧ (s.condFinish j).ltu = s.ltu ∧ (s.condFinish j).sku = s.sku
      ∧ (s.condFinish j).slc = s.slc ∧ (s.condFinish j).mgu = s.mgu
      ∧ (s.condFinish j).pending = s.pending := by simp [State.condFinish]

/-- `State.countWait` leaves these alone. -/
@[simp] theorem State.countWait_frame (s : State) :
    (s.countWait).progs = s.progs ∧ (s.countWait).fcu = s.fcu ∧ (s.countWait).rsp = s.rsp
      ∧ (s.countWait).pcu = s.pcu ∧ (s.countWait).ldu = s.ldu ∧ (s.countWait).ltu = s.ltu
      ∧ (s.countWait).sku = s.sku ∧ (s.countWait).slc = s.slc ∧ (s.countWait).mgu = s.mgu
      ∧ (s.countWait).pending = s.pending := by simp only [State.countWait]; (repeat' split) <;> simp_all

/-! ### Sky Condition Unit -/

/-- `State.skyStep` leaves these alone. -/
@[simp] theorem State.skyStep_frame (s : State) (m : Summary) :
    (s.skyStep m).progs = s.progs ∧ (s.skyStep m).fcu = s.fcu ∧ (s.skyStep m).rsp = s.rsp
      ∧ (s.skyStep m).gau = s.gau ∧ (s.skyStep m).pcu = s.pcu ∧ (s.skyStep m).ldu = s.ldu
      ∧ (s.skyStep m).ltu = s.ltu ∧ (s.skyStep m).mgu = s.mgu
      ∧ (s.skyStep m).pending = s.pending := by simp only [State.skyStep]; (repeat' split) <;> simp_all

/-- `State.ceilingStep` leaves these alone. -/
@[simp] theorem State.ceilingStep_frame (s : State) :
    (s.ceilingStep).progs = s.progs ∧ (s.ceilingStep).fcu = s.fcu ∧ (s.ceilingStep).rsp = s.rsp
      ∧ (s.ceilingStep).gau = s.gau ∧ (s.ceilingStep).pcu = s.pcu ∧ (s.ceilingStep).ldu = s.ldu
      ∧ (s.ceilingStep).ltu = s.ltu ∧ (s.ceilingStep).mgu = s.mgu
      ∧ (s.ceilingStep).pending = s.pending := by simp only [State.ceilingStep]; (repeat' split) <;> simp_all

/-- `State.triggerStep` leaves these alone. -/
@[simp] theorem State.triggerStep_frame (s : State) (a b : Bool) :
    (s.triggerStep a b).progs = s.progs ∧ (s.triggerStep a b).fcu = s.fcu
      ∧ (s.triggerStep a b).rsp = s.rsp ∧ (s.triggerStep a b).gau = s.gau
      ∧ (s.triggerStep a b).pcu = s.pcu ∧ (s.triggerStep a b).ldu = s.ldu
      ∧ (s.triggerStep a b).ltu = s.ltu ∧ (s.triggerStep a b).slc = s.slc
      ∧ (s.triggerStep a b).mgu = s.mgu
      ∧ (s.triggerStep a b).pending = s.pending := by simp [State.triggerStep]

/-- `State.captureOutcome` leaves these alone. -/
@[simp] theorem State.captureOutcome_frame (s : State) (p : Prog) (e : Bool) :
    (s.captureOutcome p e).progs = s.progs ∧ (s.captureOutcome p e).fcu = s.fcu
      ∧ (s.captureOutcome p e).rsp = s.rsp ∧ (s.captureOutcome p e).gau = s.gau
      ∧ (s.captureOutcome p e).pcu = s.pcu ∧ (s.captureOutcome p e).ldu = s.ldu
      ∧ (s.captureOutcome p e).ltu = s.ltu ∧ (s.captureOutcome p e).slc = s.slc
      ∧ (s.captureOutcome p e).mgu = s.mgu
      ∧ (s.captureOutcome p e).pending = s.pending := by simp only [State.captureOutcome]; (repeat' split) <;> simp_all

/-- `State.reportStep` leaves these alone. -/
@[simp] theorem State.reportStep_frame (s : State) (m : Summary) :
    (s.reportStep m).progs = s.progs ∧ (s.reportStep m).fcu = s.fcu ∧ (s.reportStep m).rsp = s.rsp
      ∧ (s.reportStep m).gau = s.gau ∧ (s.reportStep m).pcu = s.pcu ∧ (s.reportStep m).ldu = s.ldu
      ∧ (s.reportStep m).ltu = s.ltu ∧ (s.reportStep m).mgu = s.mgu
      ∧ (s.reportStep m).pending = s.pending := by simp only [State.reportStep]; (repeat' split) <;> simp_all

/-- `State.evaluate` leaves these alone. -/
@[simp] theorem State.evaluate_frame (s : State) (m : Summary) :
    (s.evaluate m).progs = s.progs ∧ (s.evaluate m).fcu = s.fcu ∧ (s.evaluate m).rsp = s.rsp
      ∧ (s.evaluate m).gau = s.gau ∧ (s.evaluate m).pcu = s.pcu ∧ (s.evaluate m).ldu = s.ldu
      ∧ (s.evaluate m).ltu = s.ltu ∧ (s.evaluate m).mgu = s.mgu
      ∧ (s.evaluate m).pending = s.pending := by simp [State.evaluate]

/-- `State.skyEmptied` leaves these alone. -/
@[simp] theorem State.skyEmptied_frame (s : State) :
    (s.skyEmptied).progs = s.progs ∧ (s.skyEmptied).fcu = s.fcu ∧ (s.skyEmptied).rsp = s.rsp
      ∧ (s.skyEmptied).gau = s.gau ∧ (s.skyEmptied).pcu = s.pcu ∧ (s.skyEmptied).ldu = s.ldu
      ∧ (s.skyEmptied).ltu = s.ltu ∧ (s.skyEmptied).mgu = s.mgu
      ∧ (s.skyEmptied).pending = s.pending := by simp only [State.skyEmptied]; (repeat' split) <;> simp_all

/-! ### Layer Tracker -/

/-- `State.countTracking` leaves these alone. -/
@[simp] theorem State.countTracking_frame (s : State) (r : Tracking) :
    (s.countTracking r).progs = s.progs ∧ (s.countTracking r).fcu = s.fcu
      ∧ (s.countTracking r).rsp = s.rsp ∧ (s.countTracking r).gau = s.gau
      ∧ (s.countTracking r).pcu = s.pcu ∧ (s.countTracking r).ldu = s.ldu
      ∧ (s.countTracking r).ltu = s.ltu ∧ (s.countTracking r).sku = s.sku
      ∧ (s.countTracking r).slc = s.slc ∧ (s.countTracking r).mgu = s.mgu
      ∧ (s.countTracking r).pending = s.pending := by simp [State.countTracking]

/-- `State.raiseTracking` leaves these alone. -/
@[simp] theorem State.raiseTracking_frame (s : State) (r : Tracking) :
    (s.raiseTracking r).progs = s.progs ∧ (s.raiseTracking r).fcu = s.fcu
      ∧ (s.raiseTracking r).rsp = s.rsp ∧ (s.raiseTracking r).gau = s.gau
      ∧ (s.raiseTracking r).pcu = s.pcu ∧ (s.raiseTracking r).ldu = s.ldu
      ∧ (s.raiseTracking r).ltu = s.ltu ∧ (s.raiseTracking r).sku = s.sku
      ∧ (s.raiseTracking r).mgu = s.mgu
      ∧ (s.raiseTracking r).pending = s.pending := by simp [State.raiseTracking]

/-- `State.track` leaves these alone. -/
@[simp] theorem State.track_frame (s : State) (d : Detection) :
    (s.track d).progs = s.progs ∧ (s.track d).fcu = s.fcu ∧ (s.track d).rsp = s.rsp
      ∧ (s.track d).gau = s.gau ∧ (s.track d).pcu = s.pcu ∧ (s.track d).ldu = s.ldu
      ∧ (s.track d).mgu = s.mgu ∧ (s.track d).pending = s.pending := by simp [State.track]

/-! ### Layer Detector and the profile path -/

/-- `State.frameStep` leaves these alone. -/
@[simp] theorem State.frameStep_frame (s : State) (r : ResultRec) (c : Conditioned) (o : Bool) :
    (s.frameStep r c o).progs = s.progs ∧ (s.frameStep r c o).fcu = s.fcu
      ∧ (s.frameStep r c o).rsp = s.rsp ∧ (s.frameStep r c o).gau = s.gau
      ∧ (s.frameStep r c o).pcu = s.pcu ∧ (s.frameStep r c o).ltu = s.ltu
      ∧ (s.frameStep r c o).mgu = s.mgu ∧ (s.frameStep r c o).pending = s.pending := by 
  unfold State.frameStep
  simp only []
  split
  · split <;> simp
  · simp

/-- `State.countScan` leaves these alone. -/
@[simp] theorem State.countScan_frame (s : State) (k : Scan) (f : Found) (a : Bool) :
    (s.countScan k f a).progs = s.progs ∧ (s.countScan k f a).fcu = s.fcu
      ∧ (s.countScan k f a).rsp = s.rsp ∧ (s.countScan k f a).gau = s.gau
      ∧ (s.countScan k f a).pcu = s.pcu ∧ (s.countScan k f a).ldu = s.ldu
      ∧ (s.countScan k f a).ltu = s.ltu ∧ (s.countScan k f a).sku = s.sku
      ∧ (s.countScan k f a).mgu = s.mgu
      ∧ (s.countScan k f a).pending = s.pending := by simp only [State.countScan]; (repeat' split) <;> simp_all

/-- `State.releaseBuf` leaves these alone. -/
@[simp] theorem State.releaseBuf_frame (s : State) (k : Fin 2) (r : ResultRec) (f : Found) :
    (s.releaseBuf k r f).progs = s.progs ∧ (s.releaseBuf k r f).fcu = s.fcu
      ∧ (s.releaseBuf k r f).rsp = s.rsp ∧ (s.releaseBuf k r f).gau = s.gau
      ∧ (s.releaseBuf k r f).ltu = s.ltu ∧ (s.releaseBuf k r f).sku = s.sku
      ∧ (s.releaseBuf k r f).slc = s.slc ∧ (s.releaseBuf k r f).mgu = s.mgu
      ∧ (s.releaseBuf k r f).ctrs = s.ctrs
      ∧ (s.releaseBuf k r f).pending = s.pending := by simp [State.releaseBuf]

/-- `State.finishDetected` leaves these alone. -/
@[simp] theorem State.finishDetected_frame (s : State) (k : Fin 2) (r : ResultRec) (c : Conditioned) (o : List Nat) :
    (s.finishDetected k r c o).progs = s.progs ∧ (s.finishDetected k r c o).fcu = s.fcu
      ∧ (s.finishDetected k r c o).rsp = s.rsp ∧ (s.finishDetected k r c o).gau = s.gau
      ∧ (s.finishDetected k r c o).mgu = s.mgu
      ∧ (s.finishDetected k r c o).pending = s.pending := by simp [State.finishDetected]

/-- `State.finishUnobserved` leaves these alone. -/
@[simp] theorem State.finishUnobserved_frame (s : State) (k : Fin 2) (r : ResultRec) :
    (s.finishUnobserved k r).progs = s.progs ∧ (s.finishUnobserved k r).fcu = s.fcu
      ∧ (s.finishUnobserved k r).rsp = s.rsp ∧ (s.finishUnobserved k r).gau = s.gau
      ∧ (s.finishUnobserved k r).ltu = s.ltu ∧ (s.finishUnobserved k r).mgu = s.mgu
      ∧ (s.finishUnobserved k r).pending = s.pending := by simp only [State.finishUnobserved]; (repeat' split) <;> simp_all

/-- `State.detFinish` leaves these alone. -/
@[simp] theorem State.detFinish_frame (s : State) (j : LduJob) :
    (s.detFinish j).progs = s.progs ∧ (s.detFinish j).fcu = s.fcu ∧ (s.detFinish j).rsp = s.rsp
      ∧ (s.detFinish j).gau = s.gau ∧ (s.detFinish j).mgu = s.mgu
      ∧ (s.detFinish j).pending = s.pending := by simp only [State.detFinish]; (repeat' split) <;> simp_all

/-- `State.detBegin` leaves these alone. -/
@[simp] theorem State.detBegin_frame (s : State) (k : Fin 2) :
    (s.detBegin k).progs = s.progs ∧ (s.detBegin k).fcu = s.fcu ∧ (s.detBegin k).rsp = s.rsp
      ∧ (s.detBegin k).gau = s.gau ∧ (s.detBegin k).mgu = s.mgu
      ∧ (s.detBegin k).pending = s.pending := by simp only [State.detBegin]; (repeat' split) <;> simp_all

/-- `State.pathStep` leaves these alone. -/
theorem State.pathStep_frame {s t : State} (h : s.pathStep = some t) :
    t.progs = s.progs ∧ t.fcu = s.fcu ∧ t.rsp = s.rsp ∧ t.mgu = s.mgu ∧ t.pending = s.pending := by
  unfold State.pathStep at h
  split at h
  · injection h with h; subst h; simp
  · cases hd : s.detReady with
    | none => simp [hd] at h
    | some k => simp [hd] at h; subst h; simp

/-- `State.pathLoop` leaves these alone. -/
@[simp] theorem State.pathLoop_frame (n : Nat) (s : State) :
    (State.pathLoop n s).progs = s.progs ∧ (State.pathLoop n s).fcu = s.fcu
      ∧ (State.pathLoop n s).rsp = s.rsp ∧ (State.pathLoop n s).mgu = s.mgu
      ∧ (State.pathLoop n s).pending = s.pending := by
  induction n generalizing s with
  | zero => simp [State.pathLoop]
  | succ n ih =>
    cases h : s.pathStep with
    | none => simp [State.pathLoop, h]
    | some t => simp [State.pathLoop, h, ih, State.pathStep_frame h]

/-- `State.moveProfiles` leaves these alone. -/
@[simp] theorem State.moveProfiles_frame (s : State) :
    (s.moveProfiles).progs = s.progs ∧ (s.moveProfiles).fcu = s.fcu ∧ (s.moveProfiles).rsp = s.rsp
      ∧ (s.moveProfiles).mgu = s.mgu
      ∧ (s.moveProfiles).pending = s.pending := by unfold State.moveProfiles; simp

/-! ### Station Link Controller -/

/-- `State.intervalSent` leaves these alone. -/
@[simp] theorem State.intervalSent_frame (s : State) :
    (s.intervalSent).progs = s.progs ∧ (s.intervalSent).fcu = s.fcu ∧ (s.intervalSent).rsp = s.rsp
      ∧ (s.intervalSent).gau = s.gau ∧ (s.intervalSent).pcu = s.pcu ∧ (s.intervalSent).ldu = s.ldu
      ∧ (s.intervalSent).ltu = s.ltu ∧ (s.intervalSent).sku = s.sku ∧ (s.intervalSent).mgu = s.mgu
      ∧ (s.intervalSent).pending = s.pending := by simp [State.intervalSent]

/-- `State.offerInterval` leaves these alone. -/
@[simp] theorem State.offerInterval_frame (s : State) :
    (s.offerInterval).progs = s.progs ∧ (s.offerInterval).fcu = s.fcu ∧ (s.offerInterval).rsp = s.rsp
      ∧ (s.offerInterval).gau = s.gau ∧ (s.offerInterval).pcu = s.pcu ∧ (s.offerInterval).ldu = s.ldu
      ∧ (s.offerInterval).ltu = s.ltu ∧ (s.offerInterval).sku = s.sku ∧ (s.offerInterval).mgu = s.mgu
      ∧ (s.offerInterval).pending = s.pending := by 
  have h := State.offer_frame s .interval (intervalPayload s)
  unfold State.offerInterval; split <;> rename_i e <;> rw [e] at h <;> simpa using h

/-- `State.intervalCheck` leaves these alone. -/
@[simp] theorem State.intervalCheck_frame (s : State) :
    (s.intervalCheck).progs = s.progs ∧ (s.intervalCheck).fcu = s.fcu ∧ (s.intervalCheck).rsp = s.rsp
      ∧ (s.intervalCheck).gau = s.gau ∧ (s.intervalCheck).pcu = s.pcu ∧ (s.intervalCheck).ldu = s.ldu
      ∧ (s.intervalCheck).ltu = s.ltu ∧ (s.intervalCheck).sku = s.sku ∧ (s.intervalCheck).mgu = s.mgu
      ∧ (s.intervalCheck).pending = s.pending := by simp only [State.intervalCheck]; (repeat' split) <;> simp_all

/-- `State.wholeSecond` leaves these alone. -/
@[simp] theorem State.wholeSecond_frame (s : State) :
    (s.wholeSecond).progs = s.progs ∧ (s.wholeSecond).fcu = s.fcu ∧ (s.wholeSecond).rsp = s.rsp
      ∧ (s.wholeSecond).gau = s.gau ∧ (s.wholeSecond).pcu = s.pcu ∧ (s.wholeSecond).ldu = s.ldu
      ∧ (s.wholeSecond).ltu = s.ltu ∧ (s.wholeSecond).sku = s.sku ∧ (s.wholeSecond).mgu = s.mgu
      ∧ (s.wholeSecond).pending = s.pending := by simp only [State.wholeSecond]; (repeat' split) <;> simp_all

/-- `State.microsecond` leaves these alone. -/
@[simp] theorem State.microsecond_frame (s : State) :
    (s.microsecond).progs = s.progs ∧ (s.microsecond).fcu = s.fcu ∧ (s.microsecond).rsp = s.rsp
      ∧ (s.microsecond).gau = s.gau ∧ (s.microsecond).pcu = s.pcu ∧ (s.microsecond).ldu = s.ldu
      ∧ (s.microsecond).ltu = s.ltu ∧ (s.microsecond).sku = s.sku ∧ (s.microsecond).mgu = s.mgu
      ∧ (s.microsecond).pending = s.pending := by simp only [State.microsecond]; (repeat' split) <;> simp_all

/-- `State.listen` leaves these alone. -/
@[simp] theorem State.listen_frame (s : State) (p : InParser) :
    (s.listen p).progs = s.progs ∧ (s.listen p).fcu = s.fcu ∧ (s.listen p).rsp = s.rsp
      ∧ (s.listen p).gau = s.gau ∧ (s.listen p).pcu = s.pcu ∧ (s.listen p).ldu = s.ldu
      ∧ (s.listen p).ltu = s.ltu ∧ (s.listen p).sku = s.sku ∧ (s.listen p).mgu = s.mgu
      ∧ (s.listen p).ctrs = s.ctrs ∧ (s.listen p).pending = s.pending := by simp [State.listen]

/-- `State.dropInbound` leaves these alone. -/
@[simp] theorem State.dropInbound_frame (s : State) (c : Ctr) :
    (s.dropInbound c).progs = s.progs ∧ (s.dropInbound c).fcu = s.fcu ∧ (s.dropInbound c).rsp = s.rsp
      ∧ (s.dropInbound c).gau = s.gau ∧ (s.dropInbound c).pcu = s.pcu ∧ (s.dropInbound c).ldu = s.ldu
      ∧ (s.dropInbound c).ltu = s.ltu ∧ (s.dropInbound c).sku = s.sku ∧ (s.dropInbound c).mgu = s.mgu
      ∧ (s.dropInbound c).pending = s.pending := by simp [State.dropInbound]

/-- `State.headerDone` leaves these alone. -/
@[simp] theorem State.headerDone_frame (s : State) (h : List Byte) :
    (s.headerDone h).progs = s.progs ∧ (s.headerDone h).fcu = s.fcu ∧ (s.headerDone h).rsp = s.rsp
      ∧ (s.headerDone h).gau = s.gau ∧ (s.headerDone h).pcu = s.pcu ∧ (s.headerDone h).ldu = s.ldu
      ∧ (s.headerDone h).ltu = s.ltu ∧ (s.headerDone h).sku = s.sku ∧ (s.headerDone h).mgu = s.mgu
      ∧ (s.headerDone h).pending = s.pending := by simp only [State.headerDone]; (repeat' split) <;> simp_all

/-- `State.gapExpires` leaves these alone. -/
@[simp] theorem State.gapExpires_frame (s : State) :
    (s.gapExpires).progs = s.progs ∧ (s.gapExpires).fcu = s.fcu ∧ (s.gapExpires).rsp = s.rsp
      ∧ (s.gapExpires).gau = s.gau ∧ (s.gapExpires).pcu = s.pcu ∧ (s.gapExpires).ldu = s.ldu
      ∧ (s.gapExpires).ltu = s.ltu ∧ (s.gapExpires).sku = s.sku ∧ (s.gapExpires).mgu = s.mgu
      ∧ (s.gapExpires).pending = s.pending := by simp only [State.gapExpires]; (repeat' split) <;> simp_all

/-- `State.badChar` leaves these alone. -/
@[simp] theorem State.badChar_frame (s : State) :
    (s.badChar).progs = s.progs ∧ (s.badChar).fcu = s.fcu ∧ (s.badChar).rsp = s.rsp
      ∧ (s.badChar).gau = s.gau ∧ (s.badChar).pcu = s.pcu ∧ (s.badChar).ldu = s.ldu
      ∧ (s.badChar).ltu = s.ltu ∧ (s.badChar).sku = s.sku ∧ (s.badChar).mgu = s.mgu
      ∧ (s.badChar).pending = s.pending := by simp only [State.badChar]; (repeat' split) <;> simp_all

end Sys2Proof.Machine
end

