-- ==== Sys2Proof/Laws/Line.lean ====
section
/-! SUPPORT. What the outbound side of the line can do: each operation keeps the settings of the SLC and
the suspension stack, keeps the responses held, and counts only in its own counters. -/

namespace Sys2Proof.Machine

/-! ### Settings -/

theorem Slc.sameSettings_refl (a : Slc) : a.sameSettings a := by simp [Slc.sameSettings]

theorem Slc.sameSettings_trans {a b c : Slc} (h : a.sameSettings b) (k : b.sameSettings c) :
    a.sameSettings c := by
  simp only [Slc.sameSettings] at *
  simp [h, k]

theorem Link.startBlock_settings (l : Link) (f : Frame) :
    (l.startBlock f).slc.sameSettings l.slc ∧ (l.startBlock f).slc.stack = l.slc.stack := by
  simp [Link.startBlock, Slc.sameSettings]

theorem Slc.without_settings (s : Slc) (f : Frame) :
    (s.without f).sameSettings s ∧ (s.without f).stack = s.stack := by
  unfold Slc.without; split <;> simp [Slc.sameSettings]

theorem Link.startPending_settings (l : Link) (f : Frame) :
    (l.startPending f).slc.sameSettings l.slc ∧ (l.startPending f).slc.stack = l.slc.stack := by
  have h := Link.startBlock_settings { l with slc := l.slc.without f } f
  have k := Slc.without_settings l.slc f
  exact ⟨Slc.sameSettings_trans h.1 k.1, h.2.trans k.2⟩

theorem Link.kick_settings (l : Link) :
    l.kick.slc.sameSettings l.slc ∧ l.kick.slc.stack = l.slc.stack := by
  unfold Link.kick
  split
  · split
    · exact Link.startPending_settings _ _
    · exact ⟨Slc.sameSettings_refl _, rfl⟩
  · exact ⟨Slc.sameSettings_refl _, rfl⟩

/-- Holding the line changes its phase alone. -/
theorem Link.hold_spec (l : Link) :
    l.hold.ctrs = l.ctrs ∧ l.hold.slc.phase ≠ .idle ∧ { l.hold.slc with phase := l.slc.phase } = l.slc := by
  unfold Link.hold
  split
  · simp
  · simp_all

theorem Link.hold_settings (l : Link) :
    l.hold.slc.sameSettings l.slc ∧ l.hold.slc.stack = l.slc.stack := by
  unfold Link.hold; split <;> simp [Slc.sameSettings]

/-- On a held line nothing starts. -/
theorem Link.kick_of_not_idle (l : Link) (h : l.slc.phase ≠ .idle) : l.kick = l := by
  unfold Link.kick; simp [h]

theorem Link.release_settings (l : Link) (w : LinePhase) :
    (l.release w).slc.sameSettings l.slc ∧ (l.release w).slc.stack = l.slc.stack := by
  unfold Link.release
  split
  · exact Link.kick_settings { l with slc := { l.slc with phase := .idle } }
  · exact ⟨Slc.sameSettings_refl _, rfl⟩

theorem Link.placeLoop_settings (n : Nat) (l : Link) (f : Frame) (b : Bool) :
    (Link.placeLoop n l f b).link.slc.sameSettings l.slc
      ∧ (Link.placeLoop n l f b).link.slc.stack = l.slc.stack := by
  induction n generalizing l b with
  | zero => simp [Link.placeLoop, Slc.sameSettings]
  | succ n ih =>
    unfold Link.placeLoop
    split
    · simp [Link.enqueue, Slc.sameSettings]
    · split
      · rename_i g _
        have h := ih (l.discard g) true
        simpa [Link.discard, Slc.sameSettings] using h
      · simp [Slc.sameSettings]

theorem Link.place_settings (l : Link) (f : Frame) :
    (l.place f).link.slc.sameSettings l.slc ∧ (l.place f).link.slc.stack = l.slc.stack :=
  Link.placeLoop_settings _ l f false

theorem Link.setFlag_settings (l : Link) (k : NoticeKind) :
    (l.setFlag k).slc.sameSettings l.slc ∧ (l.setFlag k).slc.stack = l.slc.stack := by
  simp [Link.setFlag, Slc.sameSettings]

theorem Link.noticeAttempt_settings (l : Link) :
    l.noticeAttempt.slc.sameSettings l.slc ∧ l.noticeAttempt.slc.stack = l.slc.stack := by
  unfold Link.noticeAttempt
  split
  · exact ⟨Slc.sameSettings_refl _, rfl⟩
  · have hp := Link.place_settings l l.slc.noticeFrame
    dsimp only
    split
    · have hf := Link.setFlag_settings (l.place l.slc.noticeFrame).link .reportDrop
      have hk := Link.kick_settings ((l.place l.slc.noticeFrame).link.setFlag .reportDrop)
      exact ⟨Slc.sameSettings_trans hk.1 (Slc.sameSettings_trans hf.1 hp.1), by rw [hk.2, hf.2, hp.2]⟩
    · have hk := Link.kick_settings (l.place l.slc.noticeFrame).link
      exact ⟨Slc.sameSettings_trans hk.1 hp.1, by rw [hk.2, hp.2]⟩

theorem Link.raise_settings (l : Link) (k : NoticeKind) :
    (l.raise k).slc.sameSettings l.slc ∧ (l.raise k).slc.stack = l.slc.stack := by
  have hf := Link.setFlag_settings l k
  unfold Link.raise
  split
  · exact hf
  · have hn := Link.noticeAttempt_settings (l.setFlag k)
    exact ⟨Slc.sameSettings_trans hn.1 hf.1, by rw [hn.2, hf.2]⟩

theorem Link.attemptIfPending_settings (l : Link) :
    l.attemptIfPending.slc.sameSettings l.slc ∧ l.attemptIfPending.slc.stack = l.slc.stack := by
  unfold Link.attemptIfPending
  split
  · exact Link.noticeAttempt_settings l
  · exact ⟨Slc.sameSettings_refl _, rfl⟩

theorem Link.offer_settings (l : Link) (k : FrameKind) (p : List Byte) :
    (l.offer k p).1.slc.sameSettings l.slc ∧ (l.offer k p).1.slc.stack = l.slc.stack := by
  unfold Link.offer
  dsimp only
  generalize hf : (⟨k, l.slc.levels.of k, 0, p.length, p, 0, .nothing⟩ : Frame) = f
  have hp := Link.place_settings l f
  have hk := Link.kick_settings (l.place f).link
  have h0 : (l.place f).link.kick.slc.sameSettings l.slc ∧ (l.place f).link.kick.slc.stack = l.slc.stack :=
    ⟨Slc.sameSettings_trans hk.1 hp.1, by rw [hk.2, hp.2]⟩
  split
  · have hr := Link.raise_settings (l.place f).link.kick .reportDrop
    exact ⟨Slc.sameSettings_trans hr.1 h0.1, by rw [hr.2, h0.2]⟩
  · exact h0

theorem Link.putResponse_settings (l : Link) (t : Byte) (p : List Byte) (a : AfterSend) :
    (l.putResponse t p a).slc.sameSettings l.slc ∧ (l.putResponse t p a).slc.stack = l.slc.stack := by
  unfold Link.putResponse
  dsimp only
  exact Link.kick_settings _

/-! ### Counters -/

/-- `v` differs from `u` in the counters of a list only. -/
def ctrsWithin (cs : List Ctr) (u v : Counters) : Prop := ∀ c : Ctr, c ∉ cs → v[c.val] = u[c.val]

theorem ctrsWithin_refl (cs : List Ctr) (u : Counters) : ctrsWithin cs u u := fun _ _ => rfl

theorem ctrsWithin_trans {cs : List Ctr} {u v w : Counters} (h : ctrsWithin cs u v) (k : ctrsWithin cs v w) :
    ctrsWithin cs u w := fun c hc => (k c hc).trans (h c hc)

theorem ctrsWithin_mono {cs ds : List Ctr} {u v : Counters} (h : ctrsWithin cs u v) (k : ∀ c ∈ cs, c ∈ ds) :
    ctrsWithin ds u v := fun c hc => h c fun hm => hc (k c hm)

theorem ctrsWithin_add {cs : List Ctr} {d : Ctr} (u : Counters) (n : Nat) (h : d ∈ cs) :
    ctrsWithin cs u (Counters.add u d n) := by
  intro c hc
  exact Counters.add_get_ne u n fun e => hc (e ▸ h)

theorem Link.startBlock_ctrs (l : Link) (f : Frame) : ctrsWithin blockCtrs l.ctrs (l.startBlock f).ctrs := by
  unfold Link.startBlock
  dsimp only
  split <;> split
  · exact ctrsWithin_trans (ctrsWithin_add _ _ (by simp [blockCtrs])) (ctrsWithin_add _ _ (by simp [blockCtrs]))
  · exact ctrsWithin_add _ _ (by simp [blockCtrs])
  · exact ctrsWithin_add _ _ (by simp [blockCtrs])
  · exact ctrsWithin_refl _ _

theorem Link.startPending_ctrs (l : Link) (f : Frame) : ctrsWithin blockCtrs l.ctrs (l.startPending f).ctrs :=
  Link.startBlock_ctrs { l with slc := l.slc.without f } f

theorem Link.kick_ctrs (l : Link) : ctrsWithin blockCtrs l.ctrs l.kick.ctrs := by
  unfold Link.kick
  split
  · split
    · exact Link.startPending_ctrs _ _
    · exact ctrsWithin_refl _ _
  · exact ctrsWithin_refl _ _

theorem Link.release_ctrs (l : Link) (w : LinePhase) : ctrsWithin blockCtrs l.ctrs (l.release w).ctrs := by
  unfold Link.release
  split
  · exact Link.kick_ctrs { l with slc := { l.slc with phase := .idle } }
  · exact ctrsWithin_refl _ _

theorem FrameKind.dropCtr_mem (k : FrameKind) : k.dropCtr ∈ raiseCtrs := by cases k <;> decide

theorem blockCtrs_sub : ∀ c ∈ blockCtrs, c ∈ raiseCtrs := by decide

theorem Link.placeLoop_ctrs (n : Nat) (l : Link) (f : Frame) (b : Bool) :
    ctrsWithin raiseCtrs l.ctrs (Link.placeLoop n l f b).link.ctrs := by
  induction n generalizing l b with
  | zero => exact ctrsWithin_add _ _ (FrameKind.dropCtr_mem _)
  | succ n ih =>
    unfold Link.placeLoop
    split
    · exact ctrsWithin_refl _ _
    · split
      · rename_i g _
        have h : ctrsWithin raiseCtrs l.ctrs (l.discard g).ctrs := ctrsWithin_add _ _ (FrameKind.dropCtr_mem _)
        exact ctrsWithin_trans h (ih _ _)
      · exact ctrsWithin_add _ _ (FrameKind.dropCtr_mem _)

theorem Link.setFlag_ctrs (l : Link) (k : NoticeKind) : ctrsWithin raiseCtrs l.ctrs (l.setFlag k).ctrs :=
  ctrsWithin_add _ _ (by decide)

theorem Link.noticeAttempt_ctrs (l : Link) : ctrsWithin raiseCtrs l.ctrs l.noticeAttempt.ctrs := by
  unfold Link.noticeAttempt
  split
  · exact ctrsWithin_refl _ _
  · have hp : ctrsWithin raiseCtrs l.ctrs (l.place l.slc.noticeFrame).link.ctrs := Link.placeLoop_ctrs _ _ _ _
    dsimp only
    split
    · exact ctrsWithin_trans hp (ctrsWithin_trans (Link.setFlag_ctrs _ _)
        (ctrsWithin_mono (Link.kick_ctrs _) blockCtrs_sub))
    · exact ctrsWithin_trans hp (ctrsWithin_mono (Link.kick_ctrs _) blockCtrs_sub)

/-- Raising a notice counts only in the counters of raises (R157). -/
theorem Link.raise_ctrs (l : Link) (k : NoticeKind) : ctrsWithin raiseCtrs l.ctrs (l.raise k).ctrs := by
  unfold Link.raise
  split
  · exact Link.setFlag_ctrs _ _
  · exact ctrsWithin_trans (Link.setFlag_ctrs _ _) (Link.noticeAttempt_ctrs _)

/-- Offering a frame counts only in the counters of raises (R156, R158). -/
theorem Link.offer_ctrs (l : Link) (k : FrameKind) (p : List Byte) :
    ctrsWithin raiseCtrs l.ctrs (l.offer k p).1.ctrs := by
  unfold Link.offer
  dsimp only
  have hp : ∀ f, ctrsWithin raiseCtrs l.ctrs (l.place f).link.kick.ctrs := fun f =>
    ctrsWithin_trans (Link.placeLoop_ctrs _ _ _ _) (ctrsWithin_mono (Link.kick_ctrs _) blockCtrs_sub)
  split
  · exact ctrsWithin_trans (hp _) (Link.raise_ctrs _ _)
  · exact hp _

/-- A response counts only what starting a block counts (R164). -/
theorem Link.putResponse_ctrs (l : Link) (t : Byte) (p : List Byte) (a : AfterSend) :
    ctrsWithin blockCtrs l.ctrs (l.putResponse t p a).ctrs := by
  unfold Link.putResponse
  exact Link.kick_ctrs _

/-! ### Responses held -/

theorem firstToSend_mem {fs : List Frame} {f : Frame} (h : firstToSend fs = some f) : f ∈ fs := by
  induction fs generalizing f with
  | nil => simp [firstToSend] at h
  | cons g r ih =>
    unfold firstToSend at h
    split at h
    · simp_all
    · rename_i k hk
      split at h
      · injection h with h; subst h; exact List.mem_cons_of_mem _ (ih hk)
      · injection h with h; subst h; exact List.mem_cons_self

theorem Slc.filled_kind (s : Slc) (f : Frame) : (s.filled f).kind = f.kind := by
  unfold Slc.filled; split <;> rfl

theorem Slc.filled_response (s : Slc) (f : Frame) (h : f.kind = .response) : s.filled f = f := by
  simp [Slc.filled, h]

/-- Responses and report frames stand in their own stores (R154). -/
def Slc.sorted (l : Slc) : Prop :=
  (∀ f ∈ l.responses, f.kind = .response) ∧ ∀ f ∈ l.queue, f.kind ≠ .response

/-- Starting a pending frame on a line with no CURRENT frame keeps the responses held, as a collection. -/
theorem Link.startPending_held (l : Link) (f : Frame) (hc : l.slc.current = none) (hs : l.slc.sorted)
    (hf : l.slc.highest = some f) : List.Perm (l.startPending f).slc.held l.slc.held := by
  have hm : f ∈ l.slc.responses ∨ f ∈ l.slc.queue := by simpa using firstToSend_mem hf
  by_cases hk : f.kind = .response
  · have h1 : f ∈ l.slc.responses := hm.resolve_right fun h => hs.2 f h hk
    simp only [Slc.held, Link.startPending, Link.startBlock, Slc.without, hk, if_true]
    rw [Slc.filled_response _ _ hk]
    simp only [hc, Option.toList, List.filter_cons, hk, List.filter_nil, decide_true, if_true, List.append_nil]
    exact (List.perm_append_comm).trans (List.perm_cons_erase h1).symm
  · simp [Slc.held, Link.startPending, Link.startBlock, Slc.without, hk, hc, Slc.filled_kind]

theorem Link.kick_held (l : Link) (hs : l.slc.sorted) (hi : l.slc.phase = .idle → l.slc.current = none) :
    List.Perm l.kick.slc.held l.slc.held := by
  unfold Link.kick
  split
  · rename_i h
    split
    · rename_i f hf
      exact Link.startPending_held l f (hi h) hs hf
    · exact List.Perm.refl _
  · exact List.Perm.refl _

/-- A response put in the Response Queue is the one response added (R164). -/
theorem Link.putResponse_held (l : Link) (t : Byte) (p : List Byte) (a : AfterSend)
    (hs : l.slc.sorted) (hi : l.slc.phase = .idle → l.slc.current = none) :
    List.Perm (l.putResponse t p a).slc.held
      (⟨.response, l.slc.levels.response, t, p.length, p, 0, a⟩ :: l.slc.held) := by
  unfold Link.putResponse
  dsimp only
  refine (Link.kick_held { l with slc := { l.slc with responses := l.slc.responses ++ _ } } ?_ hi).trans ?_
  · refine ⟨fun f hf => ?_, hs.2⟩
    rcases List.mem_append.mp hf with h | h
    · exact hs.1 f h
    · simp at h; simp [h]
  · simp only [Slc.held, List.append_assoc]
    exact List.perm_middle

/-! ### Commands taken at their arrival (R152, R163, R164) -/

/-- A block that arrives while the part is ready is taken, executed and answered at its own event. -/
theorem State.deliver_ready (s : State) (b : InBlock) (h : s.ready) :
    s.deliver b = (s.taken.execute b).respond b := by
  obtain ⟨hm, hi, hr, -⟩ := h
  have ht : ((s.withSlc { s.slc with inbound := [b] }).bump Ctr.inboundGood).canTake = true := by
    simp only [State.canTake, State.bump_mgu, State.withSlc_mgu, hm, decide_true, Bool.true_and]
    exact decide_eq_true hr
  have he : ({ s.slc with inbound := [] } : Slc) = s.slc := by
    cases hs : s.slc; simp [hs] at hi; simp [hi]
  simp only [State.deliver, hi, List.length_nil, Config.inboundSlots, List.nil_append, State.serve,
    State.bump_slc, State.withSlc_slc, List.length_cons, State.takeLoop, ht, if_true]
  simp only [State.takeCommand, State.bump_slc, State.withSlc_slc, State.taken]
  simp [State.withSlc, State.bump, he]

/-- All that answering a command does (R164): the response is added to those held, at the RESPONSE level
now in force; the settings stay; the counters of the refusal and of the started block may change. -/
theorem Answer.respond_spec (a : Answer) (b : InBlock) (h : a.st.slc.lineSound) :
    List.Perm (a.respond b).slc.held
        (⟨.response, a.st.slc.levels.response, b.tag, ([b.kind, a.result.code] ++ a.extra).length,
          [b.kind, a.result.code] ++ a.extra, 0, a.after⟩ :: a.st.slc.held)
      ∧ (a.respond b).slc.sameSettings a.st.slc
      ∧ ctrsWithin (Ctr.commandsRefused :: blockCtrs) a.st.ctrs (a.respond b).ctrs := by
  obtain ⟨hi, -, hr, hq, -⟩ := h
  have hl : (a.st.bumpIf a.result.refusal Ctr.commandsRefused).link.slc = a.st.slc := by
    simp [State.link]
  have hc : ctrsWithin (Ctr.commandsRefused :: blockCtrs) a.st.ctrs
      (a.st.bumpIf a.result.refusal Ctr.commandsRefused).link.ctrs := by
    simp only [State.link, State.bumpIf]
    split
    · exact ctrsWithin_add _ _ (by simp)
    · exact ctrsWithin_refl _ _
  refine ⟨?_, ?_, ?_⟩
  · have := Link.putResponse_held (a.st.bumpIf a.result.refusal Ctr.commandsRefused).link b.tag
      ([b.kind, a.result.code] ++ a.extra) a.after (by rw [hl]; exact ⟨hr, hq⟩) (by rw [hl]; exact hi)
    rw [hl] at this
    simpa [Answer.respond, State.withLink] using this
  · have := (Link.putResponse_settings (a.st.bumpIf a.result.refusal Ctr.commandsRefused).link b.tag
      ([b.kind, a.result.code] ++ a.extra) a.after).1
    rw [hl] at this
    simpa [Answer.respond, State.withLink] using this
  · refine ctrsWithin_trans hc ?_
    exact ctrsWithin_mono (Link.putResponse_ctrs _ b.tag ([b.kind, a.result.code] ++ a.extra) a.after)
      (fun c hc => List.mem_cons_of_mem _ hc)

end Sys2Proof.Machine
end

