-- ==== Sys2Proof/Laws/Tables.lean ====
section
/-! SUPPORT. The tables as memories: a read after a write, and the canonical form that every write keeps. -/

namespace Sys2Proof.Machine

variable {α : Type} [DecidableEq α] {d : α}

/-- A table in canonical form above `lo` is in canonical form above every smaller bound. -/
theorem Tab.wfFrom_mono {t : Tab α} {lo lo' : Nat} (h : Tab.wfFrom d lo t = true) (hl : lo' ≤ lo) :
    Tab.wfFrom d lo' t = true := by
  cases t with
  | nil => rfl
  | cons p r =>
    obtain ⟨i, v⟩ := p
    simp only [Tab.wfFrom, Bool.and_eq_true, decide_eq_true_eq] at h ⊢
    exact ⟨⟨by omega, h.1.2⟩, h.2⟩

/-- A table in canonical form above `lo` lists nothing below `lo`. -/
theorem Tab.read_below {t : Tab α} {lo i : Nat} (h : Tab.wfFrom d lo t = true) (hi : i < lo) :
    Tab.read d t i = d := by
  induction t generalizing lo with
  | nil => rfl
  | cons p r ih =>
    obtain ⟨j, v⟩ := p
    simp only [Tab.wfFrom, Bool.and_eq_true, decide_eq_true_eq] at h
    have hne : ¬ j = i := by omega
    simp only [Tab.read, hne, if_false]
    exact ih h.2 (by omega)

/-- A write keeps the canonical form, above any bound that its index respects. -/
theorem Tab.write_wfFrom {t : Tab α} {lo i : Nat} {v : α} (h : Tab.wfFrom d lo t = true) (hi : lo ≤ i) :
    Tab.wfFrom d lo (Tab.write d t i v) = true := by
  induction t generalizing lo with
  | nil => by_cases hv : v = d <;> simp [Tab.write, Tab.wfFrom, hv, hi]
  | cons p r ih =>
    obtain ⟨j, u⟩ := p
    have h' := h
    simp only [Tab.wfFrom, Bool.and_eq_true, decide_eq_true_eq] at h'
    obtain ⟨⟨hj, hu⟩, hr⟩ := h'
    by_cases hlt : i < j
    · by_cases hv : v = d
      · simpa [Tab.write, hlt, hv] using h
      · simp only [Tab.write, hlt, hv, if_true, if_false, Tab.wfFrom, Bool.and_eq_true, decide_eq_true_eq]
        exact ⟨⟨hi, hv⟩, ⟨⟨by omega, hu⟩, hr⟩⟩
    · by_cases he : i = j
      · subst he
        by_cases hv : v = d
        · simpa [Tab.write, hv] using Tab.wfFrom_mono hr (by omega)
        · simp only [Tab.write, hlt, hv, if_true, if_false, Tab.wfFrom, Bool.and_eq_true,
            decide_eq_true_eq]
          exact ⟨⟨hj, hv⟩, hr⟩
      · simp only [Tab.write, hlt, he, if_false, Tab.wfFrom, Bool.and_eq_true, decide_eq_true_eq]
        exact ⟨⟨hj, hu⟩, ih hr (by omega)⟩

/-- A write keeps the canonical form. -/
theorem Tab.write_wf {t : Tab α} {i : Nat} {v : α} (h : Tab.wf d t = true) :
    Tab.wf d (Tab.write d t i v) = true := Tab.write_wfFrom h (Nat.zero_le i)

/-- A run of writes keeps the canonical form. -/
theorem Tab.writeRun_wf {t : Tab α} {i : Nat} {vs : List α} (h : Tab.wf d t = true) :
    Tab.wf d (Tab.writeRun d t i vs) = true := by
  induction vs generalizing t i with
  | nil => exact h
  | cons v vs ih => exact ih (Tab.write_wf h)

/-- A read after a write: the value written at its index, what stood there at every other. -/
theorem Tab.read_write {t : Tab α} {lo : Nat} (h : Tab.wfFrom d lo t = true) (i k : Nat) (v : α) :
    Tab.read d (Tab.write d t i v) k = if k = i then v else Tab.read d t k := by
  induction t generalizing lo with
  | nil =>
    have hs : i = k ↔ k = i := eq_comm
    by_cases hv : v = d <;> by_cases hk : k = i <;> simp [Tab.write, Tab.read, hv, hk, hs]
  | cons p r ih =>
    obtain ⟨j, u⟩ := p
    simp only [Tab.wfFrom, Bool.and_eq_true, decide_eq_true_eq] at h
    obtain ⟨⟨-, -⟩, hr⟩ := h
    by_cases hlt : i < j
    · have hb := Tab.read_below hr (show i < j + 1 by omega)
      have hj : ¬ j = i := by omega
      by_cases hv : v = d
      · by_cases hk : k = i
        · subst hk; simp [Tab.write, Tab.read, hlt, hv, hj, hb]
        · simp [Tab.write, hlt, hv, hk]
      · by_cases hk : k = i
        · subst hk; simp [Tab.write, Tab.read, hlt, hv]
        · have hk' : ¬ i = k := fun e => hk e.symm
          simp [Tab.write, Tab.read, hlt, hv, hk, hk']
    · by_cases he : i = j
      · subst he
        have hb := Tab.read_below hr (show i < i + 1 by omega)
        by_cases hk : k = i
        · subst hk
          by_cases hv : v = d <;> simp [Tab.write, Tab.read, hv, hb]
        · have hk' : ¬ i = k := fun e => hk e.symm
          by_cases hv : v = d <;> simp [Tab.write, Tab.read, hv, hk, hk']
      · by_cases hj : j = k
        · subst hj
          have hk : ¬ j = i := fun e => he e.symm
          simp [Tab.write, Tab.read, hlt, he, hk]
        · simp only [Tab.write, hlt, he, if_false, Tab.read, hj]
          exact ih hr

/-- A read after a run of writes from index `i` up. -/
theorem Tab.read_writeRun {t : Tab α} (h : Tab.wf d t = true) (i k : Nat) (vs : List α) :
    Tab.read d (Tab.writeRun d t i vs) k
      = if i ≤ k then (vs[k - i]?).getD (Tab.read d t k) else Tab.read d t k := by
  induction vs generalizing t i with
  | nil => simp [Tab.writeRun]
  | cons v vs ih =>
    simp only [Tab.writeRun]
    rw [ih (Tab.write_wf h), Tab.read_write h]
    by_cases hk : k = i
    · subst hk; simp [show ¬ k + 1 ≤ k by omega]
    · by_cases hle : i ≤ k
      · have h1 : i + 1 ≤ k := by omega
        have h2 : k - i = (k - (i + 1)) + 1 := by omega
        simp [hle, h1, hk, h2]
      · simp [hle, hk, show ¬ i + 1 ≤ k by omega]

end Sys2Proof.Machine
end

