-- ==== Sys2Proof/Tests/Slice0.lean ====
section
/-! SUPPORT. The tests: the checks of WellFormed, worked examples of the manual, and for every statement
with hypotheses a state and operands that meet them (`test_hyps_…`). -/

namespace Sys2Proof.Tests

set_option Elab.async false

open Sys2Proof Sys2Proof.Machine

/-! ### Helpers -/

/-- A single block with tag 7. -/
def blk (p : List Byte) : CmdBlock := ⟨7, 0, true, p⟩

/-- An enabled program record at the reset values. -/
def prog : ProgramRec := { ProgramRec.reset with enabled := true }

/-- A part that has fired nothing yet, RUNNING with FIRE(0) in every slot. -/
def run0 : State :=
  { State.reset with
    progs := Vector.replicate 4 prog
    fcu := { Fcu.reset with state := .running, schedule := Vector.replicate 32 (.fire 0) } }

/-- The same with a shot of the given kind in flight, tag 5, fired in slot 3. -/
def flying (k : ShotKind) : State :=
  { run0 with fcu := { run0.fcu with shot := some ⟨k, 0, 3, 5, false, false⟩ } }

/-- The next state of a command. -/
def after (c : Instr) (s : State) : State :=
  match exec c s with
  | .next t => t
  | _ => s

/-- The same part with another parser and buffer. -/
def heard (s : State) (p : Parser) (b : List BufItem) : State :=
  { s with rsp := { s.rsp with parser := p, buffer := b } }

/-- A bank of program 0 that waits, with the outcome `o`. -/
def waiting (o : ProfileOutcome) : Bank :=
  { Bank.opened 0 prog 0 ⟨0, 0, false⟩ with
    state := .closed, outcome := some o, elapsed := 16, nAcc := if o = .void then 0 else 9,
    eSum := 576, gates := [⟨9000, 1, 0⟩] }

/-- A part with one bank waiting, the PCU and the LDU idle. -/
def closed0 (o : ProfileOutcome) : State :=
  { State.reset with gau := { Gau.reset with banks := Gau.reset.banks.set 0 (waiting o), queue := [0] } }

/-- The same, its conditioning begun. -/
def cond0 : State := after .conditioningBegin (closed0 .complete)

/-- A result record of program 0 with one gate. -/
def result0 (d : Bool) : ResultRec :=
  ⟨0, { prog with detection := d }, 0, ⟨0, 0, false⟩, 16, 9, 0, .complete, false, false, [⟨0, 1⟩],
    some ⟨64, false, false, 3, false, [⟨500, false⟩]⟩⟩

/-- A part with that result READY in buffer 0. -/
def ready0 (r : ResultRec) : State :=
  { State.reset with
    pcu := { Pcu.reset with bufs := Pcu.reset.bufs.set 0 ⟨.ready, some r⟩, readyOrder := [0] } }

/-- A part whose LDU holds buffer 1, so that no detection can begin. -/
def lduBusy (s : State) : State := { s with ldu := { s.ldu with job := some ⟨1, none⟩ } }

/-- A part with a CURRENT frame and its block on the line. -/
def sending (f : Frame) : State :=
  { State.reset with slc := { State.reset.slc with current := some f, phase := .sending } }

/-- A PROFILE frame of 300 bytes, two blocks. -/
def frame300 : Frame := ⟨.profile, 3, 0, 300, List.replicate 300 0, 0, .nothing⟩

/-- A LAYER frame of one block. -/
def layer1 : Frame := ⟨.layer, 1, 1, 10, List.replicate 10 0, 0, .nothing⟩

/-! ### Well-formedness -/

theorem test_wf_payload_257_refused : (Instr.stop (blk (List.replicate 257 0))).wf = false := by
  decide +kernel
theorem test_wf_payload_256_taken : (Instr.stop (blk (List.replicate 256 0))).wf = true := by
  decide +kernel
theorem test_wf_unknown_with_known_kind_refused : (Instr.unknownCommand 0x14 (blk [])).wf = false := by
  decide
theorem test_wf_unknown_multi_block_taken :
    (Instr.unknownCommand 0x14 ⟨7, 0, false, []⟩).wf = true := by decide

/-! ### Worked examples and stated values of the manual -/

/-- R150: the nine characters "123456789" give 29B1H. -/
theorem test_crc_check_value :
    crc16 [0x31, 0x32, 0x33, 0x34, 0x35, 0x36, 0x37, 0x38, 0x39] = 0x29B1 := by decide +kernel

/-- I.5: 26,214.4 becomes 26,214, −307.2 becomes −307 and −749.5 becomes −750. -/
theorem test_rounding :
    roundDiv 262144 10 = 26214 ∧ roundDiv (-3072) 10 = -307 ∧ roundDiv (-1499) 2 = -750 := by decide

/-- I.5: range index 4095 is reported as 15,356 m. -/
theorem test_metres_top : metres 4095 = 15356 := by decide

/-- Section 1.7, worked sequence: E_ref 2048, AUTO, start drive 120, drive max 200. -/
def servo1 (e : Nat) (v : Servo) : Servo :=
  v.feed { prog with eRef := 2048, driveMax := 200 } ((2048 : Int) - e)

theorem test_servo_acquires :
    let v1 := servo1 1600 ⟨.acquire, 120, 0, 0, 0, true⟩
    let v2 := servo1 1990 v1
    let v3 := servo1 2080 v2
    (v1.drive, v1.lockRun) = (127, 0) ∧ (v2.drive, v2.lockRun) = (128, 1)
      ∧ (v3.drive, v3.lockRun) = (127, 2) := by decide

/-- Section 1.7: a group sum of −1,200 moves the drive down by 1, one of 4,200 gives up TRACK. -/
theorem test_servo_groups :
    (Servo.endGroup ⟨.track, 127, 8, 0, 15, true⟩ { prog with eRef := 2048, driveMax := 200 } (-1200)).drive
        = 126
      ∧ (Servo.endGroup ⟨.track, 127, 8, 0, 15, true⟩ { prog with eRef := 2048, driveMax := 200 } 4200).mode
        = .acquire := by decide

/-- Section 2.8: the pattern of the burst with tag 05H. -/
theorem test_path_pattern :
    [0, 1, 2, 3, 4].map (patternWord 5) = [1285, 5378, 9471, 13564, 1273] := by decide

/-- R174: a block of no payload; R30: 05H in the low byte of a mark. -/
theorem test_mark : isMark 0xAA05 = true ∧ markTag 0xAA05 = 5 ∧ markTest 0xAB05 = true
    ∧ isMark 0xA9FF = false ∧ isMark 0xAC00 = false := by decide

/-- R175: yes and on are code 0, the first named of their pairs. -/
theorem test_yes_is_code_zero :
    field (programBytes 0 { prog with detection := true }) 1 1 = 0
      ∧ field (programBytes 0 { prog with detection := true }) 21 1 = 0
      ∧ field (programBytes 0 { prog with enabled := false, detection := false }) 1 1 = 1
      ∧ field (programBytes 0 { prog with enabled := false, detection := false }) 21 1 = 1 := by decide

/-- R142, R178: an entry of condition NONE is sent empty, whatever SET_CAPTURE stored in it. -/
theorem test_none_entry_sent_empty :
    captureBytes ⟨.none, 4095, 3, false, false⟩ = [0, 0, 0, 0, 0] := by decide

/-- Section 4.10, the principal case: bank sums to 63,999 PU, its background 512,000 in Q8. -/
theorem test_arithmetic_principal :
    let k : Bank := { Bank.opened 2 { prog with bgMethod := .dark, eRef := 2048 } 0 ⟨0, 0, false⟩ with
      nAcc := 1024, dAcc := 64, eSum := 2048000, gates := [⟨17203200, 0, 1024000⟩] }
    let a := arith k [⟨0, 8⟩] ⟨0, 0, [⟨40000, 10⟩], none, none⟩
    a.cond.betas = [⟨63999, false⟩] ∧ a.bg = [512000] ∧ a.cond.eMean = 2000 := by decide +kernel

/-- Section 4.10: the negative gate, the half, the clamp, the test echo and the noise. -/
theorem test_arithmetic_corners :
    corrected (roundDiv (-614400) 2000) ⟨40000, 10⟩ = -750 ∧ corrected (-3) ⟨32768, 8⟩ = -2
      ∧ clampBeta (corrected 3000000 ⟨65535, 12⟩) = 8388607
      ∧ (echoed ⟨30, 3, 50000⟩ 29 [0, 63999, 8360000, -750, 0]).map clampBeta
          = [0, 113999, 8388607, 49250, 0]
      ∧ noiseOf 4 [12, -5, 3, -9] = 7 := by decide +kernel

/-- Section 5.9: gate 6 of the layered profile. R46 and R84's β are tested by the sequences' own numbers. -/
theorem test_scan_layered :
    let gs := scanGates ((List.range 12).map fun g => ⟨40 + 4 * g, 4⟩)
      (([40000, 20000, 1200, 6100, 2400, 7800, 9500, 3100, 2000, 1900, 4600, 4700] : List Int).map (⟨·, false⟩))
      (List.replicate 8 5000 ++ List.replicate 4 4500)
    (scanFrom (gs.drop 2)).cands
      = [⟨60, some 71, 65, 9500, false⟩, ⟨80, none, 85, 4700, false⟩] := by decide +kernel

/-- Section 5.10: the integral reaches 100,000 in gate 5, whose last range index is 63. -/
theorem test_vv :
    vvReach 100000 0 (scanGates ((List.range 12).map fun g => ⟨40 + 4 * g, 4⟩)
      (([0, 0, 9000, 8000, 6000, 4000, 3000, 2600, 1600, 1550, 1700, 1520] : List Int).map (⟨·, false⟩))
      (List.replicate 12 5000) |>.drop 2) = some 63 := by decide +kernel

/-- Section 6.13, update 2: track 13 is created at 176 and merged into track 7. -/
theorem test_tracking_merge :
    let c (b : Nat) : Candidate := ⟨b, none, b, 0, false⟩
    let u := Ltu.update ⟨[⟨7, .confirmed, 161, none, 0, [true, true, true, true, true], 0, 5, 0, 1, false⟩,
          ⟨12, .tentative, 1200, none, 0, [true, true], 0, 2, 0, 2, false⟩], 13, ⟨4, 5, 3, 40, 16, 4⟩⟩
        ⟨1, 0, ⟨0, 0, false⟩, 176, 4095, true, false, false, [c 176, c 1216], false, none⟩
    u.ltu.tracks.map (fun t => (t.id, t.base, t.sources)) = [(7, 161, 3), (12, 1208, 2)]
      ∧ u.ltu.nextId = 14 ∧ u.merged = 1 := by decide +kernel

/-! ### Hypotheses that can be met: the step, the slots -/

theorem test_hyps_StepRunsFrontCommand :
    ({ State.reset with pending := [.slotTime] } : State).pending = .slotTime :: []
      ∧ State.reset.pending = [] := by decide

theorem test_reset_settled : State.reset.settled := by
  unfold State.settled State.waitSettled; decide +kernel

theorem test_run0_settled : run0.settled := by
  unfold State.settled State.waitSettled; decide +kernel

theorem test_hyps_SlotOutsideRunning :
    State.reset.settled ∧ State.reset.fcu.state ≠ .running ∧ State.reset.rsp.path.running = false :=
  ⟨test_reset_settled, by decide +kernel, by decide +kernel⟩

/-- A running path check of 2 captures, `c` outstanding. -/
def checking (c : Option PathCapture) : State :=
  { State.reset with rsp := { Rsp.reset with
      path := { PathCheck.reset with running := true, n := 2, issued := if c.isSome then 1 else 0, capture := c } } }

/-- The last of its captures outstanding. -/
def lastCheck : State :=
  { State.reset with rsp := { Rsp.reset with
      path := { PathCheck.reset with running := true, n := 2, issued := 2, capture := some ⟨0, 2048, true⟩ } } }

theorem test_hyps_SlotOfPathCheck :
    (∀ c, c = none ∨ c = some ⟨0, 2048, false⟩ → (checking c).settled ∧ (checking c).fcu.state = .halted
      ∧ (checking c).rsp.path.running = true ∧ (checking c).rsp.path.issued < (checking c).rsp.path.n)
    ∧ (checking none).rsp.path.capture = none
    ∧ (checking (some ⟨0, 2048, false⟩)).rsp.path.capture.isSome = true
    ∧ (lastCheck.settled ∧ lastCheck.fcu.state = .halted ∧ lastCheck.rsp.path.running = true
      ∧ lastCheck.rsp.path.capture.isSome = true ∧ lastCheck.rsp.path.issued = lastCheck.rsp.path.n) := by
  refine ⟨?_, by decide +kernel, by decide +kernel, by
    unfold State.settled State.waitSettled; decide +kernel⟩
  rintro c (rfl | rfl) <;> unfold State.settled State.waitSettled <;> decide +kernel

/-- Every bank waits. -/
def starved0 : State :=
  { run0 with gau := { Gau.reset with banks := Vector.replicate 6 (waiting .complete) } }

theorem test_hyps_BankRequestAnswers :
    (after .slotTime run0).gau.accBank 0 = some 0
      ∧ (run0.gau.accBank 0 = none ∧ run0.gau.freeBank = some 0)
      ∧ (∀ k : Fin 6, starved0.gau.banks[k].state ≠ .free) ∧ starved0.gau.accBank 0 = none := by
  decide +kernel

theorem test_hyps_SlotFiresShot :
    run0.settled ∧ run0.fcu.state = .running ∧ run0.fcu.schedule[run0.fcu.pointer] = .fire 0
      ∧ run0.progs[(0 : Prog)].enabled = true ∧ (∃ s1, run0.bankRequest 0 = (s1, some 0))
      ∧ run0.fcu.shot = none ∧ run0.fcu.budgetOk run0.progs[(0 : Prog)].eRef = true :=
  ⟨test_run0_settled, by decide +kernel, by decide +kernel, by decide +kernel,
    ⟨(run0.bankRequest 0).1, by decide +kernel⟩, by decide +kernel, by decide +kernel⟩

/-- The same part with DARK(0) in every slot. -/
def dark0 : State := { run0 with fcu := { run0.fcu with schedule := Vector.replicate 32 (.dark 0) } }

theorem test_hyps_SlotTakesDarkCapture :
    dark0.settled ∧ dark0.fcu.state = .running ∧ dark0.fcu.schedule[dark0.fcu.pointer] = .dark 0
      ∧ dark0.progs[(0 : Prog)].enabled = true ∧ dark0.fcu.shot = none := by
  unfold State.settled State.waitSettled; decide +kernel

/-- The same part with a budget limit below E_ref. -/
def poor0 : State :=
  { run0 with fcu := { run0.fcu with firing := ⟨1000, 2048, 100, 63⟩ } }

theorem test_hyps_SlotWithheld :
    (∀ s ∈ [dark0, starved0, flying .fire, poor0], s.fcu.state = .running ∧ s.progs[(0 : Prog)].enabled = true)
    ∧ (({ dark0 with fcu := { dark0.fcu with shot := (flying .fire).fcu.shot } } : State).fcu.shot.isSome = true)
    ∧ (starved0.fcu.schedule[starved0.fcu.pointer] = .fire 0 ∧ (starved0.bankRequest 0).2 = none)
    ∧ (((flying .fire).bankRequest 0).2.isSome = true ∧ (flying .fire).fcu.shot.isSome = true)
    ∧ ((poor0.bankRequest 0).2.isSome = true ∧ poor0.fcu.shot = none
      ∧ poor0.fcu.budgetOk poor0.progs[(0 : Prog)].eRef = false) := by decide +kernel

/-- Bank 1 one slot short of its window, a shot in flight, bank 0 in conditioning. -/
def closing0 : State :=
  { flying .dark with
    gau := { Gau.reset with
      banks := (Gau.reset.banks.set 0 { waiting .complete with state := .conditioning }).set 1
        { Bank.opened 0 prog 1 ⟨0, 0, false⟩ with elapsed := 15 }
      queue := [0] }
    pcu := { Pcu.reset with job := some ⟨0, 0, [], none, none⟩ }
    ldu := { Ldu.reset with job := some ⟨1, none⟩ } }

/-- The same with no shot in flight and a budget limit below E_ref. -/
def closingPoor : State :=
  { closing0 with fcu := { closing0.fcu with shot := none, firing := poor0.fcu.firing } }

/-- A shot in flight and a bank of program 0 at `n` slots elapsed, its own shot in flight or not. -/
def elapsed0 (n : Nat) (own : Option (Fin 32)) : State :=
  { flying .fire with gau := { Gau.reset with
      banks := Gau.reset.banks.set 0 { Bank.opened 0 prog 0 ⟨0, 0, false⟩ with elapsed := n, ownShot := own } } }

theorem test_hyps_WithheldSlotClosesBank_plain :
    ∀ s ∈ [elapsed0 3 none, elapsed0 15 (some 3), elapsed0 16 (some 3)],
      s.settled ∧ s.fcu.state = .running ∧ s.progs[(0 : Prog)].enabled = true
        ∧ s.fcu.schedule[s.fcu.pointer] = .fire 0 ∧ s.bankRequest 0 = (s, some 0) ∧ s.fcu.shot.isSome = true
        ∧ s.gau.banks[(0 : Fin 6)].copy.nTarget = 16 := by
  unfold State.settled State.waitSettled; decide +kernel

theorem test_hyps_WithheldSlotClosesBank :
    (closingPoor.gau = closing0.gau ∧ closingPoor.pcu = closing0.pcu ∧ closingPoor.ldu = closing0.ldu
      ∧ closingPoor.waitSettled ∧ closingPoor.fcu.state = .running
      ∧ closingPoor.fcu.schedule[closingPoor.fcu.pointer] = .fire 0
      ∧ closingPoor.fcu.firing.budgetLimit
        < (closingPoor.fcu.window.take 1023).sum + closingPoor.progs[(0 : Prog)].eRef)
      ∧ closing0.fcu.state = .running ∧ closing0.progs[(0 : Prog)].enabled = true
      ∧ closing0.fcu.schedule[closing0.fcu.pointer] = .fire 0 ∧ closing0.gau.accBank 0 = some 1
      ∧ closing0.fcu.shot.isSome = true
      ∧ closing0.gau.banks[(1 : Fin 6)].elapsed + 1 = closing0.gau.banks[(1 : Fin 6)].copy.nTarget
      ∧ closing0.gau.banks[(1 : Fin 6)].ownShot = none ∧ closing0.pcu.job.isSome = true
      ∧ closing0.ldu.job.isSome = true ∧ closing0.gau.queue ≠ [] ∧ (1 : Fin 6) ∉ closing0.gau.queue
      ∧ closing0.waitSettled := by
  unfold State.waitSettled; decide +kernel

theorem test_run0_fcuSafe : run0.fcuSafe := by unfold State.fcuSafe; decide +kernel

theorem test_hyps_FirePulseOnlyWhenAllowed :
    run0.fcuSafe ∧ exec .slotTime run0 = .next (after .slotTime run0)
      ∧ (after .slotTime run0).fcu.pulses.fire = true :=
  ⟨test_run0_fcuSafe, rfl, by decide +kernel⟩

/-! ### Captures, energy, trips -/

/-- The burst timeout of the shot in flight running, the lost run at `n`. -/
def late (n : Nat) : State :=
  { flying .fire with fcu := { (flying .fire).fcu with burstTimer := some ⟨5, 100⟩, lostRun := n } }

/-- A path-check capture outstanding with its timeout running. -/
def lateCheck : State :=
  { checking (some ⟨5, 2048, false⟩) with fcu := { Fcu.reset with burstTimer := some ⟨5, 100⟩ } }

/-- A path-check capture of tag `t` outstanding, its header taken or not, the timeout of tag 5 running. -/
def staleCheck (t : Byte) (taken : Bool) : State :=
  { checking (some ⟨t, 2048, taken⟩) with fcu := { Fcu.reset with burstTimer := some ⟨5, 100⟩ } }

theorem test_hyps_BurstTimeoutLosesCapture_stale :
    ∀ s ∈ [staleCheck 5 true, staleCheck 4 false, staleCheck 4 true], s.settled
      ∧ s.fcu.burstTimer = some ⟨5, 100⟩ ∧ s.fcu.shot = none
      ∧ (s.rsp.path.capture.all fun c => c.tag ≠ 5 || c.headerTaken) = true := by
  unfold State.settled State.waitSettled; decide +kernel

theorem test_hyps_BurstTimeoutLosesCapture :
    (∀ n, n = 6 ∨ n = 7 → (late n).fcu.burstTimer = some ⟨5, 100⟩ ∧ (late n).rsp.path.capture = none
      ∧ (late n).fcu.shot = some ⟨.fire, 0, 3, 5, false, false⟩)
    ∧ (lateCheck.settled ∧ lateCheck.rsp.path.capture = some ⟨5, 2048, false⟩
      ∧ lateCheck.rsp.path.running = true)
    ∧ ({ State.reset with fcu := { Fcu.reset with burstTimer := some ⟨5, 100⟩ } } : State).settled := by
  refine ⟨by rintro n (rfl | rfl) <;> decide +kernel, ?_, ?_⟩ <;>
    unfold State.settled State.waitSettled <;> decide +kernel

theorem test_hyps_InterlockOpening :
    (run0.fcu.interlockClosed = true ∧ run0.fcu.state = .running)
    ∧ (State.reset.fcu.interlockClosed = true ∧ State.reset.fcu.state = .halted)
    ∧ ∃ s : State, s.fcu.interlockClosed = true ∧ s.fcu.state = .tripped :=
  ⟨by decide +kernel, by decide +kernel, ⟨{ run0 with fcu := { run0.fcu with state := .tripped } },
    by decide +kernel⟩⟩

/-- A header of tag 5 whose count word 2048 is at the head of the buffer. -/
def headed (k : ShotKind) : State := heard (flying k) (.header 0xAA05 (some 81)) [.word 2048]

theorem test_hyps_EmissionFaultTrips :
    (headed .fire).headerAt ⟨.fire, 0, 3, 5, false, false⟩ [] 0xAA05 81 2048
      ∧ (headed .fire).fcu.state = .running ∧ 5 * (headed .fire).progs[(0 : Prog)].eRef < 4 * readingOf 81
      ∧ (headed .dark).headerAt ⟨.dark, 0, 3, 5, false, false⟩ [] 0xAA05 81 2048
      ∧ (headed .dark).progs[(0 : Prog)].eRef ≤ 2 * readingOf 81
      ∧ (heard (flying .dark) (.header 0xAA05 (some 31)) [.word 2048]).headerAt
          ⟨.dark, 0, 3, 5, false, false⟩ [] 0xAA05 31 2048
      ∧ 2 * readingOf 31 < (flying .dark).progs[(0 : Prog)].eRef := by
  unfold State.headerAt; decide +kernel

/-- The same with the reading `r`. -/
def headedAt (r : Word) : State := heard (flying .fire) (.header 0xAA05 (some r)) [.word 2048]

/-- The header of `headedAt` for a dark capture, and while the vector is COMMITTING. -/
def headedDark (v : Staging) : State :=
  { heard (flying .dark) (.header 0xAA05 (some 31)) [.word 2048] with gau := { Gau.reset with staging := v } }

/-- The matched header of the path-check capture of tag 5. -/
def headedCheck : State := heard lateCheck (.header 0xAB05 (some 31)) [.word 2048]

/-- A header of tag `t` and reading 31 with the count word `w` at the head of the buffer, a slip point behind. -/
def counting (s : State) (m w : Word) : State := heard s (.header m (some 31)) [.word w, .slip]

/-- The matched header of `headedAt` with program 0's servo at the drive maximum: an ACQUIRE servo one reading
short of a lock, or a TRACK servo at the end of a group that gives up TRACK. -/
def fedAt (m : ServoMode) (sum : Int) (r : Word) : State :=
  let s := headedAt r
  { s with fcu := { s.fcu with servos := s.fcu.servos.set 0 ⟨m, prog.driveMax, 7, sum, 15, true⟩ } }

theorem test_hyps_MatchedHeaderEntersSamples_servo :
    (∀ s ∈ [fedAt .acquire 0 62, fedAt .track 640 62], s.settled
      ∧ s.headerAt ⟨.fire, 0, 3, 5, false, false⟩ [] 0xAA05 62 2048 ∧ s.fcu.state = .running
      ∧ 0 < (s.progs[(0 : Prog)].eRef : Int) - readingOf 62
      ∧ (s.fcu.servos[(0 : Prog)].feed s.progs[(0 : Prog)] ((s.progs[(0 : Prog)].eRef : Int) - readingOf 62)).drive
          = s.progs[(0 : Prog)].driveMax
      ∧ s.fcu.servos[(0 : Prog)].armed = true)
      ∧ (Servo.feed ⟨.acquire, prog.driveMax, 7, 0, 15, true⟩ prog 2).mode = .track
      ∧ (Servo.feed ⟨.track, prog.driveMax, 7, 640, 15, true⟩ prog 2).mode = .acquire := by
  unfold State.headerAt State.settled State.waitSettled; decide +kernel

/-- A matched header with the right count in front of a slip point: of a shot, a dark capture and a path-check
capture. -/
theorem test_hyps_MatchedHeaderEntersSamples_slip :
    (∀ s ∈ [counting (flying .fire) 0xAA05 2048, counting (flying .dark) 0xAA05 2048,
        counting lateCheck 0xAB05 2048], s.settled ∧ s.rsp.buffer = [.word 2048, .slip])
      ∧ isMark 2048 = false ∧ (flying .fire).rsp.path.running = false
      ∧ (flying .fire).fcu.shot = some ⟨.fire, 0, 3, 5, false, false⟩
      ∧ (flying .dark).fcu.shot = some ⟨.dark, 0, 3, 5, false, false⟩
      ∧ (flying .fire).fcu.state = .running ∧ (2048 : Word).toNat = (flying .fire).fcu.firing.recordLen
      ∧ 2 * readingOf 31 < (flying .dark).progs[(0 : Prog)].eRef ∧ (flying .fire).fcu.weakRun < 15
      ∧ lateCheck.rsp.path.capture = some ⟨5, 2048, false⟩ ∧ lateCheck.rsp.path.running = true := by
  unfold State.settled State.waitSettled; decide +kernel

theorem test_hyps_MatchedHeaderEntersSamples :
    (∀ r : Word, r = 80 ∨ r = 31 →
      (headedAt r).headerAt ⟨.fire, 0, 3, 5, false, false⟩ [] 0xAA05 r 2048
      ∧ (headedAt r).fcu.state = .running ∧ (2048 : Word).toNat = (headedAt r).fcu.firing.recordLen
      ∧ (headedAt r).gau.staging.busy = false
      ∧ 4 * readingOf r ≤ 5 * (headedAt r).progs[(0 : Prog)].eRef ∧ (headedAt r).fcu.weakRun < 15)
    ∧ (let s : State := { headedAt 31 with fcu := { (headedAt 31).fcu with weakRun := 15 } }
      s.headerAt ⟨.fire, 0, 3, 5, false, false⟩ [] 0xAA05 31 2048 ∧ s.fcu.state = .running
        ∧ 2 * readingOf 31 < s.progs[(0 : Prog)].eRef ∧ s.fcu.weakRun = 15)
    ∧ (∀ v ∈ [Staging.idle, .committing ⟨0, .fire, 64, [⟨100, 0⟩]⟩ none],
      (headedDark v).headerAt ⟨.dark, 0, 3, 5, false, false⟩ [] 0xAA05 31 2048
        ∧ (headedDark v).fcu.state = .running ∧ (headedDark v).gau.staging = v
        ∧ 2 * readingOf 31 < (headedDark v).progs[(0 : Prog)].eRef)
    ∧ (headedCheck.settled ∧ headedCheck.rsp.path.running = true
      ∧ headedCheck.rsp.path.capture = some ⟨5, 2048, false⟩ ∧ markTag 0xAB05 = 5 ∧ markTest 0xAB05 = true
      ∧ isMark 2048 = false) := by
  refine ⟨?_, by unfold State.headerAt; decide +kernel, by unfold State.headerAt; decide +kernel, by
    unfold State.settled State.waitSettled; decide +kernel⟩
  rintro r (rfl | rfl) <;> unfold State.headerAt <;> decide +kernel

theorem test_hyps_ServoStaysInRange :
    ∀ m : ServoMode, (⟨m, 200, 8, 0, 15, true⟩ : Servo).drive ≤ ({ prog with driveMax := 200 } : ProgramRec).driveMax
      ∧ (⟨m, 200, 8, 0, 15, true⟩ : Servo).lockRun ≤ 8 ∧ (⟨m, 200, 8, 0, 15, true⟩ : Servo).groupCount < 16 := by
  intro m; cases m <;> decide

/-- R18, R19: the eighth reading in a row within E_ref ÷ 16 enters TRACK; a group ends with its sixteenth shot. -/
theorem test_servo_lock_and_group_end :
    Servo.feed ⟨.acquire, 100, 7, 5, 3, true⟩ { prog with driveMax := 200 } 4 = ⟨.track, 100, 8, 0, 0, true⟩
      ∧ Servo.feed ⟨.acquire, 100, 7, 5, 3, true⟩ { prog with driveMax := 200 } 5 = ⟨.acquire, 100, 0, 5, 3, true⟩
      ∧ Servo.feed ⟨.track, 100, 8, 40, 15, true⟩ { prog with driveMax := 200 } 8 = ⟨.track, 101, 8, 0, 0, true⟩ := by decide

/-! ### The FCU's commands -/

theorem test_reset_ready : State.reset.ready := by
  unfold State.ready Slc.lineSound; decide +kernel

theorem test_run0_ready : run0.ready := by
  unfold State.ready Slc.lineSound; decide +kernel

theorem test_hyps_FiringSettingsReplaced :
    State.reset.ready ∧ State.reset.fcu.state ≠ .running ∧ (blk (firingBytes ⟨200, 512, 199, 0⟩)).single = true
      ∧ (⟨200, 512, 199, 0⟩ : Firing).valid = true :=
  ⟨test_reset_ready, by decide +kernel, by decide +kernel, by decide +kernel⟩

/-- HALTED with an enabled program scheduled. -/
def armed0 : State := { run0 with fcu := { run0.fcu with state := .halted } }

theorem test_armed0_ready : armed0.ready := by
  unfold State.ready Slc.lineSound; decide +kernel

theorem test_hyps_StartEntersRunning :
    armed0.ready ∧ (blk []).single = true ∧ armed0.fcu.state = .halted ∧ armed0.fcu.interlockClosed = true
      ∧ armed0.rsp.path.running = false
      ∧ (∃ (i : Fin 32) (p : Prog), armed0.fcu.schedule[i] = .fire p ∧ armed0.progs[p].enabled = true)
      ∧ armed0.gateFault = none :=
  ⟨test_armed0_ready, by decide +kernel, by decide +kernel, by decide +kernel, by decide +kernel,
    ⟨0, 0, by decide +kernel⟩, by decide +kernel⟩

/-- A program whose one gate ends beyond the record length. -/
def misgated : State :=
  { armed0 with gau := { Gau.reset with gateMap := [(0, ⟨2048, 1⟩)] } }

theorem test_hyps_StartRefusedInOrder :
    (run0.ready ∧ run0.fcu.state ≠ .halted)
      ∧ (State.reset.ready ∧ State.reset.fcu.state = .halted ∧ State.reset.fcu.interlockClosed = true
        ∧ ∀ (i : Fin 32) (p : Prog), State.reset.fcu.schedule[i] = .fire p → State.reset.progs[p].enabled = false)
      ∧ misgated.startReady = true ∧ misgated.gateFault = some (0, 0) := by
  refine ⟨⟨test_run0_ready, by decide +kernel⟩,
    ⟨test_reset_ready, by decide +kernel, by decide +kernel, ?_⟩, by decide +kernel, by decide +kernel⟩
  have h : ∀ p : Prog, State.reset.progs[p].enabled = false := by decide +kernel
  exact fun _ p _ => h p

theorem test_hyps_GateRunsCheckedAndUsed :
    runFault 512 0 [⟨0, 1⟩, ⟨511, 2⟩] = some 1 ∧ runFault 512 0 [⟨0, 1⟩, ⟨511, 1⟩] = none
      ∧ gateOf [⟨0, 1⟩, ⟨511, 1⟩] 511 = some 1 ∧ gateOf [⟨0, 1⟩, ⟨511, 1⟩] 510 = none := by decide

/-- A shot's burst being sampled, one sample short of its end. -/
def sampling (k : ShotKind) : State :=
  { heard (flying k) (.samples ⟨false, 5, 2048, 2047⟩) [.word 16384] with
    gau := { Gau.reset with
      banks := Gau.reset.banks.set 0 { Bank.opened 0 prog 0 ⟨0, 0, false⟩ with elapsed := 1, ownShot := some 3 }
      staging := .staging ⟨0, k, 64, [⟨100, 0⟩]⟩ } }

theorem test_hyps_StopHalts :
    run0.ready ∧ run0.fcu.state = .running ∧ run0.samplingShot = false ∧ (sampling .fire).samplingShot = true
      ∧ State.reset.fcu.state ≠ .running :=
  ⟨test_run0_ready, by decide +kernel, by decide +kernel, by decide +kernel, by decide +kernel⟩

/-- TRIPPED with the chain open. -/
def tripped0 : State := after .interlockOpens run0

theorem test_hyps_InterlockClosingAllowsClearTrip :
    ({ tripped0 with slc := State.reset.slc } : State).ready ∧ tripped0.fcu.state = .tripped
      ∧ tripped0.fcu.interlockClosed = false := by
  unfold State.ready Slc.lineSound; decide +kernel

/-! ### Sample port and bursts -/

/-- A buffer of `n` words, inside a slip spell or not. -/
def filled (n : Nat) (spell : Bool) : State :=
  { State.reset with rsp := { Rsp.reset with buffer := List.replicate n (.word 0), slipSpell := spell } }

theorem test_hyps_SampleWordStoredOrLost :
    (filled 8191 false).rsp.occupancy < 8192 ∧ 8192 ≤ (filled 8192 false).rsp.occupancy
      ∧ (filled 8192 true).rsp.slipSpell = true ∧ isMark 0xAA00 = true ∧ isMark 0xA9FF = false := by
  decide +kernel

theorem test_hyps_ParserOutsideSamples :
    ∀ p ∈ [Parser.hunt, .trail, .header 0xAA05 none, .header 0xAA05 (some 64)],
      (∀ b ∈ [[BufItem.word 0xABFF], [.word 0xAC00], [.slip, .slip, .word 7], [.word 0xABFF, .slip, .word 7],
          [.word 0xAC00, .slip, .slip]], (heard State.reset p b).settled)
        ∧ isMark 0xABFF = true ∧ isMark 0xAC00 = false ∧ ([] : List BufItem).head? ≠ some .slip := by
  intro p hp
  simp only [List.mem_cons, List.not_mem_nil, or_false] at hp
  rcases hp with rfl | rfl | rfl | rfl <;> unfold State.settled State.waitSettled <;> decide +kernel

/-- A path check in which the capture of tag 5 is outstanding, another parser and buffer. -/
def checkHeard (p : Parser) (b : List BufItem) : State := heard lateCheck p b

theorem test_hyps_BurstRejected_headers :
    (∀ s ∈ [counting run0 0xAA05 2048, counting (checking none) 0xAB05 2048, counting (flying .fire) 0xAA04 2048,
        counting (flying .fire) 0xAB05 2048, counting (flying .fire) 0xAA05 2047,
        counting (flying .dark) 0xAA05 2049, counting lateCheck 0xAB04 2048, counting lateCheck 0xAA05 2048,
        counting lateCheck 0xAB05 2047], s.settled)
      ∧ isMark 2047 = false ∧ run0.fcu.shot = none ∧ run0.rsp.path.running = false
      ∧ (checking none).rsp.path.running = true ∧ (checking none).rsp.path.capture = none
      ∧ (markTag 0xAA04 ≠ 5 ∧ markTest 0xAB05 = true ∧ markTag 0xAA05 = 5 ∧ markTest 0xAA05 = false)
      ∧ ((flying .fire).fcu.shot = some ⟨.fire, 0, 3, 5, false, false⟩ ∧ (flying .fire).fcu.state = .running
        ∧ (2047 : Word).toNat ≠ (flying .fire).fcu.firing.recordLen
        ∧ 4 * readingOf 31 ≤ 5 * (flying .fire).progs[(0 : Prog)].eRef ∧ (flying .fire).fcu.weakRun < 15
        ∧ 2 * readingOf 31 < (flying .dark).progs[(0 : Prog)].eRef)
      ∧ (lateCheck.rsp.path.capture = some ⟨5, 2048, false⟩ ∧ lateCheck.rsp.path.running = true
        ∧ markTag 0xAB05 = 5 ∧ markTag 0xAB04 ≠ 5) := by
  unfold State.settled State.waitSettled; decide +kernel

/-- A burst of the shot in flight with one sample taken of 2048, its timer running. -/
def midBurst (path : Bool) (b : List BufItem) : State :=
  let s := heard (if path then lateCheck else flying .fire) (.samples ⟨path, 5, 2048, 1⟩) b
  { s with rsp := { s.rsp with truncTimer := some 1000 } }

theorem test_hyps_BurstRejectedBeforeCompletion :
    (∀ b ∈ [[BufItem.word 0xAA06], [.word 0xAA06, .slip, .word 7], [.slip, .word 7], [.word 16383, .slip, .slip], []],
      (midBurst false b).settled ∧ (midBurst true b).settled)
      ∧ isMark 0xAA06 = true ∧ isMark 16383 = false ∧ 1 + 1 < 2048
      ∧ (midBurst false []).fcu.shot = some ⟨.fire, 0, 3, 5, false, false⟩
      ∧ (midBurst false []).rsp.truncTimer = some 1000
      ∧ ((midBurst true []).settled ∧ (midBurst true []).rsp.parser = .samples ⟨true, 5, 2048, 1⟩
        ∧ (midBurst true []).rsp.truncTimer = some 1000 ∧ (midBurst true []).rsp.path.running = true)
      ∧ (State.reset.settled ∧ State.reset.rsp.parser = .hunt ∧ State.reset.rsp.truncTimer = none) := by
  unfold State.settled State.waitSettled; decide +kernel

/-- The burst of `sampling` with the window of its bank complete, both ends of the profile path busy. -/
def lastOfWindow : State :=
  let s := sampling .fire
  { s with
    gau := { s.gau with
      banks := (s.gau.banks.set 0 { s.gau.banks[(0 : Fin 6)] with elapsed := 16 }).set 1
        { waiting .complete with state := .conditioning }
      queue := [1] }
    pcu := { Pcu.reset with job := some ⟨1, 0, [], none, none⟩ }
    ldu := { Ldu.reset with job := some ⟨1, none⟩ } }

/-- A dark capture's burst one sample short of its end, its program's bank holding `d` dark captures. -/
def lastDark (d : Nat) : State :=
  let s := sampling .dark
  { s with gau := { s.gau with banks := s.gau.banks.set 0 { s.gau.banks[(0 : Fin 6)] with dAcc := d } } }

/-- The same with no bank open. -/
def lastDarkAlone : State := { sampling .dark with gau := { (sampling .dark).gau with banks := Gau.reset.banks } }

theorem test_hyps_LastSampleCommitsOrDiscards :
    (∀ s ∈ [sampling .fire, lastOfWindow, lastDark 16383, lastDark 16384, lastDarkAlone], s.settled
      ∧ s.rsp.buffer = [.word 16384] ∧ s.rsp.parser = .samples ⟨false, 5, 2048, 2047⟩ ∧ s.fcu.shot.isSome = true)
      ∧ (sampling .fire).gau.staging = .staging ⟨0, .fire, 64, [⟨100, 0⟩]⟩
      ∧ (sampling .fire).gau.ownBank 3 = some 0
      ∧ (sampling .fire).gau.banks[(0 : Fin 6)].elapsed < (sampling .fire).gau.banks[(0 : Fin 6)].copy.nTarget
      ∧ isMark 16384 = false
      ∧ (lastOfWindow.gau.ownBank 3 = some 0 ∧ lastOfWindow.gau.queue ≠ [] ∧ (0 : Fin 6) ∉ lastOfWindow.gau.queue
        ∧ lastOfWindow.gau.banks[(0 : Fin 6)].elapsed = lastOfWindow.gau.banks[(0 : Fin 6)].copy.nTarget)
      ∧ (lastDark 16384).gau.accBank 0 = some 0 ∧ lastDarkAlone.gau.accBank 0 = none := by
  unfold State.settled State.waitSettled; decide +kernel

/-- The first sample of a burst waiting for a commit with a held open. -/
def held0 : State :=
  { heard (flying .dark) (.samples ⟨false, 5, 2048, 0⟩) [.word 7] with
    gau := { Gau.reset with staging := .committing ⟨0, .fire, 64, [⟨100, 0⟩]⟩ (some ⟨0, .dark, 3⟩) } }

theorem test_hyps_CommitEndReleasesWaitingWord :
    held0.settled ∧ held0.rsp.parser = .samples ⟨false, 5, 2048, 0⟩ ∧ held0.rsp.buffer = [.word 7]
      ∧ held0.gau.staging = .committing ⟨0, .fire, 64, [⟨100, 0⟩]⟩ (some ⟨0, .dark, 3⟩) := by
  unfold State.settled State.waitSettled; decide +kernel

/-- The word `w` of a path-check burst of tag 5 and two words, `k` taken, the record's sync fields `c`. -/
def checkWord (k : Nat) (c : PathCheck) (w : Word) : State :=
  { lateCheck with rsp := { lateCheck.rsp with
      parser := .samples ⟨true, 5, 2, k⟩, buffer := [.word w]
      path := { c with running := true, n := 2, issued := 2, capture := some ⟨5, 2, true⟩ } } }

/-- One correct word short of IN_SYNC, and one error short of leaving it. -/
def gaining : PathCheck := { PathCheck.reset with correctRun := 47, wordIndex := 47 }

def leaving : PathCheck := { PathCheck.reset with inSync := true, windowErrors := 9, wordIndex := 49 }

theorem test_hyps_PathSyncGainedAndLost :
    (PathCheck.reset.inSync = false ∧ PathCheck.reset.correctRun = 0)
      ∧ ({ PathCheck.reset with inSync := true, wordIndex := 96 } : PathCheck).wordIndex % 48 = 0
      ∧ (∀ s ∈ [checkWord 0 gaining 1285, checkWord 0 leaving 0, checkWord 1 leaving 5378, checkWord 1 gaining 5],
        s.settled ∧ s.rsp.path.running = true)
      ∧ (isMark 1285 || isMark 0 || isMark 5378 || isMark 5) = false ∧ (5 * 257 + 1 * 4093) % 16384 = 5378 := by
  unfold State.settled State.waitSettled; decide +kernel

/-- The last word of the last burst of a check, correct: the forty-eighth in a row (R46 to R48). -/
theorem test_path_last_word :
    let t := after .parserTakesWord (checkWord 1 gaining 5378)
    t.rsp.path.inSync = true ∧ t.rsp.path.running = false ∧ t.ctrs[Ctr.pathBursts] = 1 := by decide +kernel

theorem test_hyps_PathCheckStarts :
    (run0.ready ∧ run0.fcu.state ≠ .halted) ∧ (checking none).ready ∧ (checking none).rsp.path.running = true
      ∧ State.reset.ready ∧ State.reset.fcu.state = .halted ∧ State.reset.rsp.path.running = false
      ∧ (blk (be 2 0)).payload = be 2 0 ∧ (blk (be 2 65535)).payload = be 2 65535 := by
  refine ⟨⟨test_run0_ready, by decide +kernel⟩, ?_, by decide +kernel, test_reset_ready, by decide +kernel⟩
  unfold State.ready Slc.lineSound; decide +kernel

/-! ### Tables -/

/-- A load of one entry at index 2047. -/
def load1 (e : List Byte) : CmdBlock := blk (be 2 2047 ++ be 1 1 ++ e)

theorem test_hyps_TableLoadsWriteTheirRunOnly :
    State.reset.ready ∧ State.reset.tablesWf ∧ (load1 [0x0F, 0xFF, 1]).payload.length
        = 3 + 3 * field (load1 [0x0F, 0xFF, 1]).payload 2 1
      ∧ (readGates (load1 [0x0F, 0xFF, 1]).payload).isSome = true
      ∧ (readCorrection (load1 [0x80, 0x00, 9]).payload).isSome = true
      ∧ (readThresholds (load1 [0, 0, 1]).payload).isSome = true
      ∧ (4096 < field (load1 [0x0F, 0xFF, 2]).payload 3 2 + field (load1 [0x0F, 0xFF, 2]).payload 5 1
        ∧ 23 < field (load1 [0, 0, 24]).payload 5 1 ∧ 8388607 < field (load1 [0x80, 0, 0]).payload 3 3
        ∧ (load1 [0, 0, 24]).payload.length = 3 + 3 * field (load1 [0, 0, 24]).payload 2 1)
      ∧ (run0.ready ∧ run0.fcu.state = .running ∧ run0.runEnabled 0 1 = true)
      ∧ (closed0 .complete).gau.runWaiting 0 1 = true ∧ cond0.correctionHeld 0 1 = true
      ∧ (after .detectionBegin (ready0 (result0 true))).thresholdsHeld 0 1 = true := by
  refine ⟨test_reset_ready, ?_, by decide +kernel, by decide +kernel, by decide +kernel, by decide +kernel,
    by decide +kernel, ⟨test_run0_ready, by decide +kernel⟩, by decide +kernel⟩
  unfold State.tablesWf; decide +kernel

/-! ### Conditioning -/

theorem test_hyps_ConditioningBegins :
    State.reset.detReady = none ∧ State.reset.condReady = none
      ∧ (closed0 .complete).condReady = some (0, 0)
      ∧ (lduBusy (closed0 .void)).detReady = none ∧ (lduBusy (closed0 .void)).condReady = some (0, 0)
      ∧ (lduBusy (closed0 .void)).gau.banks[(0 : Fin 6)].outcome = some .void
      ∧ (lduBusy (closed0 .void)).gau.queue = [0] := by decide +kernel

theorem test_hyps_ConditioningCompletes :
    ∃ (j : PcuJob) (r : ResultRec), (lduBusy cond0).pcu.job = some j ∧ (lduBusy cond0).gau.queue = [j.bank]
      ∧ (lduBusy cond0).ldu.job.isSome = true ∧ (lduBusy cond0).pcu.bufs[j.buf].record = some r :=
  ⟨⟨0, 0, [⟨32768, 9⟩], none, none⟩, (closed0 .complete).beginRecord (waiting .complete), by decide +kernel⟩

theorem test_hyps_QuotientsRoundAndBetasClamp :
    1 ≤ 2 ∧ (arith (waiting .complete) [⟨0, 1⟩] ⟨0, 0, [⟨32768, 9⟩], none, none⟩).cond.betas
      = [⟨256000, true⟩]
      ∧ (let k := waiting .complete
         let h : HeldRec := ⟨1, 0, [7]⟩
         1 ≤ k.nAcc ∧ k.gates.length = 1 ∧ k.copy.gateCount = 1 ∧ k.copy.tailGates ≤ 1
           ∧ h.gateCount = 1 ∧ h.values.length = 1) := by decide +kernel

/-- Echo arguments of program `p`, one gate. -/
def echo (p : Nat) : CmdBlock := blk (be 1 p ++ be 2 0 ++ be 1 1 ++ be 3 500)

theorem test_hyps_EchoInjected :
    run0.ready ∧ (echo 0).single = true ∧ (echo 0).payload.length = 7 ∧ (readEcho (echo 4).payload).prog = 4
      ∧ (let e := readEcho (echo 0).payload
         1 ≤ e.count ∧ e.count ≤ 16 ∧ e.first + e.count ≤ run0.progs[(0 : Prog)].gateCount)
      ∧ run0.progs[(0 : Prog)].enabled = true ∧ run0.pcu.pendingInj[(0 : Prog)] = none
      ∧ State.reset.fcu.state ≠ .running :=
  ⟨test_run0_ready, by decide +kernel⟩

/-! ### Detection, tracking, sky -/

theorem test_hyps_DetectionBegins :
    (∀ r ∈ [result0 true, result0 false], (ready0 r).condReady = none ∧ (ready0 r).waitSettled
      ∧ (ready0 r).ldu.job = none ∧ (ready0 r).pcu.readyOrder = 0 :: []
      ∧ (ready0 r).pcu.bufs[(0 : Fin 2)] = ⟨.ready, some r⟩ ∧ r.cond.isSome = true)
      ∧ (result0 true).copy.detection = true
      ∧ ({ result0 true with cond := none } : ResultRec).cond = none
      ∧ (result0 false).copy.detection = false ∧ (result0 false).copy.divider = 0
      ∧ (∀ i : Fin 4, (ready0 (result0 false)).sku.captures[i].pending = true →
        (ready0 (result0 false)).sku.captures[i].prog ≠ (result0 false).prog) := by
  unfold State.waitSettled; decide +kernel

/-- A part in which entry 2 of the Capture Trigger Table is pending for program 0. -/
def requested0 : State :=
  { State.reset with
    sku := { Sku.reset with captures := Sku.reset.captures.set 2 ⟨.trackNew, 0, 0, false, true⟩ } }

/-- The same with the descriptor queue full. -/
def requestedFull : State :=
  { requested0 with slc := { State.reset.slc with queue := List.replicate 32 layer1 } }

theorem test_hyps_DetectionCompletes :
    (let s := after .detectionBegin (ready0 (result0 true));
      s.ldu.job = some ⟨0, some [8388607]⟩ ∧ s.pcu.bufs[(0 : Fin 2)].record = some (result0 true)
      ∧ (result0 true).cond.isSome = true ∧ s.pcu.readyOrder = [] ∧ s.gau.queue = []
      ∧ State.reset.ldu.job = none)
    ∧ (∃ i : Fin 4, requested0.sku.captures[i].pending = true ∧ requested0.sku.captures[i].prog = 0)
    ∧ (let r := result0 true
       let c : Conditioned := ⟨64, false, false, 3, false, [⟨500, false⟩]⟩
       (profilePayload r c true false).length = 43
       ∧ requested0.slc.fits 43 = true ∧ requestedFull.slc.fits 43 = false
       ∧ ∀ g ∈ requestedFull.slc.queue, g.level ≤ requestedFull.slc.levels.profile)
    ∧ (2 ≠ 0 ∧ 2 ≤ State.reset.ldu.frameCount[(0 : Prog)] + 2) := by
  refine ⟨by decide +kernel, ⟨2, by decide +kernel⟩, by decide +kernel, by decide +kernel⟩

/-- A full Track Table of CONFIRMED tracks 100 apart. -/
def fullTable : State :=
  { State.reset with
    ltu := { Ltu.reset with
      nextId := 11
      tracks := (List.range 10).map fun i =>
        ⟨i + 1, .confirmed, 100 * (i + 1), none, 0, [true, true, true, true], 0, 9, 0, 1, false⟩ } }

/-- Two candidates far from every track. -/
def strangers : Detection :=
  ⟨0, 0, ⟨0, 0, false⟩, 0, 4095, false, false, false, [⟨2000, none, 2000, 9, false⟩, ⟨3000, none, 3000, 9, false⟩],
    false, none⟩

/-- A full table of TENTATIVE tracks of one HIT each, ids 250 to 255 and 1 to 4. -/
def newcomers : Creation :=
  ⟨(List.range 10).map fun i => ⟨(249 + i) % 255 + 1, .tentative, 100, none, 0, [true], 0, 1, 0, 1, false⟩, 255,
    [], 0, 0, 0⟩

theorem test_hyps_DetectionCompletes_tracking :
    (newcomers.tracks.map Track.id).Nodup ∧ newcomers.tracks.length = 10
      ∧ (newcomers.tracks.filter fun t => t.eligible newcomers.touched) = newcomers.tracks
      ∧ (∀ u ∈ newcomers.tracks, u.id ≤ 255)
      ∧ (fullTable.ltu.tracks.map Track.id).Nodup ∧ fullTable.ltu.tracks.length = 10
      ∧ (∀ t ∈ fullTable.ltu.tracks, t.state ≠ .tentative)
      ∧ State.reset.ltu.tracks.length < 10 ∧ State.reset.ltu.nextId = 1
      ∧ (Machine.dist 100 120 ≤ 40 ∧ 40 < Machine.dist 100 200)
      ∧ strangers.obscured = false
      ∧ ({ strangers with cands := [], obscured := true, vv := some 63 } : Detection).vv.isSome = true := by
  decide +kernel

/-- R114, R125: the highest id among equal bases is displaced, and its id is the next one free. -/
theorem test_displacement_takes_freed_id :
    let x := newcomers.take ⟨4, 5, 3, 40, 16, 4⟩ strangers ⟨2000, none, 2000, 9, false⟩
    x.displaced = 1 ∧ x.created = 1 ∧ x.nextId = 1 ∧ (x.tracks.map Track.id).getLast? = some 255 := by
  decide +kernel

/-- Nine layers of two gates, two low gates between them. -/
def nineLayers : List ScanGate :=
  (List.range 36).map fun g => ⟨⟨g, 1⟩, ⟨if g % 4 < 2 then 9 else 0, false⟩, 5⟩

/-- Gates 10, 14, … of width 4 with these β, the result record of their program with a VV limit. -/
def column (bs : List Int) (limit : Nat) : ResultRec × Conditioned :=
  ({ result0 true with
      copy := { prog with vvLimit := limit }, shape := (List.range bs.length).map fun i => ⟨10 + 4 * i, 4⟩ },
    ⟨64, false, false, 3, false, bs.map (⟨·, false⟩)⟩)

/-- What the detection finds in such a column with on thresholds of 5. -/
def found0 (bs : List Int) (limit : Nat) : Found × Bool :=
  let gs := scanGates (column bs limit).1.shape (column bs limit).2.betas (bs.map fun _ => 5)
  findings (column bs limit).1 gs (scanFrom gs)

/-- R102, R103: an open layer from the detect start gate, with the integral at the limit in its second gate
and below it at the last; a layer above that gate leaves the profile clear of obscuration. -/
theorem test_hyps_ScanKeepsEightCandidates :
    (scanFrom nineLayers).drops = 1
      ∧ (∀ n, n = 1 ∨ n = 3 → (column (List.replicate n 9) 72).1.shape.Pairwise fun a b => a.first < b.first)
      ∧ found0 [9, 9, 9] 72 = (⟨[], false, true, some 17⟩, false)
      ∧ found0 [9, 9, 9] 109 = (⟨[], false, true, some 21⟩, true)
      ∧ found0 [9] 36 = (⟨[], false, true, some 13⟩, false)
      ∧ (found0 [0, 9, 9] 36).1.obscured = false := by
  refine ⟨by decide +kernel, ?_, by decide +kernel⟩
  rintro n (rfl | rfl) <;> decide +kernel

theorem test_hyps_TrackTableKept : State.reset.ltu.sound := by
  unfold Ltu.sound; decide +kernel

theorem test_hyps_TrackingAndSkyCommands :
    State.reset.ready ∧ (blk []).single = true ∧ (⟨5, 5, 15, 1, 0, 8⟩ : TrackParams).valid = true
      ∧ (readSky (be 2 4095 ++ be 2 0 ++ be 1 255)).isSome = true
      ∧ (readCapture (be 1 3 ++ [CaptureCond.trackNew.code] ++ be 2 4095 ++ be 1 3)).isSome = true :=
  ⟨test_reset_ready, by decide +kernel⟩

/-- A LAYERED sky over a CONFIRMED track at 100, threshold 101 and hysteresis 5, R of 2. -/
def layered0 : State :=
  { State.reset with
    ltu := { Ltu.reset with tracks := [⟨1, .confirmed, 100, none, 0, [true], 0, 1, 0, 1, false⟩] }
    sku := { Sku.reset with
      sky := .layered, threshold := 101, hysteresis := 5, divider := 2, reportCount := 1
      captures := Sku.reset.captures.set 0 ⟨.trackNew, 0, 0, true, false⟩ } }

/-- The same sky with no track left, the CLEAR re-arm flag set or clear. -/
def clearing (rearm : Bool) : State :=
  { layered0 with ltu := Ltu.reset, sku := { layered0.sku with clearRearm := rearm } }

/-- R138: a change from LAYERED into CLEAR is raised while the flag is set, and suppressed while it is clear;
the held line of `State.track` stands at a block boundary. -/
theorem test_hyps_ObscurationHeldForThreeSummaries_changes :
    let m : Summary := ⟨0, 0, ⟨0, 0, false⟩, false, false, 48, false, none, 0⟩
    (((clearing true).sku.decide (clearing true).ltu.tracks m).sky = .clear
      ∧ (clearing true).sku.sky = .layered ∧ (clearing true).sku.clearRearm = true
      ∧ (clearing false).sku.clearRearm = false)
    ∧ ((clearing true).skyStep m).ctrs[Ctr.skyChangeRaises] = 1
    ∧ ((clearing false).skyStep m).ctrs[Ctr.clearSuppressed] = 1
    ∧ (State.reset.withLink State.reset.link.hold).slc.phase = .boundary
    ∧ (State.reset.withLink State.reset.link.hold).slc.fits 256 = true := by decide +kernel

theorem test_hyps_ObscurationHeldForThreeSummaries :
    (⟨0, 0, ⟨0, 0, false⟩, false, false, 48, true, some 63, 0⟩ : Summary).obscured = true
      ∧ (⟨0, 0, ⟨0, 0, false⟩, false, false, 63, false, none, 0⟩ : Summary).detStart ≤ 63
      ∧ 63 < (⟨1, 0, ⟨0, 0, false⟩, false, false, 64, false, none, 0⟩ : Summary).detStart
      ∧ (layered0.ceilingStep.sku.ceiling = some 100 ∧ layered0.sku.ceilingLow = false
        ∧ 100 < layered0.sku.threshold)
      ∧ (layered0.sku.captures[(0 : Fin 4)].armed = true ∧ layered0.sku.captures[(0 : Fin 4)].cond = .trackNew)
      ∧ layered0.sku.divider ≤ layered0.sku.reportCount + 1
      ∧ (layerPayload layered0.slc.time layered0.sku layered0.ltu.tracks
          ⟨0, 0, ⟨0, 0, false⟩, false, false, 48, false, none, 0⟩).length ≤ 256
      ∧ layered0.slc.fits 256 = true := by decide +kernel

/-! ### The station line -/

/-- R149: A5H is sent as start bit, 1 0 1 0 0 1 0 1, stop bit; 10 selects 921,600 baud. -/
theorem test_char_bits :
    charBits 0xA5 = [false, true, false, true, false, false, true, false, true, true]
      ∧ heardChar (charBits 0xA5) = some (0xA5, true) ∧ heardChar [true] = none
      ∧ [0, 1, 2, 3].map baud = [115200, 460800, 921600, 2000000] := by decide

theorem test_hyps_InboundBlockDelivered :
    State.reset.slc.inParser = .hunt
      ∧ (⟨0x14, 7, 0, true, List.replicate 256 0⟩ : InBlock).payload.length ≤ 256
      ∧ ({ State.reset.slc with txBlock := [0xA5, 7] } : Slc).txBlock[1]? = some 7 := by decide +kernel

theorem test_hyps_InboundDiscards :
    (([0x10, 0, 0, 1, 1] : List Byte).length = 5 ∧ 256 < field (([0x10, 0, 0, 1, 1] : List Byte) ++ [1]) 4 2)
      ∧ ¬ 256 < field (([0x10, 0, 0, 1, 1] : List Byte) ++ [0]) 4 2
      ∧ State.reset.slc.inParser = .hunt ∧ (InParser.header [] ≠ .hunt) := by decide

/-- A part with `n` blocks waiting inbound, RESETTING. -/
def queued (n : Nat) : State :=
  { State.reset with
    mgu := .resetting, slc := { State.reset.slc with inbound := List.replicate n ⟨0x14, 7, 0, true, []⟩ } }

theorem test_hyps_CommandsWaitOrOverrun :
    commandRow (.stop (blk [])) = some ⟨0x14, 7, 0, true, []⟩ ∧ (queued 3).slc.inbound.length < 4
      ∧ (queued 3).mgu = .resetting ∧ (queued 4).slc.inbound.length = 4 := by decide +kernel

/-- The same part with a LAYER frame queued. -/
def queuing (s : State) : State := { s with slc := { s.slc with queue := [layer1] } }

theorem test_hyps_BlockCompleteArbitrates :
    (sending frame300).slc.current = some frame300 ∧ frame300.sent + 1 < frame300.blocks
      ∧ ((queuing (sending frame300)).slc.highest = some layer1 ∧ layer1.level < frame300.level
        ∧ (queuing (sending frame300)).slc.stack.length < 3 ∧ layer1.sent = 0)
      ∧ (layer1.blocks ≤ layer1.sent + 1 ∧ layer1.after = .nothing ∧ (sending layer1).slc.inbound = []
        ∧ (sending layer1).slc.unmaskedPending = false ∧ (sending layer1).slc.highest = none
        ∧ (sending layer1).slc.stack = []) := by decide +kernel

theorem test_hyps_SentAndDroppedByPriority :
    firstToSend [frame300, layer1] = some layer1
      ∧ victim 1 [layer1, frame300, { frame300 with tag := 9 }] = some frame300
      ∧ (State.reset.link.place layer1).enqueued = true
      ∧ (let l : Link := ⟨{ State.reset.slc with queue := List.replicate 32 layer1 }, State.reset.ctrs⟩
         (l.place frame300).enqueued = false ∧ l.slc.fits layer1.size = false)
      ∧ (let l : Link := ⟨{ State.reset.slc with queue := List.replicate 32 frame300 }, State.reset.ctrs⟩
         l.slc.fits layer1.size = false ∧ victim layer1.level l.slc.queue = some frame300) := by decide +kernel

/-- R125: two discards on an idle line are counted and raised twice, and lead to one NOTICE frame, which
carries TRACK_TABLE_FULL (bit 13). -/
theorem test_two_discards_one_notice :
    let t := fullTable.track strangers
    t.ctrs[Ctr.candidatesDiscarded] = 2 ∧ t.ctrs[Ctr.noticeFrames] = 1
      ∧ (t.slc.queue.filter fun f => f.kind = .notice) = []
      ∧ t.slc.noticeSet = 0 ∧ (t.slc.current.map Frame.kind) = some .notice
      ∧ (t.slc.current.map fun f => (f.payload.getD 9 0).getLsbD 5) = some true := by decide +kernel

/-- R138, R148: a change from UNKNOWN to CLEAR with the re-arm flag clear is counted and raises nothing. -/
theorem test_clear_suppressed :
    let t := State.reset.track { strangers with cands := [] }
    t.sku.sky = .clear ∧ t.ctrs[Ctr.clearSuppressed] = 1 ∧ t.ctrs[Ctr.skyChangeRaises] = 0 := by decide +kernel

theorem test_hyps_RaisedNoticeIsPendingOrSent :
    1 ≤ (fullTable.ltu.update strangers).discarded ∧ fullTable.slc.phase ≠ .boundary
      ∧ (fullTable.slc.queue.filter fun f => f.kind = .notice).length ≤ 1
      ∧ (sending layer1).slc.phase ≠ .idle := by decide +kernel

/-- One whole second before the report of a 3-second period is due. -/
def due : State := { State.reset with slc := { State.reset.slc with interval := 3, elapsed := 3, span := 3 } }

theorem test_hyps_IntervalReportBuilt :
    (1 ≤ due.slc.interval ∧ due.slc.elapsed = due.slc.interval ∧ due.slc.fits 81 = true ∧ due.slc.lineSound
      ∧ due.slc.span < 4294967296) ∧ State.reset.slc.interval = 0 := by
  unfold Slc.lineSound; decide +kernel

/-- The last microsecond of the second that makes the report of a 1-second period due. -/
def nearlyDue : State := { State.reset with slc := { State.reset.slc with interval := 1, runUsec := 999999 } }

theorem test_hyps_TimebaseCountsMicroseconds :
    State.reset.slc.interval = 0 ∧ State.reset.slc.time.sec < 4294967296
      ∧ State.reset.slc.time.usec < 1000000 ∧ State.reset.slc.runUsec < 1000000
      ∧ State.reset.slc.runUsec < 999999
      ∧ (nearlyDue.slc.runUsec = 999999 ∧ 1 ≤ nearlyDue.slc.interval
        ∧ nearlyDue.slc.elapsed + 1 = nearlyDue.slc.interval ∧ nearlyDue.slc.fits 81 = true) := by decide +kernel

/-- R160: the INTERVAL frame is enqueued at the whole second. -/
theorem test_whole_second_report :
    (after .timebaseAdvance nearlyDue).ctrs[Ctr.intervalFrames] = 1
      ∧ (after .timebaseAdvance nearlyDue).slc.elapsed = 0 := by decide +kernel

theorem test_hyps_TimeAndReportingCommands :
    State.reset.ready ∧ (blk (be 4 0 ++ be 4 999999)).single = true
      ∧ (let r : Reporting := ⟨⟨3, 1, 1, 2, 3⟩, 0xFFFF, 3600, 255⟩
         readReporting (reportingBytes r) = some r) := ⟨test_reset_ready, by decide +kernel⟩

/-! ### Programs, reads, resets, refusals -/

theorem test_hyps_ProgramRecordWritten :
    State.reset.ready ∧ State.reset.fcu.state ≠ .running ∧ (blk (programBytes 3 prog)).single = true
      ∧ prog.valid = true := ⟨test_reset_ready, by decide +kernel⟩

theorem test_hyps_ReadsReport :
    State.reset.ready ∧ (blk (be 1 6)).single = true ∧ State.reset.gau.queue.length ≤ 6
      ∧ 54 + 63 ≤ 117 ∧ (blk (be 1 54 ++ be 1 63 ++ [bit1 true])).single = true :=
  ⟨test_reset_ready, by decide +kernel⟩

/-- A response of one block. -/
def response1 (a : AfterSend) : Frame := ⟨.response, 0, 7, 2, [0x25, 0], 0, a⟩

theorem test_hyps_ResponsesWithAfterEffects :
    State.reset.ready ∧ (blk []).single = true
      ∧ (∀ a, (sending (response1 a)).slc.current = some (response1 a)
        ∧ (response1 a).blocks ≤ (response1 a).sent + 1 ∧ (sending (response1 a)).slc.inbound = []
        ∧ (sending (response1 a)).slc.unmaskedPending = false ∧ (sending (response1 a)).slc.highest = none) := by
  refine ⟨test_reset_ready, by decide, fun a => ?_⟩
  cases a <;> decide +kernel

/-- A payload with its first byte out of range. -/
def wide (p : List Byte) : List Byte := 255 :: p.drop 1

theorem test_hyps_BlocksRefused_ranges :
    (3 < field (wide (programBytes 0 prog)) 0 1 ∧ (wide (programBytes 0 prog)).length = 29)
      ∧ (10000 < field (wide (firingBytes ⟨1000, 2048, 100, 0⟩)) 0 2
        ∧ (wide (firingBytes ⟨1000, 2048, 100, 0⟩)).length = 10)
      ∧ (2 < field (wide (scheduleBytes (Vector.replicate 32 .skip))) 0 1 / 16
        ∧ (wide (scheduleBytes (Vector.replicate 32 .skip))).length = 32)
      ∧ (field (wide (trackingBytes ⟨4, 5, 3, 40, 16, 4⟩)) 1 1 < field (wide (trackingBytes ⟨4, 5, 3, 40, 16, 4⟩)) 0 1
        ∧ (wide (trackingBytes ⟨4, 5, 3, 40, 16, 4⟩)).length = 8)
      ∧ (4095 < field (wide [0, 0, 0, 0, 1]) 0 2 ∧ 3 < field (wide [0, 1, 0, 0, 0]) 0 1)
      ∧ (3 < field (wide (reportingBytes ⟨⟨0, 1, 1, 2, 3⟩, 0, 0, 16⟩)) 0 1
        ∧ (wide (reportingBytes ⟨⟨0, 1, 1, 2, 3⟩, 0, 0, 16⟩)).length = 10)
      ∧ (999999 < field (be 4 0 ++ be 4 1000000) 4 4 ∧ 117 < field [54, 64, 0] 0 1 + field [54, 64, 0] 1 1) := by
  decide +kernel

theorem test_hyps_BlocksRefused :
    State.reset.ready ∧ commandRow (.unknownCommand 0x26 (blk [])) = some ⟨0x26, 7, 0, true, []⟩
      ∧ commandKind 0x26 = false ∧ commandKind 0x0F = false ∧ (⟨7, 1, true, []⟩ : CmdBlock).single = false
      ∧ commandOf 0x10 = some .setProgram ∧ commandOf 0x25 = some .softReset
      ∧ (blk []).payload.length ≠ Command.length [] .setProgram
      ∧ (run0.ready ∧ run0.fcu.state = .running)
      ∧ readFiring (firingBytes ⟨99, 512, 10, 0⟩) = none ∧ 6 < field (blk (be 1 7)).payload 0 1 :=
  ⟨test_reset_ready, by decide, by decide, by decide, by decide, by decide, by decide, by decide,
    ⟨test_run0_ready, by decide +kernel⟩, by decide +kernel⟩

theorem test_hyps_RefusalChangesNothing :
    let f := responseTo State.reset.slc 0x15 (blk []) .wrongState [] .nothing
    State.reset.ready ∧ commandRow (.clearTrip (blk [])) = some ⟨0x15, 7, 0, true, []⟩
      ∧ (after (.clearTrip (blk [])) State.reset).slc.held = f :: State.reset.slc.held
      ∧ exec (.clearTrip (blk [])) State.reset = .next (after (.clearTrip (blk [])) State.reset)
      ∧ f.payload.getD 1 0 ≠ 0 ∧ f.payload.getD 1 0 ≠ 1 :=
  ⟨test_reset_ready, by decide, by decide +kernel, rfl, by decide, by decide⟩

theorem test_hyps_OperandsReadBack :
    prog.valid = true ∧ (⟨10000, 4096, 1000, 4193280⟩ : Firing).valid = true
      ∧ (⟨1, 3, 1, 0, 0, 1⟩ : TrackParams).valid = true
      ∧ (([⟨4032, 64⟩] : List GateEntry).length ≤ 63 ∧ 2047 + 1 ≤ 2048 ∧ 4032 + 64 ≤ 4096)
      ∧ (([⟨65535, 23⟩] : List CorrEntry).length ≤ 84 ∧ ([8388607] : List Nat).length ≤ 84)
      ∧ readEcho (be 1 3 ++ be 2 1023 ++ be 1 16 ++ beInt 3 (-8388608)) = ⟨3, 1023, 16, -8388608⟩
      ∧ readCounterRange (be 1 54 ++ be 1 63 ++ [bit1 true]) = some (54, 63, true) := by decide

/-! ### Invariants -/

theorem test_hyps_FcuStaysSafe :
    State.reset.fcuSafe ∧ exec .slotTime State.reset = .next (after .slotTime State.reset) := by
  refine ⟨?_, rfl⟩
  unfold State.fcuSafe; decide +kernel

theorem test_hyps_TablesAndStoresKept :
    State.reset.tablesWf ∧ State.reset.storesBounded ∧ State.reset.countersBounded := by
  unfold State.tablesWf State.storesBounded State.countersBounded; decide +kernel

theorem test_reset_pathSound : State.reset.pathSound := by
  unfold State.pathSound
  refine ⟨by decide +kernel, by decide +kernel, ?_, by decide +kernel, by decide +kernel, by decide +kernel,
    ?_, ?_, by decide +kernel⟩ <;> (intro b; revert b; decide +kernel)

theorem test_hyps_ProfilePathSettles : State.reset.pathSound ∧ State.reset.settled :=
  ⟨test_reset_pathSound, test_reset_settled⟩

theorem test_hyps_OutboundStoresNeverOverflow :
    State.reset.pathSound ∧ State.reset.settled ∧ State.reset.outboundSound := by
  refine ⟨test_reset_pathSound, test_reset_settled, ?_⟩
  unfold State.outboundSound Slc.lineSound; decide +kernel

end Sys2Proof.Tests
end

section
/-! SUPPORT. Counters across several events of one step, and what every command does in a part that is
ready for it: the checks of R165, the answer, the refusal. -/

namespace Sys2Proof.Machine

/-! ### Counters of two states -/

theorem ctrsKept_refl (cs : List Ctr) (s : State) : ctrsKept cs s s := fun _ _ => rfl

theorem ctrsKept_trans {cs : List Ctr} {s u t : State} (h : ctrsKept cs s u) (k : ctrsKept cs u t) :
    ctrsKept cs s t := fun c hc => (k c hc).trans (h c hc)

theorem ctrsKept_mono {cs ds : List Ctr} {s t : State} (h : ctrsKept cs s t) (k : ∀ c ∈ cs, c ∈ ds) :
    ctrsKept ds s t := fun c hc => h c fun hm => hc (k c hm)

theorem ctrsKept_bumpBy {cs : List Ctr} {c : Ctr} (s : State) (n : Nat) (h : c ∈ cs) :
    ctrsKept cs s (s.bumpBy c n) := ctrsWithin_add s.ctrs n h

theorem ctrsKept_bump {cs : List Ctr} {c : Ctr} (s : State) (h : c ∈ cs) : ctrsKept cs s (s.bump c) :=
  ctrsWithin_add s.ctrs 1 h

theorem ctrsKept_bumpIf {cs : List Ctr} {c : Ctr} (s : State) (q : Bool) (h : c ∈ cs) :
    ctrsKept cs s (s.bumpIf q c) := by
  cases q
  · exact ctrsKept_refl cs s
  · exact ctrsKept_bump s h

theorem State.raise_ctrsKept (s : State) (k : NoticeKind) : ctrsKept raiseCtrs s (s.raise k) :=
  Link.raise_ctrs s.link k

theorem State.offer_ctrsKept (s : State) (k : FrameKind) (p : List Byte) :
    ctrsKept raiseCtrs s (s.offer k p).1 := Link.offer_ctrs s.link k p

theorem counted_bump (s : State) (c : Ctr) : counted c s (s.bump c) := Counters.add_get_self s.ctrs c 1

/-- An occurrence counted at the end of a step whose earlier part left the counter alone. -/
theorem counted_after_kept {cs : List Ctr} {c : Ctr} {s u t : State} (h : ctrsKept cs s u) (hc : c ∉ cs)
    (k : counted c u t) : counted c s t := by
  unfold counted at *; rw [k, h c hc]

/-- An occurrence counted at the start of a step whose later part leaves the counter alone. -/
theorem counted_before_kept {cs : List Ctr} {c : Ctr} {s u t : State} (h : counted c s u)
    (k : ctrsKept cs u t) (hc : c ∉ cs) : counted c s t := (k c hc).trans h

/-! ### Commands at a ready part (R163 to R165) -/

/-- Taking a command changes counters only. -/
@[simp] theorem State.taken_frame (s : State) :
    s.taken.progs = s.progs ∧ s.taken.fcu = s.fcu ∧ s.taken.rsp = s.rsp ∧ s.taken.gau = s.gau
      ∧ s.taken.pcu = s.pcu ∧ s.taken.ldu = s.ldu ∧ s.taken.ltu = s.ltu ∧ s.taken.sku = s.sku
      ∧ s.taken.slc = s.slc ∧ s.taken.mgu = s.mgu ∧ s.taken.pending = s.pending := by
  simp [State.taken]

theorem State.taken_counted (s : State) : counted Ctr.inboundGood s s.taken
    ∧ counted Ctr.commandsTaken s s.taken :=
  ⟨counted_before_kept (counted_bump s _) (ctrsKept_bump (cs := [Ctr.commandsTaken]) _ (by decide)) (by decide),
    counted_after_kept (ctrsKept_bump (cs := [Ctr.inboundGood]) s (by decide)) (by decide) (counted_bump _ _)⟩

theorem State.taken_ctrsKept (s : State) : ctrsKept [Ctr.inboundGood, Ctr.commandsTaken] s s.taken :=
  ctrsKept_trans (ctrsKept_bump s (by decide)) (ctrsKept_bump _ (by decide))

/-- Answering a command touches the SLC and the counters alone. -/
@[simp] theorem Answer.respond_frame (a : Answer) (b : InBlock) :
    (a.respond b).progs = a.st.progs ∧ (a.respond b).fcu = a.st.fcu ∧ (a.respond b).rsp = a.st.rsp
      ∧ (a.respond b).gau = a.st.gau ∧ (a.respond b).pcu = a.st.pcu ∧ (a.respond b).ldu = a.st.ldu
      ∧ (a.respond b).ltu = a.st.ltu ∧ (a.respond b).sku = a.st.sku ∧ (a.respond b).mgu = a.st.mgu
      ∧ (a.respond b).pending = a.st.pending := by simp [Answer.respond]

/-- A command executed with result OK adds nothing to its response. -/
@[simp] theorem State.ok_spec (s : State) :
    s.ok.st = s ∧ s.ok.result = .ok ∧ s.ok.extra = [] ∧ s.ok.after = .nothing := by simp [State.ok]

/-- A command block that passes the checks 1 to 3 of R165 at a ready part is run and answered. -/
theorem State.deliver_command (s : State) (kind : Byte) (b : CmdBlock) (c : Command) (h : s.ready)
    (hb : b.single = true) (hc : commandOf kind = some c) (hl : b.payload.length = c.length b.payload) :
    s.deliver (inBlock kind b) = (c.run s.taken b.payload).respond (inBlock kind b) := by
  have hsingle : b.segment = 0 ∧ b.last = true := by simpa [CmdBlock.single] using hb
  rw [State.deliver_ready s _ h]
  simp [State.execute, inBlock, hsingle, hc, ← hl]

/-- Past the refusal counter, an answer counts only what starting a block counts. -/
theorem Answer.respond_ctrsKept (a : Answer) (b : InBlock) :
    ctrsKept blockCtrs (a.st.bumpIf a.result.refusal Ctr.commandsRefused) (a.respond b) :=
  Link.putResponse_ctrs _ b.tag ([b.kind, a.result.code] ++ a.extra) a.after

/-- A command that leaves the SLC and the two counters of its taking to the MGU is answered with one
response (R164). -/
theorem Answer.respond_answered {s : State} {cs : List Ctr} (a : Answer) (kind : Byte) (b : CmdBlock)
    (h : s.ready) (hslc : a.st.slc = s.slc) (hk : ctrsKept cs s.taken a.st)
    (hgood : Ctr.inboundGood ∉ cs) (htaken : Ctr.commandsTaken ∉ cs) :
    s.answered (a.respond (inBlock kind b)) (responseTo s.slc kind b a.result a.extra a.after) := by
  obtain ⟨-, hin, -, hline⟩ := h
  obtain ⟨hheld, hset, hctrs⟩ := Answer.respond_spec a (inBlock kind b) (hslc ▸ hline)
  obtain ⟨hgoodTaken, htakenTaken⟩ := s.taken_counted
  rw [hslc] at hheld hset
  obtain ⟨-, -, -, -, hinb, -⟩ := hset
  refine ⟨?_, hinb.trans hin, ?_, ?_⟩
  · simpa [responseTo, inBlock, Nat.add_comm 2] using hheld
  · exact counted_before_kept (counted_before_kept hgoodTaken hk hgood) hctrs (by decide)
  · exact counted_before_kept (counted_before_kept htakenTaken hk htaken) hctrs (by decide)

/-- The SLC keeps its settings through the answering of a command that leaves the SLC alone. -/
theorem Answer.respond_sameSettings {s : State} (a : Answer) (b : InBlock) (h : s.ready)
    (hslc : a.st.slc = s.slc) : (a.respond b).slc.sameSettings s.slc := by
  obtain ⟨-, -, -, hline⟩ := h
  obtain ⟨-, hset, -⟩ := Answer.respond_spec a b (hslc ▸ hline)
  exact hslc ▸ hset

/-- Answering a command changes no block but the SLC, and of that no setting. -/
theorem Answer.respond_sameButLine {s u : State} (a : Answer) (b : InBlock) (h : s.ready)
    (hu : u.slc = s.slc) (hslc : a.st.slc = s.slc)
    (hst : u.progs = a.st.progs ∧ u.fcu = a.st.fcu ∧ u.rsp = a.st.rsp ∧ u.gau = a.st.gau
      ∧ u.pcu = a.st.pcu ∧ u.ldu = a.st.ldu ∧ u.ltu = a.st.ltu ∧ u.sku = a.st.sku ∧ u.mgu = a.st.mgu
      ∧ u.pending = a.st.pending) : u.sameButLine (a.respond b) := by
  have hset := Answer.respond_sameSettings a b h hslc
  simp_all [State.sameButLine]

/-- A command executed and not refused increases the counters that it touched itself, and those of any
answered command. -/
theorem Answer.respond_ok_ctrsKept {s : State} {cs : List Ctr} (a : Answer) (b : InBlock)
    (hr : a.result.refusal = false) (hk : ctrsKept cs s.taken a.st) :
    ctrsKept (cs ++ commandCtrs) s (a.respond b) := by
  have htaken := ctrsKept_mono s.taken_ctrsKept (ds := cs ++ commandCtrs) (by simp [commandCtrs])
  have hrun := ctrsKept_mono hk (ds := cs ++ commandCtrs) (by simp +contextual)
  have hsend := ctrsKept_mono (a.respond_ctrsKept b) (ds := cs ++ commandCtrs) (by simp +contextual [commandCtrs])
  rw [hr] at hsend
  exact ctrsKept_trans htaken (ctrsKept_trans hrun hsend)

/-- A command refused at a ready part changes nothing but the line and the counters of its refusal (R164). -/
theorem State.refusedWith_respond {s : State} (kind : Byte) (b : CmdBlock) (r : Result) (extra : List Byte)
    (h : s.ready) (hr : r.refusal = true) :
    s.refusedWith ((⟨s.taken, r, extra, .nothing⟩ : Answer).respond (inBlock kind b)) kind b r extra [] := by
  have hsend := Answer.respond_ctrsKept ⟨s.taken, r, extra, .nothing⟩ (inBlock kind b)
  simp only [hr, State.bumpIf, if_true] at hsend
  refine ⟨?_, ?_, by simp, ?_, ?_⟩
  · exact Answer.respond_answered _ kind b h (by simp) (ctrsKept_refl [] _) (by simp) (by simp)
  · exact counted_after_kept s.taken_ctrsKept (by decide)
      (counted_before_kept (counted_bump _ _) hsend (by decide))
  · exact Answer.respond_sameButLine _ _ h rfl (by simp) (by simp)
  · exact ctrsKept_trans (ctrsKept_mono s.taken_ctrsKept (by decide))
      (ctrsKept_trans (ctrsKept_bump _ (by decide)) (ctrsKept_mono hsend (by decide)))

end Sys2Proof.Machine
end

section
/-! CLEAR_TRIP and the closing of INTERLOCK (R22, R28). -/

namespace Sys2Proof.Machine

/-- CLEAR_TRIP outside TRIPPED (R28). -/
theorem State.clearTrip_of_not_tripped (s : State) (h : s.fcu.state ≠ .tripped) :
    s.clearTrip = s.refuse .wrongState := by simp [State.clearTrip, h]

/-- CLEAR_TRIP with the safety chain open (R28). -/
theorem State.clearTrip_of_open (s : State) (h : s.fcu.state = .tripped) (ho : s.fcu.interlockClosed = false) :
    s.clearTrip = s.refuse .interlock := by simp [State.clearTrip, h, ho]

/-- CLEAR_TRIP with the safety chain closed (R28). -/
theorem State.clearTrip_of_closed (s : State) (h : s.fcu.state = .tripped)
    (hc : s.fcu.interlockClosed = true) :
    s.clearTrip = (s.withFcu { s.fcu with
      state := .halted, alert := false, lastTrip := s.fcu.trip, trip := none }).ok := by
  simp [State.clearTrip, h, hc]

/-- A CLEAR_TRIP block of the right length at a ready part is run and answered. -/
theorem exec_clearTrip {s : State} {b : CmdBlock} (h : s.ready) (hb : b.single = true) (hp : b.payload = []) :
    exec (.clearTrip b) s = .next (s.taken.clearTrip.respond (inBlock 0x15 b)) :=
  congrArg Host.Outcome.next (State.deliver_command s 0x15 b .clearTrip h hb rfl (by simp [hp, Command.length]))

/-- Settles O23, by the three branches of CLEAR_TRIP at the state in which the command has been taken. -/
theorem interlockClosingAllowsClearTrip : Obligations.InterlockClosingAllowsClearTrip := by
  refine ⟨fun _ => rfl, fun s b hready hb hp => ?_⟩
  rw [exec_clearTrip hready hb hp]
  refine ⟨fun hn => ⟨_, rfl, ?_⟩, fun ht ho => ⟨_, rfl, ?_⟩, fun ht hc => ⟨_, rfl, ?_, ?_, ?_⟩⟩
  · rw [State.clearTrip_of_not_tripped _ (by simpa using hn)]
    exact State.refusedWith_respond 0x15 b .wrongState [] hready rfl
  · rw [State.clearTrip_of_open _ (by simpa using ht) (by simpa using ho)]
    exact State.refusedWith_respond 0x15 b .interlock [] hready rfl
  all_goals rw [State.clearTrip_of_closed _ (by simpa using ht) (by simpa using hc)]
  · exact Answer.respond_answered _ 0x15 b hready (by simp) (ctrsKept_refl [] _) (by simp) (by simp)
  · exact Answer.respond_ok_ctrsKept (cs := []) _ _ rfl (ctrsKept_refl [] _)
  · exact Answer.respond_sameButLine _ _ hready rfl (by simp) (by simp)

end Sys2Proof.Machine
end

section
/-! What a cease of fire does, shared by STOP and the trips (R21, R27, R41, R65, R87), and STOP. -/

namespace Sys2Proof.Machine

/-! ### The cease of fire -/

/-- The counters of a cease of fire (R41, R65, R87). -/
def ceaseCtrs : List Ctr := [Ctr.profilesAbandoned, Ctr.injectionsCleared, Ctr.strayBursts]

theorem State.dropBurst_of_not_sampling (s : State) (h : s.samplingShot = false) : s.dropBurst = s := by
  simp [State.dropBurst, h]

theorem State.dropBurst_of_sampling (s : State) (h : s.samplingShot = true) :
    s.dropBurst = (s.withRsp { s.rsp with parser := .hunt, truncTimer := none }).bump Ctr.strayBursts := by
  simp [State.dropBurst, h]

theorem State.dropBurst_ctrsKept (s : State) : ctrsKept [Ctr.strayBursts] s s.dropBurst := by
  cases h : s.samplingShot with
  | false => rw [s.dropBurst_of_not_sampling h]; exact ctrsKept_refl _ s
  | true => rw [s.dropBurst_of_sampling h]; exact ctrsKept_bump _ (by decide)

@[simp] theorem State.ceaseFire_fcu (s : State) :
    s.ceaseFire.fcu = { s.fcu with drive := 0, shot := none } := by simp [State.ceaseFire]

@[simp] theorem State.ceaseFire_rsp (s : State) : s.ceaseFire.rsp = s.dropBurst.rsp := by
  simp [State.ceaseFire]

@[simp] theorem State.ceaseFire_gau (s : State) : s.ceaseFire.gau = { s.gau with
    staging := .idle
    banks := s.gau.banks.map fun k => if k.state = .accumulating then Bank.freed else k } := by
  simp [State.ceaseFire, State.abandon]

@[simp] theorem State.ceaseFire_pcu (s : State) :
    s.ceaseFire.pcu = { s.pcu with pendingInj := Vector.replicate 4 none } := by
  simp [State.ceaseFire, State.clearInjections]

theorem State.ceaseFire_ctrs (s : State) : s.ceaseFire.ctrs = Counters.add
    (Counters.add s.dropBurst.ctrs Ctr.profilesAbandoned s.gau.accCount)
    Ctr.injectionsCleared s.pcu.pendingCount := by
  simp [State.ceaseFire, State.abandon, State.clearInjections]

/-- After the burst has been dropped, a cease of fire counts abandoned profiles and cleared injections. -/
theorem State.ceaseFire_ctrsKept_dropBurst (s : State) :
    ctrsKept [Ctr.profilesAbandoned, Ctr.injectionsCleared] s.dropBurst s.ceaseFire := by
  unfold ctrsKept
  rw [s.ceaseFire_ctrs]
  exact ctrsWithin_trans (ctrsWithin_add _ _ (by decide)) (ctrsWithin_add _ _ (by decide))

theorem State.ceaseFire_ctrsKept (s : State) : ctrsKept ceaseCtrs s s.ceaseFire :=
  ctrsKept_trans (ctrsKept_mono s.dropBurst_ctrsKept (by decide))
    (ctrsKept_mono s.ceaseFire_ctrsKept_dropBurst (by decide))

/-- The ACCUMULATING banks are counted in PROFILES_ABANDONED (R65). -/
theorem State.ceaseFire_profilesAbandoned (s : State) : s.ceaseFire.ctrs[Ctr.profilesAbandoned]
    = min (s.ctrs[Ctr.profilesAbandoned] + s.gau.accCount) Config.counterMax := by
  have hdrop : s.dropBurst.ctrs[Ctr.profilesAbandoned] = s.ctrs[Ctr.profilesAbandoned] :=
    s.dropBurst_ctrsKept _ (by decide)
  rw [s.ceaseFire_ctrs, ← hdrop]
  exact (Counters.add_get_ne _ _ (by decide)).trans (Counters.add_get_self _ _ _)

/-- The pending injection records are counted in INJECTIONS_CLEARED (R87). -/
theorem State.ceaseFire_injectionsCleared (s : State) : s.ceaseFire.ctrs[Ctr.injectionsCleared]
    = min (s.ctrs[Ctr.injectionsCleared] + s.pcu.pendingCount) Config.counterMax := by
  have hdrop : s.dropBurst.ctrs[Ctr.injectionsCleared] = s.ctrs[Ctr.injectionsCleared] :=
    s.dropBurst_ctrsKept _ (by decide)
  have hkept := Counters.add_get_ne s.dropBurst.ctrs (c := Ctr.profilesAbandoned)
    (d := Ctr.injectionsCleared) s.gau.accCount (by decide)
  rw [s.ceaseFire_ctrs, ← hdrop]
  exact (Counters.add_get_self _ _ _).trans (by rw [hkept]; rfl)

/-- A burst that is dropped in SAMPLES is counted in STRAY_BURSTS (R41). -/
theorem State.ceaseFire_strayBursts (s : State) (h : s.samplingShot = true) :
    counted Ctr.strayBursts s s.ceaseFire := by
  have hdrop : counted Ctr.strayBursts s s.dropBurst := by
    rw [s.dropBurst_of_sampling h]; exact counted_bump (s.withRsp _) _
  exact counted_before_kept hdrop s.ceaseFire_ctrsKept_dropBurst (by decide)

/-! ### STOP (R27) -/

/-- STOP is never refused (R27). -/
theorem State.stop_eq_ok (s : State) : s.stop = s.stop.st.ok := by
  unfold State.stop; split <;> rfl

/-- STOP in RUNNING (R27). -/
theorem State.stop_of_running (s : State) (h : s.fcu.state = .running) :
    s.stop.st = s.ceaseFire.withFcu { s.fcu with state := .halted, drive := 0, shot := none } := by
  simp [State.stop, h]

/-- STOP outside RUNNING (R27). -/
theorem State.stop_of_not_running (s : State) (h : s.fcu.state ≠ .running) : s.stop.st = s := by
  simp [State.stop, h]

theorem State.stop_slc (s : State) : s.stop.st.slc = s.slc := by
  unfold State.stop; split <;> simp

theorem State.stop_ctrsKept (s : State) : ctrsKept ceaseCtrs s s.stop.st := by
  by_cases h : s.fcu.state = .running
  · rw [s.stop_of_running h]; exact s.ceaseFire_ctrsKept
  · rw [s.stop_of_not_running h]; exact ctrsKept_refl _ s

/-- A STOP block of the right length at a ready part is run and answered. -/
theorem exec_stop {s : State} {b : CmdBlock} (h : s.ready) (hb : b.single = true) (hp : b.payload = []) :
    exec (.stop b) s = .next (s.taken.stop.st.ok.respond (inBlock 0x14 b)) := by
  rw [← State.stop_eq_ok]
  exact congrArg Host.Outcome.next
    (State.deliver_command s 0x14 b .stop h hb rfl (by simp [hp, Command.length]))

/-- Settles O22, by the two branches of STOP at the state in which the command has been taken. -/
theorem stopHalts : Obligations.StopHalts := by
  intro s b hready hb hp
  have hslc : s.taken.stop.st.slc = s.slc := by simp [State.stop_slc]
  have hkept := s.taken.stop_ctrsKept
  refine ⟨_, exec_stop hready hb hp,
    Answer.respond_answered _ 0x14 b hready hslc hkept (by decide) (by decide), fun hn => ?_, fun hrun => ?_⟩
  · rw [s.taken.stop_of_not_running (by simpa using hn)]
    exact ⟨Answer.respond_sameButLine _ _ hready rfl (by simp) (by simp),
      Answer.respond_ok_ctrsKept (cs := []) _ _ rfl (ctrsKept_refl [] _)⟩
  · have hstop := s.taken.stop_of_running (by simpa using hrun)
    have hsend : ctrsKept blockCtrs s.taken.ceaseFire (s.taken.stop.st.ok.respond (inBlock 0x14 b)) :=
      hstop ▸ Answer.respond_ctrsKept (State.ok _) _
    refine ⟨by simp [hstop], by simp [hstop], by simp [hstop], ?_, ?_, fun hf => ?_, fun hd => ⟨?_, ?_⟩,
      Answer.respond_ok_ctrsKept _ _ rfl hkept, by simp [hstop], by simp [hstop], by simp [hstop],
      by simp [hstop], by simp [hstop], Answer.respond_sameSettings _ _ hready hslc⟩
    · have htaken := s.taken_ctrsKept Ctr.profilesAbandoned (by decide)
      rw [hsend _ (by decide), State.ceaseFire_profilesAbandoned, htaken]; simp
    · have htaken := s.taken_ctrsKept Ctr.injectionsCleared (by decide)
      rw [hsend _ (by decide), State.ceaseFire_injectionsCleared, htaken]; simp
    · simp [hstop, s.taken.dropBurst_of_not_sampling hf]
    · simp [hstop, s.taken.dropBurst_of_sampling hd]
    · exact counted_after_kept s.taken_ctrsKept (by decide)
        (counted_before_kept (s.taken.ceaseFire_strayBursts hd) hsend (by decide))

end Sys2Proof.Machine
end

section
/-! What the profile path can count at the begins that an event sets off (R71, R75, R90, R92, R93), trips,
and the header of a shot or a dark capture (R12, R13, R36, R41). -/

namespace Sys2Proof.Machine

/-! ### Counters of the begins in the profile path -/

/-- The counters that the begins of conditionings and detections can increase: those of a VOID bank passed,
of a profile that received no detection with its frame, and of a bank left waiting. -/
def pathCtrs : List Ctr :=
  [Ctr.voidPassed, Ctr.profilesConditioned, Ctr.noObsDetectionOff, Ctr.noObsResults,
    Ctr.profileFramesOffered, Ctr.captureFramesOffered, Ctr.captureReposts, Ctr.conditioningWaits] ++ raiseCtrs

theorem State.passVoid_ctrsKept (s : State) (b : Fin 6) (k : Fin 2) : ctrsKept pathCtrs s (s.passVoid b k) :=
  ctrsKept_trans (ctrsKept_bump (s.withPcu _) (by decide)) (ctrsKept_bump (State.withGau _ _) (by decide))

theorem State.condBegin_ctrsKept (s : State) (b : Fin 6) (k : Fin 2) : ctrsKept pathCtrs s (s.condBegin b k) := by
  simp only [State.condBegin]
  split
  · exact s.passVoid_ctrsKept b k
  · exact ctrsKept_refl _ s

theorem State.captureOutcome_ctrsKept (s : State) (p : Prog) (e : Bool) :
    ctrsKept pathCtrs s (s.captureOutcome p e) := by
  simp only [State.captureOutcome]
  split
  · exact ctrsKept_refl _ s
  · exact ctrsKept_bumpBy (s.withSku _) _ (by decide)

/-- The frame counted as due or captured and offered (R106 to R108). -/
theorem State.offerProfile_ctrsKept (s : State) (q : Bool) (p : List Byte) : ctrsKept pathCtrs s
    (((s.bump Ctr.profileFramesOffered).bumpIf q Ctr.captureFramesOffered).offer .profile p).1 := by
  refine ctrsKept_trans ?_ (ctrsKept_mono (State.offer_ctrsKept _ .profile p) (by decide))
  exact ctrsKept_trans (ctrsKept_bump s (by decide)) (ctrsKept_bumpIf _ q (by decide))

theorem State.frameStep_ctrsKept (s : State) (r : ResultRec) (c : Conditioned) (o : Bool) :
    ctrsKept pathCtrs s (s.frameStep r c o) := by
  unfold State.frameStep
  dsimp only
  generalize hu : s.withLdu _ = u
  have hkept : ctrsKept pathCtrs s u := hu ▸ ctrsKept_refl _ s
  split
  · have hoffer := ctrsKept_trans hkept (u.offerProfile_ctrsKept (s.sku.requested r.prog)
      (profilePayload r c (s.sku.requested r.prog) o))
    split
    · exact ctrsKept_trans hoffer (State.captureOutcome_ctrsKept _ _ _)
    · exact hoffer
  · exact hkept

theorem State.finishUnobserved_ctrsKept (s : State) (k : Fin 2) (r : ResultRec) :
    ctrsKept pathCtrs s (s.finishUnobserved k r) := by
  have hend := fun u : State => ctrsKept_bump (cs := pathCtrs) (u.releaseBuf k r Found.nothing)
    (c := Ctr.noObsResults) (by decide)
  simp only [State.finishUnobserved]
  split
  · have hframe := State.frameStep_ctrsKept (s.bump Ctr.noObsDetectionOff) r
    exact ctrsKept_trans (ctrsKept_trans (ctrsKept_bump s (by decide)) (hframe _ _)) (hend _)
  · exact hend s

/-- A detection that took no threshold entries completes without a scan (R93, R105). -/
theorem State.detFinish_unobserved_ctrsKept (s : State) (k : Fin 2) :
    ctrsKept pathCtrs s (s.detFinish ⟨k, none⟩) := by
  simp only [State.detFinish]
  split
  · exact ctrsKept_refl _ s
  · exact s.finishUnobserved_ctrsKept k _

/-- A detection completes at its begin exactly when it took no threshold entries (R92, R93). -/
theorem State.detTaken_ctrsKept (s : State) (k : Fin 2) (on : Option (List Nat)) :
    ctrsKept pathCtrs s (if on.isSome then s else s.detFinish ⟨k, on⟩) := by
  cases on with
  | none => exact s.detFinish_unobserved_ctrsKept k
  | some on => exact ctrsKept_refl _ s

theorem State.detBegin_ctrsKept (s : State) (k : Fin 2) : ctrsKept pathCtrs s (s.detBegin k) := by
  unfold State.detBegin
  exact State.detTaken_ctrsKept (State.withLdu _ _) k _

theorem State.pathStep_ctrsKept {s t : State} (h : s.pathStep = some t) : ctrsKept pathCtrs s t := by
  unfold State.pathStep at h
  split at h
  · cases h; exact s.condBegin_ctrsKept _ _
  · obtain ⟨k, -, rfl⟩ := Option.map_eq_some_iff.mp h
    exact s.detBegin_ctrsKept k

theorem State.pathLoop_ctrsKept (n : Nat) (s : State) : ctrsKept pathCtrs s (State.pathLoop n s) := by
  induction n generalizing s with
  | zero => exact ctrsKept_refl _ s
  | succ n ih =>
    unfold State.pathLoop
    split
    · rename_i t ht
      exact ctrsKept_trans (State.pathStep_ctrsKept ht) (ih t)
    · exact ctrsKept_refl _ s

theorem State.countWait_ctrsKept (s : State) : ctrsKept pathCtrs s s.countWait := by
  simp only [State.countWait]
  split
  · exact ctrsKept_refl _ s
  · split
    · exact ctrsKept_bump (s.withGau _) (by decide)
    · exact ctrsKept_refl _ s

/-- The begins that an event sets off in the profile path count in the profile path alone. -/
theorem State.moveProfiles_ctrsKept (s : State) : ctrsKept pathCtrs s s.moveProfiles :=
  ctrsKept_trans (State.pathLoop_ctrsKept 16 s) (State.countWait_ctrsKept _)

/-! ### Trips (R21, R23) -/

theorem State.tripFcu_fcu (s : State) (cause : TripCause) (slot : Fin 32) :
    (s.tripFcu cause slot).fcu = { s.fcu with
      drive := 0
      shot := none
      state := .tripped
      alert := true
      trip := some ⟨cause, s.slc.time, slot, false⟩
      weakRun := 0
      lostRun := 0 } := by simp [State.tripFcu]

theorem State.tripFcu_rsp (s : State) (cause : TripCause) (slot : Fin 32) :
    (s.tripFcu cause slot).rsp = s.dropBurst.rsp := by simp [State.tripFcu]

/-- A trip is counted by its cause (R29). -/
theorem State.tripFcu_counted (s : State) (cause : TripCause) (slot : Fin 32) :
    counted cause.ctr s (s.tripFcu cause slot) := by
  have hcease : cause.ctr ∉ ceaseCtrs := by cases cause <;> decide
  have hraise : cause.ctr ∉ raiseCtrs := by cases cause <;> decide
  exact counted_after_kept s.ceaseFire_ctrsKept hcease
    (counted_before_kept (counted_bump (State.withFcu _ _) _) (State.raise_ctrsKept _ .trip) hraise)

/-- The counters of a trip that drops no burst. -/
def tripCtrs (cause : TripCause) : List Ctr :=
  cause.ctr :: Ctr.profilesAbandoned :: Ctr.injectionsCleared :: raiseCtrs

/-- A trip that drops no burst counts its cause, what it abandons and clears, and its notice. -/
theorem State.tripFcu_ctrsKept (s : State) (cause : TripCause) (slot : Fin 32) (h : s.samplingShot = false) :
    ctrsKept (tripCtrs cause) s (s.tripFcu cause slot) := by
  have hcease := s.ceaseFire_ctrsKept_dropBurst
  rw [s.dropBurst_of_not_sampling h] at hcease
  refine ctrsKept_trans ?_ (ctrsKept_mono (State.raise_ctrsKept _ .trip) (by simp +contextual [tripCtrs]))
  refine ctrsKept_trans ?_ (ctrsKept_bump (State.withFcu _ _) (by simp [tripCtrs]))
  exact ctrsKept_mono hcease (by simp [tripCtrs])

end Sys2Proof.Machine
end

section
/-! The header of a shot or a dark capture taken by the parser: its judgement and what follows from it
(R12, R13, R32, R34 to R36, R41). -/

namespace Sys2Proof.Machine

/-! ### The judgement of a header (R12, R13) -/

theorem State.samplingShot_of_header (s : State) {m : Word} {r : Option Word} (h : s.rsp.parser = .header m r) :
    s.samplingShot = false := by
  unfold State.samplingShot
  rw [h]
  cases s.fcu.shot <;> rfl

/-- A judgement made in HEADER leaves the RSP alone: there is no burst in SAMPLES to drop. -/
theorem State.judge_rsp (s : State) (sh : Shot) (e : Nat) {m : Word} {r : Option Word}
    (h : s.rsp.parser = .header m r) : (s.judge sh e).rsp = s.rsp := by
  have htrip : ∀ (u : State) (cause : TripCause), u.rsp = s.rsp → (u.tripFcu cause sh.slot).rsp = s.rsp := by
    intro u cause hu
    rw [u.tripFcu_rsp, u.dropBurst_of_not_sampling (u.samplingShot_of_header (hu ▸ h)), hu]
  unfold State.judge
  cases sh.kind with
  | fire =>
    simp only [State.judgeFire, State.judgeWeak]
    split
    · split
      · exact htrip _ _ (by simp)
      · simp
    · split
      · simp
      · exact htrip _ _ (by simp)
  | dark =>
    simp only [State.judgeDark]
    split
    · exact htrip _ _ (by simp)
    · simp

/-- The reading of a fired shot above 5/4 of E_ref (R12, R16). -/
theorem State.judge_overEnergy (s : State) (sh : Shot) (e : Nat) (hk : sh.kind = .fire)
    (he : 5 * s.progs[sh.prog].eRef < 4 * e) :
    s.judge sh e = ((s.matchShot sh).bump Ctr.energyBin7).tripFcu .overEnergy sh.slot := by
  have hweak : ¬ 2 * e < s.progs[sh.prog].eRef := by omega
  have hnormal : ¬ 4 * e ≤ 5 * s.progs[sh.prog].eRef := by omega
  have hbin : energyBin e s.progs[sh.prog].eRef = Ctr.energyBin7 := by
    unfold energyBin
    rw [if_neg hweak, if_neg (by omega), if_neg (by omega), if_neg (by omega), if_neg (by omega), if_neg hnormal]
  simp only [State.judge, hk, State.judgeFire, State.matchShot_frame, hweak, hnormal, if_false, hbin]

/-- The reading of a dark capture at or above half of E_ref (R13). -/
theorem State.judge_uncommanded (s : State) (sh : Shot) (e : Nat) (hk : sh.kind = .dark)
    (he : s.progs[sh.prog].eRef ≤ 2 * e) :
    s.judge sh e = (s.matchShot sh).tripFcu .uncommandedEmission sh.slot := by
  have href : (s.matchShot sh).progs[sh.prog].eRef ≤ 2 * e := by simpa using he
  simp only [State.judge, hk, State.judgeDark, href, if_true]

/-- The reading of a dark capture below half of E_ref (R13). -/
theorem State.judge_darkPasses (s : State) (sh : Shot) (e : Nat) (hk : sh.kind = .dark)
    (he : 2 * e < s.progs[sh.prog].eRef) : s.judge sh e = s.matchShot sh := by
  have href : ¬ (s.matchShot sh).progs[sh.prog].eRef ≤ 2 * e := by simpa using he
  simp only [State.judge, hk, State.judgeDark, href, if_false]

/-! ### What follows the judgement (R36, R40, R41) -/

@[simp] theorem State.failHeader_rsp (s : State) :
    s.failHeader.rsp = { s.rsp with parser := .hunt, truncTimer := none } := rfl

/-- The counters of a closing bank, by its outcome (R63). -/
def outcomeCtrs : List Ctr := [Ctr.profilesComplete, Ctr.profilesDegraded, Ctr.profilesVoid]

theorem State.closeIfDone_ctrsKept (s : State) (b : Fin 6) : ctrsKept outcomeCtrs s (s.closeIfDone b) := by
  have hctr : ∀ o : ProfileOutcome, o.ctr ∈ outcomeCtrs := by intro o; cases o <;> decide
  simp only [State.closeIfDone]
  split
  · exact ctrsKept_bump (s.withGau _) (hctr _)
  · exact ctrsKept_refl _ s

theorem State.settleOwn_ctrsKept (s : State) (slot : Fin 32) : ctrsKept outcomeCtrs s (s.settleOwn slot) := by
  unfold State.settleOwn
  split
  · exact ctrsKept_refl _ s
  · exact State.closeIfDone_ctrsKept (s.withGau _) _

theorem State.settleShot_ctrsKept (s : State) (sh : Shot) (f : Fate) :
    ctrsKept outcomeCtrs s (s.settleShot sh f) := by
  unfold State.settleShot
  dsimp only
  split
  · refine ctrsKept_trans ?_ (State.settleOwn_ctrsKept _ _)
    split <;> exact ctrsKept_refl _ s
  · exact ctrsKept_refl _ s

/-- The settlement of a shot empties the shot in flight (R8). -/
theorem State.settleShot_fcu (s : State) (sh : Shot) (f : Fate) :
    (s.settleShot sh f).fcu = { s.fcu with shot := none } := by
  unfold State.settleShot
  cases sh.kind with
  | fire => cases f <;> simp
  | dark => simp

/-- A rejection outside a path check empties the shot in flight (R8, R40). -/
theorem State.rejectCapture_fcu (s : State) :
    (s.rejectCapture false).fcu = { s.fcu with shot := none } := by
  simp only [State.rejectCapture, Bool.false_eq_true, if_false]
  split
  · simp [State.settleShot_fcu]
  · rename_i hnone
    have hshot : s.fcu.shot = none := by simpa using hnone
    simpa using congrArg (fun q => { s.fcu with shot := q }) hshot

theorem State.rejectCapture_ctrsKept (s : State) : ctrsKept outcomeCtrs s (s.rejectCapture false) := by
  simp only [State.rejectCapture, Bool.false_eq_true, if_false]
  split
  · exact State.settleShot_ctrsKept s.discardStaging _ _
  · exact ctrsKept_refl _ s

/-- After a judgement that trips, the burst is handled as the remainder of a dropped one (R36, R41). -/
theorem State.shotHeader_of_tripped (s : State) (sh : Shot) (m r w : Word)
    (ht : markTag m = sh.tag) (hm : markTest m = false)
    (hj : (s.judge sh (readingOf r)).fcu.state = .tripped) :
    s.shotHeader sh m r w = ((s.judge sh (readingOf r)).bump Ctr.strayBursts).failHeader := by
  simp [State.shotHeader, ht, hm, hj]

/-- The counters of a header that passed the judgement: those of a wrong count (R36). -/
def lengthErrorCtrs : List Ctr := [Ctr.lengthErrors, Ctr.discardedWords] ++ outcomeCtrs

/-- After a judgement that passes, a header of the right count enters SAMPLES and any other is rejected
(R36): past the judgement only the shot in flight changes in the FCU. -/
theorem State.shotHeader_of_passed (s : State) (sh : Shot) (m r w : Word)
    (ht : markTag m = sh.tag) (hm : markTest m = false)
    (hj : (s.judge sh (readingOf r)).fcu.state ≠ .tripped) :
    (∃ shot, (s.shotHeader sh m r w).fcu = { (s.judge sh (readingOf r)).fcu with shot := shot })
      ∧ ctrsKept lengthErrorCtrs (s.judge sh (readingOf r)) (s.shotHeader sh m r w) := by
  simp only [State.shotHeader, ht, hm, ne_eq, not_true_eq_false, Bool.false_eq_true, or_self, if_false, hj]
  generalize s.judge sh (readingOf r) = u
  split
  · refine ⟨⟨none, by simp [State.rejectCapture_fcu]⟩, ?_⟩
    have hfail : ctrsKept lengthErrorCtrs u (u.bump Ctr.lengthErrors).failHeader :=
      ctrsKept_trans (ctrsKept_bump u (by decide)) (ctrsKept_bumpBy (State.parserTo _ _) 3 (by decide))
    exact ctrsKept_trans hfail (ctrsKept_mono (State.rejectCapture_ctrsKept _) (by decide))
  · exact ⟨⟨u.fcu.shot, by simp⟩, fun c _ => by simp⟩

/-- A header of a shot or a dark capture leaves the words behind it in the buffer. -/
theorem State.shotHeader_buffer (s : State) (sh : Shot) (m r w : Word) {n : Word} {q : Option Word}
    (h : s.rsp.parser = .header n q) : (s.shotHeader sh m r w).rsp.buffer = s.rsp.buffer := by
  have hreject : ∀ u : State, (u.rejectCapture false).rsp = u.rsp := by
    intro u
    simp only [State.rejectCapture, Bool.false_eq_true, if_false]
    split <;> simp
  simp only [State.shotHeader]
  split
  · simp [hreject]
  · split
    · simp [s.judge_rsp sh _ h]
    · split
      · simp [hreject, s.judge_rsp sh _ h]
      · simp [State.enterSamples, s.judge_rsp sh _ h]

/-- The slip points are reached only when one is at the head of the buffer (R32). -/
theorem State.reachSlips_of_head (s : State) (h : s.rsp.buffer.head? ≠ some .slip) : s.reachSlips = s := by
  unfold State.reachSlips
  split
  · rename_i hb; simp [hb] at h
  · rfl

/-- The parser takes the count word of a matched header, with no slip point behind it (R33 to R36). -/
theorem State.parserTakes_headerAt {s : State} {sh : Shot} {rest : List BufItem} {m r w : Word}
    (h : s.headerAt sh rest m r w) :
    s.parserTakes = (s.withRsp { s.rsp with buffer := rest }).shotHeader sh m r w := by
  obtain ⟨hbuf, hslip, hmark, hparser, hpath, hshot, -, -⟩ := h
  have hwait : s.mustWait w = false := by simp [State.mustWait, hparser]
  have htake : (s.withRsp { s.rsp with buffer := rest }).takeOther w
      = (s.withRsp { s.rsp with buffer := rest }).shotHeader sh m r w := by
    simp [State.takeOther, State.takeHeader, hparser, hpath, hshot]
  simp only [State.parserTakes, hbuf, hwait, hmark, Bool.false_eq_true, if_false, htake]
  exact State.reachSlips_of_head _ (by
    rw [State.shotHeader_buffer (s.withRsp { s.rsp with buffer := rest }) sh m r w hparser]; exact hslip)

/-! ### Emission faults (R12, R13) -/

/-- The count word of a matched header whose judgement trips: the burst is stray, its header discarded. -/
theorem State.parserTakes_of_trip {s u : State} {sh : Shot} {rest : List BufItem} {m r w : Word}
    {cause : TripCause} (h : s.headerAt sh rest m r w)
    (hj : (s.withRsp { s.rsp with buffer := rest }).judge sh (readingOf r) = u.tripFcu cause sh.slot) :
    s.parserTakes = ((u.tripFcu cause sh.slot).bump Ctr.strayBursts).failHeader := by
  obtain ⟨-, -, -, -, -, -, htag, htest⟩ := id h
  have hstate : (u.tripFcu cause sh.slot).fcu.state = .tripped := by rw [State.tripFcu_fcu]
  rw [← hj] at hstate
  rw [State.parserTakes_headerAt h, State.shotHeader_of_tripped _ sh m r w htag htest hstate, hj]

/-- What can be counted past a trip that a header caused, its stray burst aside: the header discarded, and
what the event sets off in the profile path. -/
def discardCtrs : List Ctr := Ctr.discardedWords :: pathCtrs

theorem State.failHeader_moveProfiles_ctrsKept (s : State) : ctrsKept discardCtrs s s.failHeader.moveProfiles :=
  ctrsKept_trans (ctrsKept_bumpBy (s.parserTo .hunt) 3 (by decide))
    (ctrsKept_mono (State.moveProfiles_ctrsKept _) (by decide))

/-- A judgement that trips after it has at most counted the histogram's last bin: the trip stands, no servo
is fed, the burst is stray and the parser hunts (R21, R36, R41). -/
theorem State.headerAt_trips {s u : State} {sh : Shot} {rest : List BufItem} {m r w : Word} {cause : TripCause}
    (h : s.headerAt sh rest m r w)
    (hj : (s.withRsp { s.rsp with buffer := rest }).judge sh (readingOf r) = u.tripFcu cause sh.slot)
    (hrsp : u.rsp = { s.rsp with buffer := rest }) (hfcu : u.fcu = (s.matchShot sh).fcu)
    (hslc : u.slc = s.slc) (hu : ctrsKept [Ctr.energyBin7] s u) :
    s.tripsTo s.parserTakes.moveProfiles cause sh.slot
      ∧ s.parserTakes.moveProfiles.fcu.servos = s.fcu.servos
      ∧ counted Ctr.strayBursts s s.parserTakes.moveProfiles
      ∧ s.parserTakes.moveProfiles.rsp = { s.rsp with buffer := rest, parser := .hunt, truncTimer := none }
      ∧ ctrsKept (Ctr.strayBursts :: tripCtrs cause ++ discardCtrs) u s.parserTakes.moveProfiles := by
  have hdrop : u.samplingShot = false := by
    obtain ⟨-, -, -, hparser, -⟩ := h
    exact u.samplingShot_of_header (by rw [hrsp]; exact hparser)
  rw [State.parserTakes_of_trip h hj]
  have htrip := u.tripFcu_ctrsKept cause sh.slot hdrop
  have hstray := ctrsKept_bump (cs := [Ctr.strayBursts]) (c := Ctr.strayBursts)
    (u.tripFcu cause sh.slot) (by decide)
  have hend := ((u.tripFcu cause sh.slot).bump Ctr.strayBursts).failHeader_moveProfiles_ctrsKept
  have hbin : cause.ctr ∉ [Ctr.energyBin7] := by cases cause <;> decide
  have hburst : cause.ctr ∉ [Ctr.strayBursts] := by cases cause <;> decide
  have hdiscard : cause.ctr ∉ discardCtrs := by cases cause <;> decide
  have hclean : Ctr.strayBursts ∉ tripCtrs cause := by cases cause <;> decide
  have hcounted := counted_after_kept hu hbin (counted_before_kept
    (counted_before_kept (u.tripFcu_counted cause sh.slot) hstray hburst) hend hdiscard)
  refine ⟨?_, ?_, ?_, ?_, ?_⟩
  · simp [State.tripsTo, hcounted, State.tripFcu_fcu, hfcu, hslc, State.matchShot]
  · simp [State.tripFcu_fcu, hfcu, State.matchShot]
  · exact counted_after_kept hu (by decide) (counted_after_kept htrip hclean
      (counted_before_kept (counted_bump _ _) hend (by decide)))
  · simp [State.tripFcu_rsp, u.dropBurst_of_not_sampling hdrop, hrsp]
  · exact ctrsKept_trans (ctrsKept_mono htrip (by simp +contextual))
      (ctrsKept_trans (ctrsKept_mono hstray (by simp)) (ctrsKept_mono hend (by simp +contextual)))

/-- The dark capture's header that passes the judgement feeds nothing and counts no bin (R13, R15). -/
theorem State.headerAt_darkPasses {s : State} {sh : Shot} {rest : List BufItem} {m r w : Word}
    (h : s.headerAt sh rest m r w) (hrun : s.fcu.state = .running) (hk : sh.kind = .dark)
    (he : 2 * readingOf r < s.progs[sh.prog].eRef) :
    (∃ shot, s.parserTakes.moveProfiles.fcu = { s.fcu with shot := shot, lostRun := 0 })
      ∧ ctrsKept (lengthErrorCtrs ++ pathCtrs) s s.parserTakes.moveProfiles := by
  obtain ⟨-, -, -, -, -, -, htag, htest⟩ := id h
  have hj := (s.withRsp { s.rsp with buffer := rest }).judge_darkPasses sh (readingOf r) hk he
  have hpass := (s.withRsp { s.rsp with buffer := rest }).shotHeader_of_passed sh m r w htag htest
    (by simp [hj, State.matchShot, hrun])
  rw [hj, ← State.parserTakes_headerAt h] at hpass
  obtain ⟨⟨shot, hfcu⟩, hctrs⟩ := hpass
  refine ⟨⟨shot, by simp [hfcu, State.matchShot]⟩, ?_⟩
  exact ctrsKept_trans (ctrsKept_mono hctrs (by simp +contextual))
    (ctrsKept_mono (State.moveProfiles_ctrsKept _) (by simp +contextual))

/-- Settles O15: the two emission faults trip at the judgement, and the dark capture's header below half of
E_ref changes in the FCU the shot in flight and the lost run alone. -/
theorem emissionFaultTrips : Obligations.EmissionFaultTrips := by
  intro s sh rest m r w h hrun
  refine ⟨_, rfl, fun hk he => ?_, fun hk he => ?_, fun hk he => ?_⟩
  · have hj := (s.withRsp { s.rsp with buffer := rest }).judge_overEnergy sh (readingOf r) hk he
    obtain ⟨htrip, hservos, hstray, hrsp, hkept⟩ := State.headerAt_trips (s := s) h hj (by simp)
      (by simp [State.matchShot]) (by simp) (ctrsKept_bump (State.matchShot _ _) (by decide))
    have hbin : counted Ctr.energyBin7 s _ := counted_bump
      ((s.withRsp { s.rsp with buffer := rest }).matchShot sh) Ctr.energyBin7
    exact ⟨htrip, hservos, counted_before_kept hbin hkept (by decide), hstray, hrsp⟩
  · have hj := (s.withRsp { s.rsp with buffer := rest }).judge_uncommanded sh (readingOf r) hk he
    obtain ⟨htrip, hservos, hstray, hrsp, -⟩ := State.headerAt_trips (s := s) h hj (by simp)
      (by simp [State.matchShot]) (by simp) (ctrsKept_refl _ _)
    exact ⟨htrip, hservos, hstray, hrsp⟩
  · obtain ⟨⟨shot, hfcu⟩, hctrs⟩ := State.headerAt_darkPasses h hrun hk he
    have hbins : ∀ c : Ctr, Ctr.energyBin1 ≤ c → c ≤ Ctr.energyBin7 →
        c ∉ lengthErrorCtrs ++ pathCtrs := by decide
    rw [hfcu]
    exact ⟨hrun, rfl, rfl, rfl, rfl, rfl, fun c hlo hhi => hctrs c (hbins c hlo hhi)⟩

end Sys2Proof.Machine
end

section
/-! The invariants of the part, packaged once: what every command row does, what the state after a command
can be, and an induction over the events for a predicate that does not look at the line. The step, the
queue and the two resets. -/

namespace Sys2Proof.Machine

/-! ### The rows of the table -/

/-- A command row is the arrival of its block (log entry 7). -/
theorem exec_commandRow {i : Instr} {b : InBlock} (s : State) (h : commandRow i = some b) :
    exec i s = .next (s.deliver b) := by
  cases i <;> simp only [commandRow, reduceCtorEq, Option.some.injEq] at h <;> subst h <;> rfl

/-! ### The state after a command (R164 to R171) -/

theorem State.setProgram_st (s : State) (b : List Byte) : (s.setProgram b).st = s
    ∨ s.fcu.state ≠ .running ∧ ∃ p r, (s.setProgram b).st = s.writeProgram p r := by
  unfold State.setProgram
  split
  · exact .inl rfl
  · split
    · exact .inl rfl
    · exact .inr ⟨‹_›, _, _, rfl⟩

theorem State.setFiring_st (s : State) (b : List Byte) : (s.setFiring b).st = s
    ∨ ∃ f, (s.setFiring b).st = s.withFcu { s.fcu with firing := f } := by
  unfold State.setFiring
  split
  · exact .inl rfl
  · split
    · exact .inl rfl
    · exact .inr ⟨_, rfl⟩

theorem State.setSchedule_st (s : State) (b : List Byte) : (s.setSchedule b).st = s
    ∨ ∃ v, (s.setSchedule b).st = s.withFcu { s.fcu with schedule := v, pointer := 0 } := by
  unfold State.setSchedule
  split
  · exact .inl rfl
  · split
    · exact .inl rfl
    · exact .inr ⟨_, rfl⟩

theorem State.start_st (s : State) : s.start.st = s
    ∨ (s.fcu.state = .halted ∧ s.fcu.interlockClosed = true ∧ s.startReady = true) ∧ s.start.st = s.run := by
  unfold State.start
  split
  · exact .inl rfl
  · split
    · exact .inl rfl
    · split
      · exact .inl rfl
      · split
        · exact .inl rfl
        · simp_all [State.ok]

theorem State.stop_st (s : State) : s.stop.st = s
    ∨ s.fcu.state = .running
      ∧ s.stop.st = s.ceaseFire.withFcu { s.fcu with state := .halted, drive := 0, shot := none } := by
  by_cases h : s.fcu.state = .running
  · exact .inr ⟨h, s.stop_of_running h⟩
  · exact .inl (s.stop_of_not_running h)

theorem State.clearTrip_st (s : State) : s.clearTrip.st = s
    ∨ s.fcu.state = .tripped ∧ s.clearTrip.st = s.withFcu { s.fcu with
        state := .halted, alert := false, lastTrip := s.fcu.trip, trip := none } := by
  unfold State.clearTrip
  split
  · exact .inl rfl
  · split
    · exact .inl rfl
    · simp_all [State.ok]

theorem State.loadGates_st (s : State) (b : List Byte) : (s.loadGates b).st = s
    ∨ ∃ i vs, (s.loadGates b).st
      = s.withGau { s.gau with gateMap := Tab.writeRun GateEntry.reset s.gau.gateMap i vs } := by
  unfold State.loadGates
  split
  · exact .inl rfl
  · split
    · exact .inl rfl
    · split
      · exact .inl rfl
      · exact .inr ⟨_, _, rfl⟩

theorem State.loadCorrection_st (s : State) (b : List Byte) : (s.loadCorrection b).st = s
    ∨ (s.loadCorrection b).st = s.bump Ctr.correctionBusy ∨ ∃ i vs, (s.loadCorrection b).st
      = s.withPcu { s.pcu with corrTable := Tab.writeRun CorrEntry.reset s.pcu.corrTable i vs } := by
  unfold State.loadCorrection
  split
  · exact .inl rfl
  · split
    · exact .inr (.inl rfl)
    · exact .inr (.inr ⟨_, _, rfl⟩)

theorem State.loadThresholds_st (s : State) (b : List Byte) : (s.loadThresholds b).st = s
    ∨ (s.loadThresholds b).st = s.bump Ctr.thresholdBusy ∨ ∃ i vs, (s.loadThresholds b).st
      = s.withLdu { s.ldu with thrTable := Tab.writeRun Config.betaMax s.ldu.thrTable i vs } := by
  unfold State.loadThresholds
  split
  · exact .inl rfl
  · split
    · exact .inr (.inl rfl)
    · exact .inr (.inr ⟨_, _, rfl⟩)

theorem State.setTracking_st (s : State) (b : List Byte) : (s.setTracking b).st = s
    ∨ ∃ q, (s.setTracking b).st = (s.withLtu { s.ltu with
        params := q, tracks := s.ltu.tracks.map fun t => t.cut q.histLen }).bump Ctr.trackingSets := by
  unfold State.setTracking
  split
  · exact .inl rfl
  · exact .inr ⟨_, rfl⟩

theorem State.setSky_st (s : State) (b : List Byte) : (s.setSky b).st = s
    ∨ ∃ k, (s.setSky b).st = s.withSku k := by
  unfold State.setSky
  split
  · exact .inl rfl
  · exact .inr ⟨_, rfl⟩

theorem State.setCapture_st (s : State) (b : List Byte) : (s.setCapture b).st = s
    ∨ ∃ k, (s.setCapture b).st = s.withSku k := by
  unfold State.setCapture
  split
  · exact .inl rfl
  · exact .inr ⟨_, rfl⟩

theorem State.injectEcho_st (s : State) (b : List Byte) : (s.injectEcho b).st = s
    ∨ ∃ v, (s.injectEcho b).st = s.withPcu { s.pcu with pendingInj := v }
      ∨ (s.injectEcho b).st = (s.withPcu { s.pcu with pendingInj := v }).bump Ctr.injectionsReplaced := by
  unfold State.injectEcho
  dsimp only
  split
  · exact .inl rfl
  · split
    · exact .inl rfl
    · split
      · split
        · simp only [State.inject]
          split
          · exact .inr ⟨_, .inr rfl⟩
          · exact .inr ⟨_, .inl rfl⟩
        · exact .inl rfl
      · exact .inl rfl

theorem State.pathCheck_st (s : State) (b : List Byte) : (s.pathCheck b).st = s
    ∨ (s.fcu.state = .halted ∧ s.rsp.path.running = false) ∧ ∃ n, 1 ≤ n ∧ (s.pathCheck b).st
      = s.withRsp { s.rsp with path := { PathCheck.reset with running := true, n := n } } := by
  unfold State.pathCheck
  dsimp only
  split
  · exact .inl rfl
  · split
    · exact .inl rfl
    · split
      · exact .inl rfl
      · refine .inr ⟨⟨by simp_all, by simp_all⟩, field b 0 2, by omega, rfl⟩

theorem State.timeMark_st (s : State) (b : List Byte) : ∃ l, (s.timeMark b).st = s.withLink l := by
  unfold State.timeMark
  split
  · exact ⟨s.link, rfl⟩
  · simp only [State.mark]
    split
    · exact ⟨⟨_, _⟩, rfl⟩
    · exact ⟨⟨_, _⟩, rfl⟩

theorem State.setReporting_st (s : State) (b : List Byte) : ∃ l, (s.setReporting b).st = s.withLink l := by
  unfold State.setReporting
  split
  · exact ⟨s.link, rfl⟩
  · exact ⟨_, rfl⟩

theorem State.readStatus_st (s : State) (b : List Byte) : (s.readStatus b).st = s := by
  unfold State.readStatus; split <;> rfl

theorem State.readCounters_st (s : State) (b : List Byte) : ∃ l, (s.readCounters b).st = s.withLink l := by
  unfold State.readCounters
  split
  · exact ⟨s.link, rfl⟩
  · dsimp only
    split
    · exact ⟨⟨_, _⟩, rfl⟩
    · exact ⟨s.link, rfl⟩

/-! ### Invariants of the blocks -/

/-- A predicate that does not look at the line and its counters, and that every command and every event but
a slot time keeps. -/
structure BlockInvariant (P : State → Prop) : Prop where
  line : ∀ s l, P s → P (s.withLink l)
  command : ∀ (s : State) (b : List Byte) (c : Command), P s → P (c.run s b).st
  softReset : ∀ s, P s → P s.softResetEffect
  powerOn : ∀ (s : State) rate, P s → P (s.powerOnReset rate)
  opens : ∀ s, P s → P s.interlockOpens
  closes : ∀ s, P s → P (s.withFcu { s.fcu with interlockClosed := true })
  timeout : ∀ s, P s → P s.timeoutExpires.moveProfiles
  word : ∀ (s : State) w, P s → P (s.wordArrives w)
  parser : ∀ s, P s → P s.parserTakes.moveProfiles
  truncation : ∀ s, P s → P s.truncate.moveProfiles
  commit : ∀ s, P s → P s.commitEnds
  condBegins : ∀ s, P s → P s.beginConditioning
  condCompletes : ∀ s, P s → P s.completeConditioning
  detBegins : ∀ s, P s → P s.beginDetection
  detCompletes : ∀ s, P s → P s.completeDetection

namespace BlockInvariant

variable {P : State → Prop}

theorem bump (h : BlockInvariant P) {s : State} (c : Ctr) (hs : P s) : P (s.bump c) := h.line s (s.link.bump c) hs

theorem slc (h : BlockInvariant P) {s : State} (l : Slc) (hs : P s) : P (s.withSlc l) := h.line s ⟨l, s.ctrs⟩ hs

theorem raise (h : BlockInvariant P) {s : State} (k : NoticeKind) (hs : P s) : P (s.raise k) := h.line s _ hs

theorem execute (h : BlockInvariant P) {s : State} (b : InBlock) (hs : P s) : P (s.execute b).st := by
  unfold State.execute
  split
  · split
    · exact hs
    · split
      · exact h.command s _ _ hs
      · exact hs
  · exact hs

theorem respond (h : BlockInvariant P) {a : Answer} (b : InBlock) (hs : P a.st) : P (a.respond b) := by
  refine h.line _ _ ?_
  unfold State.bumpIf
  split
  · exact h.bump _ hs
  · exact hs

theorem takeLoop (h : BlockInvariant P) (n : Nat) {s : State} (hs : P s) : P (State.takeLoop n s) := by
  induction n generalizing s with
  | zero => exact hs
  | succ n ih =>
    unfold State.takeLoop
    split
    · split
      · exact ih (h.respond _ (h.execute _ (h.bump _ (h.slc _ hs))))
      · exact hs
    · exact hs

theorem serve (h : BlockInvariant P) {s : State} (hs : P s) : P s.serve := h.takeLoop _ hs

theorem deliver (h : BlockInvariant P) {s : State} (b : InBlock) (hs : P s) : P (s.deliver b) := by
  unfold State.deliver
  split
  · exact h.serve (h.bump _ (h.slc _ hs))
  · exact h.raise _ (h.bump _ hs)

theorem dropInbound (h : BlockInvariant P) {s : State} (c : Ctr) (hs : P s) : P (s.dropInbound c) :=
  h.bump c (h.slc _ hs)

theorem character (h : BlockInvariant P) {s : State} (c : Byte) (ok : Bool) (hs : P s) :
    P (s.character c ok) := by
  have hgap : P (s.withSlc { s.slc with gapTimeout := s.slc.charTimeout }) := h.slc _ hs
  unfold State.character
  dsimp only
  split
  · unfold State.goodChar
    split
    · split
      · exact h.slc _ hgap
      · exact hgap
    · split
      · exact h.slc _ hgap
      · unfold State.headerDone
        split
        · exact h.dropInbound _ hgap
        · split <;> exact h.slc _ hgap
    · split <;> exact h.slc _ hgap
    · exact h.slc _ hgap
    · unfold State.crcDone
      split
      · exact h.deliver _ (h.slc _ hgap)
      · exact h.dropInbound _ hgap
  · unfold State.badChar
    split
    · exact hgap
    · exact h.dropInbound _ hgap

theorem blockCompletes (h : BlockInvariant P) {s : State} (hs : P s) : P s.blockCompletes := by
  have hafter : ∀ (u : State) a, P u → P (u.afterResponse a) := by
    intro u a hu
    cases a with
    | nothing => exact hu
    | crcInject => exact h.slc _ hu
    | softReset => exact h.softReset _ hu
  unfold State.blockCompletes
  split
  · exact hs
  · dsimp only
    split
    · exact h.line _ _ (h.bump _ hs)
    · exact h.line _ _ (h.serve (hafter _ _ (h.line _ _ (h.bump _ (h.slc _ (h.bump _ hs))))))

theorem intervalCheck (h : BlockInvariant P) {s : State} (hs : P s) : P s.intervalCheck := by
  unfold State.intervalCheck
  split
  · unfold State.offerInterval
    have hu : P ((s.withSlc { s.slc with elapsed := 0 }).offer .interval
        (intervalPayload (s.withSlc { s.slc with elapsed := 0 }))).1 := h.line _ _ (h.slc _ hs)
    split <;> rename_i heq <;> rw [heq] at hu
    · exact h.bump _ (h.slc _ hu)
    · exact hu
  · exact hs

theorem microsecond (h : BlockInvariant P) {s : State} (hs : P s) : P s.microsecond := by
  unfold State.microsecond
  split
  · exact h.slc _ hs
  · exact h.intervalCheck (h.slc _ (h.slc _ hs))

/-- Every command row and every event keeps a block invariant, a slot time where it is shown to. -/
theorem exec (h : BlockInvariant P) {c : Instr} {s t : State} (hs : P s)
    (hslot : c = .slotTime → P s.slot.moveProfiles) (he : Machine.exec c s = .next t) : P t := by
  cases hrow : commandRow c with
  | some b =>
    rw [exec_commandRow s hrow] at he
    cases he
    exact h.deliver b hs
  | none =>
    cases c with
    | powerOnReset rate => cases he; exact h.powerOn s rate hs
    | slotTime => cases he; exact hslot rfl
    | interlockOpens => cases he; exact h.opens s hs
    | burstTimeout => cases he; exact h.timeout s hs
    | sampleWordArrival w => cases he; exact h.word s w hs
    | parserTakesWord => cases he; exact h.parser s hs
    | truncationTimerExpiry => cases he; exact h.truncation s hs
    | commitEnd => cases he; exact h.commit s hs
    | conditioningBegin => cases he; exact h.condBegins s hs
    | conditioningComplete => cases he; exact h.condCompletes s hs
    | detectionBegin => cases he; exact h.detBegins s hs
    | detectionComplete => cases he; exact h.detCompletes s hs
    | inboundCharacter c ok => cases he; exact h.character c ok hs
    | interCharacterTimeout =>
      cases he
      unfold State.gapExpires
      split
      · exact hs
      · exact h.dropInbound _ hs
    | blockComplete => cases he; exact h.blockCompletes hs
    | intervalDue => cases he; exact h.intervalCheck hs
    | interlockCloses => cases he; exact h.closes s hs
    | timebaseAdvance => cases he; exact h.microsecond hs
    | _ => simp [commandRow] at hrow

end BlockInvariant

/-! ### The step, the queue (log entries 1 and 4) -/

/-- The queue of waiting commands as a block invariant: nothing within an event touches it. -/
theorem pending_invariant (q : List Instr) : BlockInvariant fun s => s.pending = q where
  line _ _ h := h
  command s b c h := by
    have htime := s.timeMark_st b
    have hrep := s.setReporting_st b
    have hread := s.readCounters_st b
    cases c <;> simp only [Command.run, State.resetTracks, State.injectCrc, State.readTracks, State.softReset]
    case setProgram => obtain h1 | ⟨-, _, _, h1⟩ := s.setProgram_st b <;> simpa [h1, State.writeProgram]
    case setFiring => obtain h1 | ⟨_, h1⟩ := s.setFiring_st b <;> simpa [h1]
    case setSchedule => obtain h1 | ⟨_, h1⟩ := s.setSchedule_st b <;> simpa [h1]
    case start => obtain h1 | ⟨-, h1⟩ := s.start_st <;> simpa [h1, State.run]
    case stop => obtain h1 | ⟨-, h1⟩ := s.stop_st <;> simpa [h1]
    case clearTrip => obtain h1 | ⟨-, h1⟩ := s.clearTrip_st <;> simpa [h1]
    case loadGates => obtain h1 | ⟨_, _, h1⟩ := s.loadGates_st b <;> simpa [h1]
    case loadCorrection => obtain h1 | h1 | ⟨_, _, h1⟩ := s.loadCorrection_st b <;> simpa [h1]
    case loadThresholds => obtain h1 | h1 | ⟨_, _, h1⟩ := s.loadThresholds_st b <;> simpa [h1]
    case setTracking => obtain h1 | ⟨_, h1⟩ := s.setTracking_st b <;> simpa [h1]
    case resetTracks => simpa
    case setSky => obtain h1 | ⟨_, h1⟩ := s.setSky_st b <;> simpa [h1]
    case setCapture => obtain h1 | ⟨_, h1⟩ := s.setCapture_st b <;> simpa [h1]
    case injectEcho => obtain h1 | ⟨_, h1 | h1⟩ := s.injectEcho_st b <;> simpa [h1]
    case pathCheck => obtain h1 | ⟨-, _, -, h1⟩ := s.pathCheck_st b <;> simpa [h1]
    case setReporting => obtain ⟨_, h1⟩ := hrep; simpa [h1]
    case timeMark => obtain ⟨_, h1⟩ := htime; simpa [h1]
    case readStatus => simpa [s.readStatus_st b]
    case readCounters => obtain ⟨_, h1⟩ := hread; simpa [h1]
    all_goals exact h
  softReset _ h := h
  powerOn _ _ h := h
  opens s h := by
    unfold State.interlockOpens
    split
    · dsimp only
      split <;> simpa
    · exact h
  closes _ h := h
  timeout _ h := by simpa
  word _ _ h := by simpa
  parser _ h := by simpa
  truncation _ h := by simpa
  commit _ h := by simpa
  condBegins s h := by unfold State.beginConditioning; split <;> simpa
  condCompletes s h := by unfold State.completeConditioning; split <;> simpa
  detBegins s h := by unfold State.beginDetection; split <;> simpa
  detCompletes s h := by unfold State.completeDetection; split <;> simpa

/-- Every row answers a next state: the model has no fault and refuses nothing (log entry 1). -/
theorem exec_next (c : Instr) (s : State) : ∃ t, exec c s = .next t := by
  cases c <;> exact ⟨_, rfl⟩

/-- Settles O1: the step is defined by the front of the queue. -/
theorem stepRunsFrontCommand : Obligations.StepRunsFrontCommand := by
  refine ⟨fun c rest s h => ?_, fun s h => ?_⟩
  · simp [step, h]
  · simp [step, h]

/-- Settles O2, by the queue as a block invariant. -/
theorem everyCommandCompletes : Obligations.EveryCommandCompletes := by
  intro c s
  obtain ⟨t, ht⟩ := exec_next c s
  exact ⟨t, ht, (pending_invariant s.pending).exec rfl (fun _ => by simp) ht⟩

end Sys2Proof.Machine
end

section
/-! What the receiver's events can do to the FCU: they leave its state, its alarm, its drive and its pulses
alone and never set a shot in flight, or the shot in flight trips it (R8, R21, R36). The FCU stays safe, and
FIRE is pulsed at slot times alone (R6, R21 to R24, R43). -/

namespace Sys2Proof.Machine

/-! ### Events that leave the FCU calm, or trip it -/

/-- `t` follows from `s` without a trip: the FCU keeps its state, its alarm and its pins, no shot is set in
flight, and no path check starts. -/
structure State.Calm (s t : State) : Prop where
  state : t.fcu.state = s.fcu.state
  alert : t.fcu.alert = s.fcu.alert
  trip : t.fcu.trip = s.fcu.trip
  interlock : t.fcu.interlockClosed = s.fcu.interlockClosed
  drive : t.fcu.drive = s.fcu.drive
  pulses : t.fcu.pulses = s.fcu.pulses
  shot : t.fcu.shot.isSome = true → s.fcu.shot.isSome = true
  path : t.rsp.path.running = true → s.rsp.path.running = true

theorem State.Calm.refl (s : State) : s.Calm s := ⟨rfl, rfl, rfl, rfl, rfl, rfl, id, id⟩

theorem State.Calm.trans {s u t : State} (h : s.Calm u) (k : u.Calm t) : s.Calm t :=
  ⟨k.state.trans h.state, k.alert.trans h.alert, k.trip.trans h.trip, k.interlock.trans h.interlock,
    k.drive.trans h.drive, k.pulses.trans h.pulses, h.shot ∘ k.shot, h.path ∘ k.path⟩

/-- What follows a calm operation, the operation behind it named first. -/
theorem State.Calm.after {s u t : State} (k : u.Calm t) (h : s.Calm u) : s.Calm t := h.trans k

/-- An operation that leaves the FCU and the path-check record alone. -/
theorem State.calm_of_eq {s t : State} (hf : t.fcu = s.fcu) (hr : t.rsp.path = s.rsp.path) : s.Calm t := by
  constructor <;> simp [hf, hr]

theorem State.Calm.bump {s t : State} (h : s.Calm t) (c : Ctr) : s.Calm (t.bump c) :=
  h.trans (State.calm_of_eq rfl rfl)

theorem State.Calm.raise {s t : State} (h : s.Calm t) (k : NoticeKind) : s.Calm (t.raise k) :=
  h.trans (State.calm_of_eq (by simp) (by simp))

theorem State.Calm.parserTo {s t : State} (h : s.Calm t) (p : Parser) : s.Calm (t.parserTo p) :=
  h.trans (State.calm_of_eq rfl rfl)

/-- `t` follows from `s` calmly, or by a trip that the shot in flight caused. -/
def State.CalmOrTrip (s t : State) : Prop :=
  s.Calm t ∨ s.fcu.shot.isSome = true
    ∧ ∃ (u : State) (cause : TripCause) (slot : Fin 32), s.Calm u ∧ (u.tripFcu cause slot).Calm t

theorem State.CalmOrTrip.calm {s u t : State} (h : s.CalmOrTrip u) (k : u.Calm t) : s.CalmOrTrip t := by
  obtain h | ⟨hs, v, cause, slot, hv, hu⟩ := h
  · exact .inl (h.trans k)
  · exact .inr ⟨hs, v, cause, slot, hv, hu.trans k⟩

theorem State.Calm.orTrip {s u t : State} (h : s.Calm u) (k : u.CalmOrTrip t) : s.CalmOrTrip t := by
  obtain k | ⟨hs, v, cause, slot, hv, hu⟩ := k
  · exact .inl (h.trans k)
  · exact .inr ⟨h.shot hs, v, cause, slot, h.trans hv, hu⟩

/-! ### The receiver's operations -/

theorem State.calm_settleShot (s : State) (sh : Shot) (f : Fate) : s.Calm (s.settleShot sh f) := by
  constructor <;> simp [State.settleShot_fcu]

theorem State.calm_settlePath (s : State) : s.Calm s.settlePath := by
  constructor <;> simp +contextual [State.settlePath]

theorem State.calm_rejectCapture (s : State) (path : Bool) : s.Calm (s.rejectCapture path) := by
  have hdiscard : s.Calm s.discardStaging := State.calm_of_eq (by simp) (by simp)
  simp only [State.rejectCapture]
  split
  · exact hdiscard.trans (State.calm_settlePath _)
  · split
    · exact hdiscard.trans (State.calm_settleShot _ _ _)
    · exact hdiscard

theorem State.calm_rejectBurst (s : State) (b : Burst) : s.Calm (s.rejectBurst b) :=
  (State.calm_rejectCapture (s.parserTo .hunt) b.path).after (State.calm_of_eq rfl rfl)

theorem State.calm_completeBurst (s : State) (b : Burst) : s.Calm (s.completeBurst b) := by
  have hparser : s.Calm (s.parserTo .trail) := State.calm_of_eq rfl rfl
  simp only [State.completeBurst]
  split
  · exact (State.calm_settlePath _).after (State.calm_of_eq rfl rfl)
  · split
    · exact hparser
    · split
      · split
        · exact hparser.trans (State.calm_settleShot _ _ _)
        · exact (State.calm_settleShot _ _ _).after (State.calm_of_eq (by simp) (by simp [State.parserTo]))
      · exact (State.calm_settleShot _ _ _).after (State.calm_of_eq (by simp) (by simp [State.parserTo]))

/-- Feeding a servo changes the servo records alone in the FCU (R17). -/
theorem State.feedServo_fcu (s : State) (p : Prog) (e : Nat) :
    ∃ v, (s.feedServo p e).fcu = { s.fcu with servos := v } := by
  simp only [State.feedServo]
  split
  · exact ⟨s.fcu.servos, rfl⟩
  · generalize hu : s.withFcu _ = u
    have hfcu := congrArg State.fcu hu
    split <;> split <;> exact ⟨_, by simp [← hfcu]; rfl⟩

theorem State.calm_feedServo (s : State) (p : Prog) (e : Nat) : s.Calm (s.feedServo p e) := by
  obtain ⟨v, hv⟩ := s.feedServo_fcu p e
  constructor <;> simp [hv]

/-- A judgement of the shot in flight leaves the FCU calm or trips it (R12 to R14). -/
theorem State.judge_calmOrTrip (s : State) (sh : Shot) (e : Nat) (h : s.fcu.shot.isSome = true) :
    s.CalmOrTrip (s.judge sh e) := by
  have hmatch : s.Calm (s.matchShot sh) := by constructor <;> simp [State.matchShot, h]
  have htrip : ∀ (u : State) cause slot, s.Calm u → s.CalmOrTrip (u.tripFcu cause slot) :=
    fun u cause slot hu => .inr ⟨h, u, cause, slot, hu, .refl _⟩
  unfold State.judge
  split
  · simp only [State.judgeFire, State.judgeWeak]
    split
    · have hmark : s.Calm (((s.matchShot sh).withFcu { (s.matchShot sh).fcu with
          shot := some { sh with headerTaken := true, weak := true }
          weakRun := (s.matchShot sh).fcu.weakRun + 1 }).bump Ctr.weakShots) := by
        constructor <;> simp [State.matchShot, h]
      have hfed := (hmark.trans (State.calm_feedServo _ sh.prog e)).bump
        (energyBin e (s.matchShot sh).progs[sh.prog].eRef)
      split
      · exact htrip _ _ _ hfed
      · exact .inl hfed
    · split
      · have hnormal : s.Calm ((s.matchShot sh).withFcu { (s.matchShot sh).fcu with weakRun := 0 }) := by
          constructor <;> simp [State.matchShot, h]
        exact .inl ((hnormal.trans (State.calm_feedServo _ sh.prog e)).bump _)
      · exact htrip _ _ _ (hmatch.trans (State.calm_of_eq rfl rfl))
  · simp only [State.judgeDark]
    split
    · exact htrip _ _ _ hmatch
    · exact .inl hmatch

theorem State.shotHeader_calmOrTrip (s : State) (sh : Shot) (m r w : Word) (h : s.fcu.shot.isSome = true) :
    s.CalmOrTrip (s.shotHeader sh m r w) := by
  have hfail : ∀ (u : State) c, u.Calm (u.bump c).failHeader := fun u c => State.calm_of_eq rfl rfl
  have hjudge := s.judge_calmOrTrip sh (readingOf r) h
  simp only [State.shotHeader]
  split
  · exact .inl ((hfail _ _).trans (State.calm_rejectCapture _ _))
  · split
    · exact hjudge.calm (hfail _ _)
    · split
      · exact hjudge.calm ((hfail _ _).trans (State.calm_rejectCapture _ _))
      · exact hjudge.calm (State.calm_of_eq (by simp) (by simp [State.enterSamples]))

theorem State.calm_pathHeader (s : State) (c : PathCapture) (m w : Word) : s.Calm (s.pathHeader c m w) := by
  simp only [State.pathHeader]
  split
  · exact (State.calm_rejectCapture _ _).after (State.calm_of_eq rfl rfl)
  · split
    · refine (State.calm_rejectCapture _ _).after ?_
      constructor <;> simp
    · constructor <;> simp [State.enterSamples]

theorem State.takeHeader_calmOrTrip (s : State) (m r w : Word) : s.CalmOrTrip (s.takeHeader m r w) := by
  have hstray : s.Calm (s.bump Ctr.strayBursts).failHeader := State.calm_of_eq rfl rfl
  unfold State.takeHeader
  split
  · split
    · exact .inl (s.calm_pathHeader _ m w)
    · exact .inl hstray
  · split
    · exact s.shotHeader_calmOrTrip _ m r w (by simp_all)
    · exact .inl hstray

/-- A compared word does not decide whether the check runs, nor its capture (R46, R47). -/
theorem PathCheck.compare_running (c : PathCheck) (ok : Bool) :
    (c.compare ok).1.running = c.running ∧ (c.compare ok).1.capture = c.capture
      ∧ (c.compare ok).1.issued = c.issued ∧ (c.compare ok).1.settled = c.settled
      ∧ (c.compare ok).1.n = c.n := by
  unfold PathCheck.compare
  dsimp only
  split
  · split
    · exact ⟨rfl, rfl, rfl, rfl, rfl⟩
    · generalize (if c.wordIndex % 48 = 0 then 0 else c.windowErrors) + _ = win
      by_cases hlost : 10 ≤ win <;> simp [hlost]
  · split
    · split <;> exact ⟨rfl, rfl, rfl, rfl, rfl⟩
    · exact ⟨rfl, rfl, rfl, rfl, rfl⟩

/-- A compared word changes in the RSP the path-check record alone (R46). -/
theorem State.compareWord_rsp (s : State) (b : Burst) (w : Word) : (s.compareWord b w).rsp
    = { s.rsp with path := (s.rsp.path.compare (w.toNat = patternWord b.tag b.next)).1 } := by
  simp only [State.compareWord]
  split <;> split <;> simp

theorem State.calm_takeSample (s : State) (b : Burst) (w : Word) : s.Calm (s.takeSample b w) := by
  have htaken : s.Calm (if b.path then s.compareWord b w else s.passSample b.next w) := by
    split
    · constructor <;> simp [State.compareWord_rsp, PathCheck.compare_running]
    · exact State.calm_of_eq (by simp) (by simp)
  simp only [State.takeSample]
  split
  · exact htaken.trans (State.calm_completeBurst _ _)
  · exact htaken.trans (State.calm_of_eq rfl rfl)

theorem State.calm_takeMark (s : State) (w : Word) : s.Calm (s.takeMark w) := by
  simp only [State.takeMark]
  refine State.Calm.parserTo ?_ _
  split
  · exact .refl s
  · exact .refl s
  · exact State.calm_of_eq rfl rfl
  · exact (((State.Calm.refl s).bump _).trans (State.calm_rejectBurst _ _)).raise _

theorem State.takeOther_calmOrTrip (s : State) (w : Word) : s.CalmOrTrip (s.takeOther w) := by
  unfold State.takeOther
  split
  · exact .inl (State.calm_of_eq rfl rfl)
  · exact .inl (State.calm_of_eq rfl rfl)
  · exact s.takeHeader_calmOrTrip _ _ w
  · exact .inl (s.calm_takeSample _ w)
  · exact .inl (State.calm_of_eq rfl rfl)

theorem State.calm_reachSlips (s : State) : s.Calm s.reachSlips := by
  have hslip : ∀ u : State, u.Calm u.reachSlip := by
    intro u
    unfold State.reachSlip
    split
    · exact (State.calm_rejectBurst _ _).after (State.calm_of_eq rfl rfl)
    all_goals exact State.calm_of_eq rfl rfl
  unfold State.reachSlips
  split
  · exact (hslip _).after (State.calm_of_eq rfl rfl)
  · exact .refl s

theorem State.parserTakes_calmOrTrip (s : State) : s.CalmOrTrip s.parserTakes := by
  unfold State.parserTakes
  split
  · exact .inl (.refl s)
  · exact .inl s.calm_reachSlips
  · rename_i w rest _
    split
    · exact .inl (.refl s)
    · dsimp only
      have htaken : s.Calm (s.withRsp { s.rsp with buffer := rest }) := State.calm_of_eq rfl rfl
      refine (htaken.orTrip ?_).calm (State.calm_reachSlips _)
      split
      · exact .inl (State.calm_takeMark _ _)
      · exact State.takeOther_calmOrTrip _ _

theorem State.calm_truncate (s : State) : s.Calm s.truncate := by
  unfold State.truncate
  split
  · exact (((State.Calm.refl s).bump _).trans (State.calm_rejectBurst _ _)).raise _
  · exact .refl s

theorem State.loseShot_calmOrTrip (s : State) (sh : Shot) (h : s.fcu.shot.isSome = true) :
    s.CalmOrTrip (s.loseShot sh) := by
  simp only [State.loseShot]
  have hlost : s.Calm (((s.settleShot sh .lost).bump Ctr.lostCaptures).withFcu
      { ((s.settleShot sh .lost).bump Ctr.lostCaptures).fcu with
        lostRun := ((s.settleShot sh .lost).bump Ctr.lostCaptures).fcu.lostRun + 1 }) :=
    (s.calm_settleShot sh .lost).trans (by constructor <;> simp)
  split
  · exact .inr ⟨h, _, _, _, hlost, .refl _⟩
  · exact .inl hlost

theorem State.timeoutExpires_calmOrTrip (s : State) : s.CalmOrTrip s.timeoutExpires := by
  have hclear : s.Calm (s.withFcu { s.fcu with burstTimer := none }) := by constructor <;> simp
  unfold State.timeoutExpires
  split
  · exact .inl (.refl s)
  · dsimp only
    refine hclear.orTrip ?_
    split
    · exact .inl ((State.calm_settlePath _).after (State.calm_of_eq rfl rfl))
    · split
      · rename_i hsh
        refine State.loseShot_calmOrTrip _ _ ?_
        unfold State.shotExpiring at hsh
        split at hsh <;> simp_all
      · exact .inl (.refl _)

/-- The profile path does not touch the FCU. -/
theorem State.calm_moveProfiles (s : State) : s.Calm s.moveProfiles := State.calm_of_eq (by simp) (by simp)

/-! ### The FCU stays safe (R6, R21 to R24, R43) -/

theorem State.Calm.fcuSafe {s t : State} (h : s.Calm t) (hs : s.fcuSafe) : t.fcuSafe := by
  obtain ⟨halert, htrip, hlock, hidle, hpath⟩ := hs
  refine ⟨?_, ?_, ?_, fun hn => ⟨?_, ?_⟩, fun hp => ?_⟩
  · rw [h.alert, h.state]; exact halert
  · rw [h.trip, h.state]; exact htrip
  · rw [h.state, h.interlock]; exact hlock
  · have hnone := (hidle (h.state ▸ hn)).1
    cases hshot : t.fcu.shot with
    | none => rfl
    | some sh => simpa [hnone] using h.shot (by simp [hshot])
  · rw [h.drive]; exact (hidle (h.state ▸ hn)).2
  · rw [h.state]; exact hpath (h.path hp)

/-- A trip with no path check running leaves the FCU safe, whatever it was before (R21). -/
theorem State.tripFcu_fcuSafe (s : State) (cause : TripCause) (slot : Fin 32)
    (h : s.rsp.path.running = false) : (s.tripFcu cause slot).fcuSafe := by
  have hpath : (s.tripFcu cause slot).rsp.path.running = false := by
    rw [State.tripFcu_rsp, State.dropBurst]
    split <;> simpa using h
  simp [State.fcuSafe, State.tripFcu_fcu, hpath]

/-- Where the FCU is safe, a shot in flight is one of a RUNNING FCU, and no path check runs. -/
theorem State.fcuSafe.running {s : State} (h : s.fcuSafe) (hshot : s.fcu.shot.isSome = true) :
    s.fcu.state = .running ∧ s.rsp.path.running = false := by
  obtain ⟨-, -, -, hidle, hpath⟩ := h
  have hrun : s.fcu.state = .running := by
    by_contra hn
    simp [(hidle hn).1] at hshot
  refine ⟨hrun, ?_⟩
  cases hp : s.rsp.path.running with
  | false => rfl
  | true => simp [hpath hp] at hrun

theorem State.CalmOrTrip.fcuSafe {s t : State} (h : s.CalmOrTrip t) (hs : s.fcuSafe) : t.fcuSafe := by
  obtain h | ⟨hshot, u, cause, slot, hu, ht⟩ := h
  · exact h.fcuSafe hs
  · refine ht.fcuSafe (u.tripFcu_fcuSafe cause slot ?_)
    have hno := (hs.running hshot).2
    cases hp : u.rsp.path.running with
    | false => rfl
    | true => exact absurd (hu.path hp) (by simp [hno])

end Sys2Proof.Machine
end

section
/-! Slot times: what each decision makes of the FCU (R2 to R11, R44). -/

namespace Sys2Proof.Machine

/-! ### The decision (R5) -/

/-- The FCU when a slot time is decided: the next period begins and no pin is pulsed yet (R2). -/
def Fcu.slotBegun (f : Fcu) : Fcu := { f with timerPeriod := f.firing.shotPeriod, pulses := Pulses.quiet }

/-- The FCU after a slot time that pulses nothing: a charge of 0 enters the window (R4, R5). -/
def Fcu.quietSlot (f : Fcu) : Fcu :=
  { f.slotBegun with window := 0 :: f.window.take 1023, pointer := f.pointer + 1 }

/-- The FCU after a slot time that captures: the tag advances and the burst timeout starts (R6, R7, R44). -/
def Fcu.captureSlot (f : Fcu) (pulses : Pulses) (charge : Nat) : Fcu :=
  { f.slotBegun with
    pulses := pulses
    shotTag := f.shotTag + 1
    burstTimer := some ⟨f.shotTag + 1, f.firing.burstTimeout⟩
    window := charge :: f.window.take 1023
    pointer := f.pointer + 1 }

/-- A fired shot at a slot time (R6). -/
def Fcu.fireSlot (f : Fcu) (p : Prog) (charge : Nat) : Fcu :=
  { f.captureSlot ⟨true, true, false⟩ charge with
    drive := f.servos[p].drive
    budgetHold := false
    shot := some ⟨.fire, p, f.pointer, f.shotTag + 1, false, false⟩ }

/-- A dark capture at a slot time (R7). -/
def Fcu.darkSlot (f : Fcu) (p : Prog) : Fcu :=
  { f.captureSlot ⟨false, true, false⟩ 0 with
    shot := some ⟨.dark, p, f.pointer, f.shotTag + 1, false, false⟩ }

theorem State.slot_of_running (s : State) (h : s.fcu.state = .running) :
    s.slot = (s.withFcu s.fcu.slotBegun).slotRunning := if_pos h

theorem State.slot_of_idle (s : State) (h : s.fcu.state ≠ .running) :
    s.slot = (s.withFcu s.fcu.slotBegun).slotIdle := if_neg h

/-- A refusal NO_BANK within a spell (R59). -/
theorem State.starve_of_starved (s : State) (p : Prog) (h : s.gau.starved[p] = true) :
    s.starve p = s.bump Ctr.withheldNoBank := if_pos h

/-- The first refusal NO_BANK of a spell (R59). -/
theorem State.starve_of_fed (s : State) (p : Prog) (h : s.gau.starved[p] = false) :
    s.starve p = (((s.bump Ctr.withheldNoBank).withGau { s.gau with starved := s.gau.starved.set p true }).bump
      Ctr.starvationSpells).raise .profileStarved := if_neg (by rw [h]; decide)

/-- A refusal NO_BANK does not look at the FCU (R59). -/
theorem State.starve_withFcu (s : State) (p : Prog) (f : Fcu) :
    (s.withFcu f).starve p = (s.starve p).withFcu f := by
  cases h : s.gau.starved[p] with
  | true => rw [s.starve_of_starved p h, (s.withFcu f).starve_of_starved p h]; rfl
  | false => rw [s.starve_of_fed p h, (s.withFcu f).starve_of_fed p h]; rfl

/-- The request for a bank does not look at the FCU (R58). -/
theorem State.bankRequest_withFcu (s : State) (p : Prog) (f : Fcu) :
    (s.withFcu f).bankRequest p = ((s.bankRequest p).1.withFcu f, (s.bankRequest p).2) := by
  simp only [State.bankRequest, State.withFcu_gau]
  split
  · rfl
  · split
    · rfl
    · rw [State.starve_withFcu]

/-- The state in which a granted slot is decided (R58). -/
def State.slotGranted (s : State) (p : Prog) : State := (s.bankRequest p).1.withFcu s.fcu.slotBegun

@[simp] theorem State.slotGranted_frame (s : State) (p : Prog) : (s.slotGranted p).progs = s.progs
    ∧ (s.slotGranted p).fcu = s.fcu.slotBegun ∧ (s.slotGranted p).rsp = s.rsp
    ∧ (s.slotGranted p).pcu = s.pcu ∧ (s.slotGranted p).ldu = s.ldu ∧ (s.slotGranted p).ltu = s.ltu
    ∧ (s.slotGranted p).sku = s.sku ∧ (s.slotGranted p).mgu = s.mgu ∧ (s.slotGranted p).pending = s.pending
    ∧ (s.slotGranted p).gau = (s.bankRequest p).1.gau ∧ (s.slotGranted p).slc = (s.bankRequest p).1.slc
    ∧ (s.slotGranted p).ctrs = (s.bankRequest p).1.ctrs := by simp [State.slotGranted]

/-- A FIRE slot of an enabled program in RUNNING: a bank is requested first (R5, R58, R59). -/
theorem State.slot_fire (s : State) (p : Prog) (h : s.fcu.state = .running)
    (hs : s.fcu.schedule[s.fcu.pointer] = .fire p) (he : s.progs[p].enabled = true) :
    s.slot = match (s.bankRequest p).2 with
      | some b => (s.slotGranted p).fireSlot p b
      | none => (s.slotGranted p).enterCharge 0 := by
  have hs' : (s.withFcu s.fcu.slotBegun).fcu.schedule[(s.withFcu s.fcu.slotBegun).fcu.pointer] = .fire p := hs
  have he' : (s.withFcu s.fcu.slotBegun).progs[p].enabled = true := he
  rw [s.slot_of_running h]
  simp only [State.slotRunning, hs', he', if_true, State.bankRequest_withFcu, State.slotGranted]
  cases (s.bankRequest p).2 <;> rfl

/-- A DARK slot of an enabled program in RUNNING (R5, R7). -/
theorem State.slot_dark (s : State) (p : Prog) (h : s.fcu.state = .running)
    (hs : s.fcu.schedule[s.fcu.pointer] = .dark p) (he : s.progs[p].enabled = true) :
    s.slot = if s.fcu.shot.isSome then
        ((s.withFcu s.fcu.slotBegun).bump Ctr.withheldBusy).enterCharge 0
      else ((s.withFcu s.fcu.slotBegun).fireDark p).enterCharge 0 := by
  have hs' : (s.withFcu s.fcu.slotBegun).fcu.schedule[(s.withFcu s.fcu.slotBegun).fcu.pointer] = .dark p := hs
  have he' : (s.withFcu s.fcu.slotBegun).progs[p].enabled = true := he
  rw [s.slot_of_running h]
  simp only [State.slotRunning, hs', he', if_true]
  rfl

/-- A SKIP slot, or one of a program that is not enabled, in RUNNING (R5). -/
theorem State.slot_skipped (s : State) (h : s.fcu.state = .running)
    (hn : ∀ p, s.fcu.schedule[s.fcu.pointer] = .fire p ∨ s.fcu.schedule[s.fcu.pointer] = .dark p →
      s.progs[p].enabled = false) :
    s.slot = (s.withFcu s.fcu.slotBegun).enterCharge 0 := by
  rw [s.slot_of_running h]
  unfold State.slotRunning
  split
  · rfl
  · rename_i p hp
    have hoff : ¬ (s.withFcu s.fcu.slotBegun).progs[p].enabled = true := by
      rw [show (s.withFcu s.fcu.slotBegun).progs[p].enabled = false from hn p (.inr hp)]; decide
    rw [if_neg hoff]
  · rename_i p hp
    have hoff : ¬ (s.withFcu s.fcu.slotBegun).progs[p].enabled = true := by
      rw [show (s.withFcu s.fcu.slotBegun).progs[p].enabled = false from hn p (.inl hp)]; decide
    rw [if_neg hoff]

/-! ### The FCU after each decision -/

/-- A withheld slot of a granted bank counts against it; the FCU enters a charge of 0 (R5, R10, R60). -/
theorem State.fireSlot_busy (s : State) (p : Prog) (b : Fin 6) (h : s.fcu.shot.isSome = true) :
    s.fireSlot p b = ((s.bump Ctr.withheldBusy).countSlot b none).enterCharge 0 := by
  simp [State.fireSlot, h]

theorem State.fireSlot_fires (s : State) (p : Prog) (b : Fin 6) (h : s.fcu.shot = none)
    (hb : s.fcu.budgetOk s.progs[p].eRef = true) : s.fireSlot p b
      = ((s.fireShot p).countSlot b (some s.fcu.pointer)).enterCharge s.progs[p].eRef := by
  unfold State.fireSlot
  rw [if_neg (by simp [h]), if_pos hb]

theorem State.fireSlot_overBudget (s : State) (p : Prog) (b : Fin 6) (h : s.fcu.shot = none)
    (hb : s.fcu.budgetOk s.progs[p].eRef = false) :
    s.fireSlot p b = (s.holdBudget.countSlot b none).enterCharge 0 := by
  unfold State.fireSlot
  rw [if_neg (by simp [h]), if_neg (by rw [hb]; decide)]

@[simp] theorem Fcu.slotBegun_budgetOk (f : Fcu) (n : Nat) : f.slotBegun.budgetOk n = f.budgetOk n := rfl

@[simp] theorem State.enterCharge_fcu (s : State) (n : Nat) : (s.enterCharge n).fcu
    = { s.fcu with window := n :: s.fcu.window.take 1023, pointer := s.fcu.pointer + 1 } := rfl

@[simp] theorem State.holdBudget_fcu (s : State) :
    s.holdBudget.fcu = { s.fcu with budgetHold := true } := by
  unfold State.holdBudget
  dsimp only
  split
  · rename_i h
    simpa using congrArg (fun q => { s.fcu with budgetHold := q }) h
  · simp

/-- What a slot time can make of the FCU: no pulse, a shot fired, a dark capture, or a path-check capture. -/
theorem State.slot_cases (s : State) :
    (∃ hold, s.slot.fcu = { s.fcu.quietSlot with budgetHold := hold } ∧ s.slot.rsp = s.rsp)
    ∨ (∃ p : Prog, (s.fcu.state = .running ∧ s.fcu.schedule[s.fcu.pointer] = .fire p
        ∧ s.progs[p].enabled = true ∧ s.fcu.shot = none ∧ s.fcu.budgetOk s.progs[p].eRef = true)
        ∧ s.slot.fcu = s.fcu.fireSlot p s.progs[p].eRef ∧ s.slot.rsp = s.rsp)
    ∨ (∃ p : Prog, s.fcu.state = .running ∧ s.slot.fcu = s.fcu.darkSlot p ∧ s.slot.rsp = s.rsp)
    ∨ ∃ c, s.fcu.state = .halted ∧ s.slot.fcu = s.fcu.captureSlot ⟨false, true, true⟩ 0
        ∧ s.slot.rsp = { s.rsp with path := { s.rsp.path with
            issued := s.rsp.path.issued + 1, capture := some c } } := by
  by_cases hrun : s.fcu.state = .running
  · by_cases hskip : ∀ p, s.fcu.schedule[s.fcu.pointer] = .fire p ∨ s.fcu.schedule[s.fcu.pointer] = .dark p →
        s.progs[p].enabled = false
    · rw [s.slot_skipped hrun hskip]
      exact .inl ⟨s.fcu.budgetHold, rfl, rfl⟩
    · push Not at hskip
      obtain ⟨p, hslot, hen⟩ := hskip
      have hen : s.progs[p].enabled = true := by simpa using hen
      obtain hfire | hdark := hslot
      · rw [s.slot_fire p hrun hfire hen]
        cases hb : (s.bankRequest p).2 with
        | none => exact .inl ⟨s.fcu.budgetHold, by simp [Fcu.quietSlot, Fcu.slotBegun], by simp⟩
        | some b =>
          by_cases hshot : s.fcu.shot = none
          · cases hok : s.fcu.budgetOk s.progs[p].eRef with
            | true =>
              refine .inr (.inl ⟨p, ⟨hrun, hfire, hen, hshot, hok⟩, ?_, by simp⟩)
              simp only []
              rw [State.fireSlot_fires _ p b (by simpa [Fcu.slotBegun]) (by simpa using hok)]
              simp [State.fireShot, State.pulse, State.setShot, Fcu.fireSlot, Fcu.captureSlot, Fcu.slotBegun]
            | false =>
              refine .inl ⟨true, ?_, by simp⟩
              simp only []
              rw [State.fireSlot_overBudget _ p b (by simpa [Fcu.slotBegun]) (by simpa using hok)]
              simp [Fcu.quietSlot, Fcu.slotBegun]
          · refine .inl ⟨s.fcu.budgetHold, ?_, by simp⟩
            simp only []
            rw [State.fireSlot_busy _ p b (by simpa [Fcu.slotBegun, Option.isSome_iff_ne_none] using hshot)]
            simp [Fcu.quietSlot, Fcu.slotBegun]
      · rw [s.slot_dark p hrun hdark hen]
        split
        · exact .inl ⟨s.fcu.budgetHold, rfl, rfl⟩
        · exact .inr (.inr (.inl ⟨p, hrun, rfl, rfl⟩))
  · rw [s.slot_of_idle hrun]
    simp only [State.slotIdle, State.pathSlot]
    split
    · split
      · exact .inr (.inr (.inr ⟨_, ‹_›, rfl, rfl⟩))
      · exact .inl ⟨s.fcu.budgetHold, rfl, rfl⟩
    · exact .inl ⟨s.fcu.budgetHold, rfl, rfl⟩

end Sys2Proof.Machine
end

section
/-! The FCU stays safe, and FIRE is pulsed at an allowed slot time alone (R6, R10, R21 to R24, R43). -/

namespace Sys2Proof.Machine

/-- A slot time keeps the FCU safe: it pulses and sets a shot in flight in RUNNING alone. -/
theorem State.slot_fcuSafe (s : State) (h : s.fcuSafe) : s.slot.fcuSafe := by
  obtain ⟨halert, htrip, hlock, hidle, hpath⟩ := h
  obtain ⟨hold, hf, hr⟩ | ⟨p, ⟨hrun, -⟩, hf, hr⟩ | ⟨p, hrun, hf, hr⟩ | ⟨c, hhalt, hf, hr⟩ := s.slot_cases
  · simpa [State.fcuSafe, hf, hr] using ⟨halert, htrip, hlock, hidle, hpath⟩
  · simp_all [State.fcuSafe, Fcu.fireSlot, Fcu.captureSlot, Fcu.slotBegun]
  · simp_all [State.fcuSafe, Fcu.darkSlot, Fcu.captureSlot, Fcu.slotBegun]
  · simp_all [State.fcuSafe, Fcu.captureSlot, Fcu.slotBegun]

/-- Operations that leave the FCU and the running mark of the path check alone keep the FCU safe. -/
theorem State.fcuSafe_of_eq {s t : State} (hs : s.fcuSafe) (hf : t.fcu = s.fcu) (hr : t.rsp.path = s.rsp.path) :
    t.fcuSafe := (State.calm_of_eq hf hr).fcuSafe hs

theorem State.command_fcuSafe (s : State) (b : List Byte) (c : Command) (h : s.fcuSafe) :
    (c.run s b).st.fcuSafe := by
  have heq : ∀ t : State, t.fcu = s.fcu → t.rsp = s.rsp → t.fcuSafe :=
    fun t hf hr => State.fcuSafe_of_eq h hf (by rw [hr])
  obtain ⟨halert, htrip, hlock, hidle, hpath⟩ := id h
  cases c <;> simp only [Command.run, State.resetTracks, State.injectCrc, State.readTracks, State.softReset]
  case setProgram =>
    obtain h1 | ⟨-, _, _, h1⟩ := s.setProgram_st b
    · rwa [h1]
    · rw [h1]; exact h
  case setFiring =>
    obtain h1 | ⟨_, h1⟩ := s.setFiring_st b
    · rwa [h1]
    · rw [h1]; exact h
  case setSchedule =>
    obtain h1 | ⟨_, h1⟩ := s.setSchedule_st b
    · rwa [h1]
    · rw [h1]; exact h
  case start =>
    obtain h1 | ⟨⟨hhalt, hclosed, hready⟩, h1⟩ := s.start_st
    · rwa [h1]
    · have hno : s.rsp.path.running = false := by
        simp only [State.startReady, Bool.and_eq_true, Bool.not_eq_true'] at hready
        exact hready.1
      rw [h1]
      simp_all [State.fcuSafe, State.run]
  case stop =>
    obtain h1 | ⟨hrun, h1⟩ := s.stop_st
    · rwa [h1]
    · have hpath' : s.ceaseFire.rsp.path = s.rsp.path := by
        simp only [State.ceaseFire_rsp, State.dropBurst]
        split <;> rfl
      rw [h1]
      simp_all [State.fcuSafe]
  case clearTrip =>
    obtain h1 | ⟨ht, h1⟩ := s.clearTrip_st
    · rwa [h1]
    · rw [h1]
      simp_all [State.fcuSafe]
  case pathCheck =>
    obtain h1 | ⟨⟨hhalt, -⟩, _, -, h1⟩ := s.pathCheck_st b
    · rwa [h1]
    · rw [h1]
      simp_all [State.fcuSafe]
  case loadGates => obtain h1 | ⟨_, _, h1⟩ := s.loadGates_st b <;> rw [h1] <;> exact h
  case loadCorrection => obtain h1 | h1 | ⟨_, _, h1⟩ := s.loadCorrection_st b <;> rw [h1] <;> exact h
  case loadThresholds => obtain h1 | h1 | ⟨_, _, h1⟩ := s.loadThresholds_st b <;> rw [h1] <;> exact h
  case setTracking => obtain h1 | ⟨_, h1⟩ := s.setTracking_st b <;> rw [h1] <;> exact h
  case resetTracks => exact heq _ (by simp) (by simp)
  case setSky => obtain h1 | ⟨_, h1⟩ := s.setSky_st b <;> rw [h1] <;> exact h
  case setCapture => obtain h1 | ⟨_, h1⟩ := s.setCapture_st b <;> rw [h1] <;> exact h
  case injectEcho => obtain h1 | ⟨_, h1 | h1⟩ := s.injectEcho_st b <;> rw [h1] <;> exact h
  case setReporting => obtain ⟨_, h1⟩ := s.setReporting_st b; rw [h1]; exact h
  case timeMark => obtain ⟨_, h1⟩ := s.timeMark_st b; rw [h1]; exact h
  case readStatus => rwa [s.readStatus_st b]
  case readCounters => obtain ⟨_, h1⟩ := s.readCounters_st b; rw [h1]; exact h
  all_goals exact h

/-- The opening of INTERLOCK trips a RUNNING FCU and adds its cause to a trip record (R22). -/
theorem State.interlockOpens_fcuSafe (s : State) (h : s.fcuSafe) : s.interlockOpens.fcuSafe := by
  obtain ⟨halert, htrip, hlock, hidle, hpath⟩ := id h
  unfold State.interlockOpens
  split
  · dsimp only
    split
    · rename_i hrun
      refine State.tripFcu_fcuSafe _ _ _ ?_
      cases hp : s.rsp.path.running with
      | false => exact hp
      | true => simp [hpath hp] at hrun
    · simp_all [State.fcuSafe]
    · simp_all [State.fcuSafe]
  · exact h

/-- The safety of the FCU as a block invariant. -/
theorem fcuSafe_invariant : BlockInvariant State.fcuSafe where
  line _ _ h := h
  command := State.command_fcuSafe
  softReset s _ := by simp [State.fcuSafe, State.softResetEffect, State.powerOn, Fcu.reset, Rsp.reset, PathCheck.reset]
  powerOn s rate _ := by simp [State.fcuSafe, State.powerOnReset, State.powerOn, Fcu.reset, Rsp.reset, PathCheck.reset]
  opens := State.interlockOpens_fcuSafe
  closes s h := by
    obtain ⟨halert, htrip, hlock, hidle, hpath⟩ := h
    exact ⟨halert, htrip, fun _ => rfl, hidle, hpath⟩
  timeout s h := (State.calm_moveProfiles _).fcuSafe (s.timeoutExpires_calmOrTrip.fcuSafe h)
  word s w h := by
    refine State.fcuSafe_of_eq h (by simp) ?_
    simp only [State.wordArrives]
    (repeat' split) <;> simp [Rsp.store]
  parser s h := (State.calm_moveProfiles _).fcuSafe (s.parserTakes_calmOrTrip.fcuSafe h)
  truncation s h := (State.calm_moveProfiles _).fcuSafe (s.calm_truncate.fcuSafe h)
  commit s h := State.fcuSafe_of_eq h (by simp) (by simp)
  condBegins s h := by
    unfold State.beginConditioning
    split
    · exact State.fcuSafe_of_eq h (by simp) (by simp)
    · exact h
  condCompletes s h := by
    unfold State.completeConditioning
    split
    · exact State.fcuSafe_of_eq h (by simp) (by simp)
    · exact h
  detBegins s h := by
    unfold State.beginDetection
    split
    · exact State.fcuSafe_of_eq h (by simp) (by simp)
    · exact h
  detCompletes s h := by
    unfold State.completeDetection
    split
    · exact State.fcuSafe_of_eq h (by simp) (by simp)
    · exact h

/-- Settles O57, by the safety of the FCU as a block invariant; a slot time keeps it too. -/
theorem fcuStaysSafe : Obligations.FcuStaysSafe := by
  intro c s t hs he
  exact fcuSafe_invariant.exec hs (fun _ => (State.calm_moveProfiles _).fcuSafe (s.slot_fcuSafe hs)) he

end Sys2Proof.Machine
end

section
/-! FIRE is pulsed at an allowed slot time alone (R6, R10). -/

namespace Sys2Proof.Machine

theorem State.CalmOrTrip.pulses {s t : State} (h : s.CalmOrTrip t) : t.fcu.pulses = s.fcu.pulses := by
  obtain h | ⟨-, u, cause, slot, hu, ht⟩ := h
  · exact h.pulses
  · rw [ht.pulses, State.tripFcu_fcu, ← hu.pulses]

/-- No command pulses a pin. -/
theorem State.command_pulses (s : State) (b : List Byte) (c : Command) :
    (c.run s b).st.fcu.pulses = s.fcu.pulses := by
  cases c <;> simp only [Command.run, State.resetTracks, State.injectCrc, State.readTracks, State.softReset]
  case setProgram => obtain h1 | ⟨-, _, _, h1⟩ := s.setProgram_st b <;> rw [h1]; rfl
  case setFiring => obtain h1 | ⟨_, h1⟩ := s.setFiring_st b <;> rw [h1]; rfl
  case setSchedule => obtain h1 | ⟨_, h1⟩ := s.setSchedule_st b <;> rw [h1]; rfl
  case start => obtain h1 | ⟨-, h1⟩ := s.start_st <;> rw [h1]; rfl
  case stop => obtain h1 | ⟨-, h1⟩ := s.stop_st <;> rw [h1]; rfl
  case clearTrip => obtain h1 | ⟨-, h1⟩ := s.clearTrip_st <;> rw [h1]; rfl
  case loadGates => obtain h1 | ⟨_, _, h1⟩ := s.loadGates_st b <;> rw [h1]; rfl
  case loadCorrection => obtain h1 | h1 | ⟨_, _, h1⟩ := s.loadCorrection_st b <;> rw [h1] <;> rfl
  case loadThresholds => obtain h1 | h1 | ⟨_, _, h1⟩ := s.loadThresholds_st b <;> rw [h1] <;> rfl
  case setTracking => obtain h1 | ⟨_, h1⟩ := s.setTracking_st b <;> rw [h1]; rfl
  case resetTracks => simp
  case setSky => obtain h1 | ⟨_, h1⟩ := s.setSky_st b <;> rw [h1]; rfl
  case setCapture => obtain h1 | ⟨_, h1⟩ := s.setCapture_st b <;> rw [h1]; rfl
  case injectEcho => obtain h1 | ⟨_, h1 | h1⟩ := s.injectEcho_st b <;> rw [h1] <;> rfl
  case pathCheck => obtain h1 | ⟨-, _, -, h1⟩ := s.pathCheck_st b <;> rw [h1]; rfl
  case setReporting => obtain ⟨_, h1⟩ := s.setReporting_st b; rw [h1]; rfl
  case timeMark => obtain ⟨_, h1⟩ := s.timeMark_st b; rw [h1]; rfl
  case readStatus => rw [s.readStatus_st b]
  case readCounters => obtain ⟨_, h1⟩ := s.readCounters_st b; rw [h1]; rfl

/-- Outside slot times a FIRE pulse on record is the one that was there before: resets alone clear it. -/
theorem firePulse_invariant (p : Pulses) :
    BlockInvariant fun s => s.fcu.pulses.fire = true → s.fcu.pulses = p where
  line _ _ h := h
  command s b c h := by rw [s.command_pulses b c]; exact h
  softReset _ _ h := by cases h
  powerOn _ _ _ h := by cases h
  opens s h := by
    have hpulses : s.interlockOpens.fcu.pulses = s.fcu.pulses := by
      unfold State.interlockOpens
      split
      · dsimp only
        split <;> simp [State.tripFcu_fcu]
      · rfl
    rwa [hpulses]
  closes _ h := h
  timeout s h := by rw [(State.calm_moveProfiles _).pulses, s.timeoutExpires_calmOrTrip.pulses]; exact h
  word _ _ h := by simpa using h
  parser s h := by rw [(State.calm_moveProfiles _).pulses, s.parserTakes_calmOrTrip.pulses]; exact h
  truncation s h := by rw [(State.calm_moveProfiles _).pulses, s.calm_truncate.pulses]; exact h
  commit _ h := by simpa using h
  condBegins s h := by unfold State.beginConditioning; split <;> simpa using h
  condCompletes s h := by unfold State.completeConditioning; split <;> simpa using h
  detBegins s h := by unfold State.beginDetection; split <;> simpa using h
  detCompletes s h := by unfold State.completeDetection; split <;> simpa using h

/-- A slot time that pulses FIRE has found all that R5, R6 and R10 ask. -/
theorem State.slot_fires_allowed (s : State) (h : s.slot.fcu.pulses.fire = true) :
    ∃ p : Prog, (s.fcu.state = .running ∧ s.fcu.schedule[s.fcu.pointer] = .fire p
      ∧ s.progs[p].enabled = true ∧ s.fcu.shot = none ∧ s.fcu.budgetOk s.progs[p].eRef = true)
      ∧ s.slot.fcu = s.fcu.fireSlot p s.progs[p].eRef := by
  obtain ⟨hold, hf, -⟩ | ⟨p, hp, hf, -⟩ | ⟨p, -, hf, -⟩ | ⟨c, -, hf, -⟩ := s.slot_cases
  · rw [hf] at h; cases h
  · exact ⟨p, hp, hf⟩
  · rw [hf] at h; cases h
  · rw [hf] at h; cases h

/-- A slot time that does not pulse FIRE enters a charge of 0 (R4, R5, R7, R44). -/
theorem State.slot_window_of_no_fire (s : State) (h : s.slot.fcu.pulses.fire = false) :
    s.slot.fcu.window = 0 :: s.fcu.window.take 1023 := by
  obtain ⟨hold, hf, -⟩ | ⟨p, -, hf, -⟩ | ⟨p, -, hf, -⟩ | ⟨c, -, hf, -⟩ := s.slot_cases
  · rw [hf]; rfl
  · rw [hf] at h; cases h
  · rw [hf]; rfl
  · rw [hf]; rfl

/-- Settles O12: outside slot times by the pulse as a block invariant, at a slot time by its decision. -/
theorem firePulseOnlyWhenAllowed : Obligations.FirePulseOnlyWhenAllowed := by
  refine ⟨fun c s t hs he hfire => ?_, fun s => ⟨_, rfl, fun hno => ?_⟩⟩
  · by_cases hc : c = .slotTime
    · subst hc
      cases he
      rw [(State.calm_moveProfiles _).pulses] at hfire
      obtain ⟨p, ⟨hrun, hslot, hen, hshot, hok⟩, hf⟩ := s.slot_fires_allowed hfire
      have hfcu : s.slot.moveProfiles.fcu = s.fcu.fireSlot p s.progs[p].eRef := by rw [← hf]; simp
      obtain ⟨-, -, hlock, -⟩ := hs
      refine .inr ⟨rfl, hrun, hlock hrun, hshot, p, hslot, hen, ?_, ?_, ?_⟩
      · rw [hfcu]; rfl
      · rw [hfcu]; rfl
      · have hsum : (s.fcu.window.take 1023).sum + s.progs[p].eRef ≤ s.fcu.firing.budgetLimit :=
          of_decide_eq_true hok
        rw [hfcu]
        simp only [Fcu.fireSlot, Fcu.captureSlot, List.sum_cons]
        omega
    · exact .inl ⟨hc, (firePulse_invariant s.fcu.pulses).exec (fun _ => rfl) (fun h => absurd h hc) he hfire⟩
  · rw [(State.calm_moveProfiles _).pulses] at hno
    have hwindow : s.slot.moveProfiles.fcu.window = 0 :: s.fcu.window.take 1023 := by
      rw [← s.slot_window_of_no_fire hno]; simp
    refine ⟨hwindow, ?_⟩
    rw [hwindow, List.sum_cons, Nat.zero_add]
    exact (List.take_sublist 1023 s.fcu.window).sum_le_sum fun _ _ => Nat.zero_le _

end Sys2Proof.Machine
end

section
/-! The Track Table: order, ids, hits and misses, creation and merging, step by step (R112 to R127), and the
bounds that every update keeps. -/

namespace Sys2Proof.Machine

/-! ### The order of the table (R112) -/

theorem Track.le_iff (a b : Track) : a.le b = true ↔ a.base < b.base ∨ a.base = b.base ∧ a.id ≤ b.id := by
  simp [Track.le]

theorem insertTrack_perm (t : Track) (ts : List Track) : (insertTrack t ts).Perm (t :: ts) := by
  induction ts with
  | nil => exact .refl _
  | cons u r ih =>
    unfold insertTrack
    split
    · exact .refl _
    · exact (ih.cons u).trans (.swap t u r)

theorem sortTracks_perm (ts : List Track) : (sortTracks ts).Perm ts := by
  induction ts with
  | nil => exact .refl _
  | cons t r ih => exact (insertTrack_perm t _).trans (ih.cons t)

theorem insertTrack_pairwise (t : Track) {ts : List Track} (h : ts.Pairwise fun a b => a.le b = true) :
    (insertTrack t ts).Pairwise fun a b => a.le b = true := by
  induction ts with
  | nil => simp [insertTrack]
  | cons u r ih =>
    obtain ⟨hu, hr⟩ := List.pairwise_cons.mp h
    unfold insertTrack
    split
    · rename_i htu
      refine List.pairwise_cons.mpr ⟨fun x hx => ?_, h⟩
      obtain rfl | hx := List.mem_cons.mp hx
      · exact htu
      · have hux := hu x hx
        rw [Track.le_iff] at *
        omega
    · rename_i htu
      refine List.pairwise_cons.mpr ⟨fun x hx => ?_, ih hr⟩
      obtain rfl | hx := List.mem_cons.mp ((insertTrack_perm t r).mem_iff.mp hx)
      · rw [Track.le_iff] at *
        omega
      · exact hu x hx

theorem sortTracks_pairwise (ts : List Track) : (sortTracks ts).Pairwise fun a b => a.le b = true := by
  induction ts with
  | nil => exact .nil
  | cons t r ih => exact insertTrack_pairwise t ih

/-- A sorted table ascends in base (R112). -/
theorem sortTracks_ascending (ts : List Track) : (sortTracks ts).Pairwise fun a b => a.base ≤ b.base :=
  (sortTracks_pairwise ts).imp fun h => by rw [Track.le_iff] at h; omega

/-! ### Merging (R126) -/

/-- The survivor of a pair is one of the two, less its sources and its TEST flag. -/
theorem survivor_base_id (a b : Track) : (survivor a b).base = a.base ∧ (survivor a b).id = a.id
    ∨ (survivor a b).base = b.base ∧ (survivor a b).id = b.id := by
  unfold survivor
  split
  · exact .inr ⟨rfl, rfl⟩
  · exact .inl ⟨rfl, rfl⟩

/-- The merge scan leaves ids of its tracks alone, in their order. -/
theorem mergeUp_ids (dm : Nat) (a : Track) (ts : List Track) :
    ((mergeUp dm a ts).map Track.id).Sublist ((a :: ts).map Track.id) := by
  induction ts generalizing a with
  | nil => exact .refl _
  | cons b r ih =>
    unfold mergeUp
    split
    · refine (ih (survivor a b)).trans ?_
      obtain ⟨-, hid⟩ | ⟨-, hid⟩ := survivor_base_id a b
      · simp only [List.map_cons, hid]
        exact (List.sublist_cons_self _ _).cons_cons _
      · simp only [List.map_cons, hid]
        exact List.sublist_cons_self _ _
    · simp only [List.map_cons]
      exact (ih b).cons_cons _

theorem mergeUp_base_le (dm : Nat) {a : Track} {ts : List Track} {lo : Nat}
    (ha : lo ≤ a.base) (h : ∀ t ∈ ts, lo ≤ t.base) : ∀ t ∈ mergeUp dm a ts, lo ≤ t.base := by
  induction ts generalizing a with
  | nil => simpa [mergeUp] using ha
  | cons b r ih =>
    have hb := h b (by simp)
    have hr : ∀ t ∈ r, lo ≤ t.base := fun t ht => h t (by simp [ht])
    unfold mergeUp
    split
    · refine ih ?_ hr
      obtain ⟨hbase, -⟩ | ⟨hbase, -⟩ := survivor_base_id a b <;> omega
    · intro t ht
      obtain rfl | ht := List.mem_cons.mp ht
      · exact ha
      · exact ih hb hr t ht

/-- The merge scan of an ascending table gives an ascending one. -/
theorem mergeUp_ascending (dm : Nat) {a : Track} {ts : List Track}
    (h : (a :: ts).Pairwise fun x y => x.base ≤ y.base) :
    (mergeUp dm a ts).Pairwise fun x y => x.base ≤ y.base := by
  induction ts generalizing a with
  | nil => simp [mergeUp]
  | cons b r ih =>
    obtain ⟨ha, hbr⟩ := List.pairwise_cons.mp h
    obtain ⟨hb, hr⟩ := List.pairwise_cons.mp hbr
    have hab := ha b (by simp)
    unfold mergeUp
    split
    · refine ih (List.pairwise_cons.mpr ⟨fun t ht => ?_, hr⟩)
      have hat := ha t (by simp [ht])
      have hbt := hb t ht
      obtain ⟨hbase, -⟩ | ⟨hbase, -⟩ := survivor_base_id a b <;> omega
    · exact List.pairwise_cons.mpr ⟨fun t ht => mergeUp_base_le dm hab (fun x hx => ha x (by simp [hx])) t ht,
        ih hbr⟩

/-- Step 6 keeps ids of the table, and orders it. -/
theorem mergeAll_ids (dm : Nat) (ts : List Track) :
    ((mergeAll dm ts).map Track.id).Subperm (ts.map Track.id) := by
  have hperm := (sortTracks_perm ts).map Track.id
  unfold mergeAll
  split
  · exact List.nil_subperm
  · rename_i a r hsort
    rw [hsort] at hperm
    exact (mergeUp_ids dm a r).subperm.trans hperm.subperm

theorem mergeAll_ascending (dm : Nat) (ts : List Track) :
    (mergeAll dm ts).Pairwise fun a b => a.base ≤ b.base := by
  have hasc := sortTracks_ascending ts
  unfold mergeAll
  split
  · exact .nil
  · rename_i a r hsort
    exact mergeUp_ascending dm (hsort ▸ hasc)

/-! ### Ids (R114) -/

/-- The id `n` places after `next`, round from 255 to 1 (R114). -/
def idAfter (next n : Nat) : Nat := (next - 1 + n) % 255 + 1

theorem idAfter_range (next n : Nat) : 1 ≤ idAfter next n ∧ idAfter next n ≤ 255 := by
  unfold idAfter; omega

theorem idAfter_zero {next : Nat} (h : 1 ≤ next) (k : next ≤ 255) : idAfter next 0 = next := by
  unfold idAfter; omega

theorem idAfter_succ (next n : Nat) :
    (if idAfter next n = 255 then 1 else idAfter next n + 1) = idAfter next (n + 1) := by
  unfold idAfter; split <;> omega

theorem idAfter_idAfter (next m n : Nat) : idAfter (idAfter next m) n = idAfter next (m + n) := by
  unfold idAfter; omega

/-- Of more ids in a row than are held, at most 255, one is free. -/
theorem exists_free_id (used : List Nat) (next n : Nat) (h : used.length < n) (hn : n ≤ 255) :
    ∃ k, k < n ∧ idAfter next k ∉ used := by
  by_contra hall
  push Not at hall
  have hsub : ((List.range n).map (idAfter next)).Subperm used := by
    refine List.Nodup.subperm ?_ ?_
    · refine List.Nodup.map_on ?_ List.nodup_range
      intro a ha b hb hab
      simp only [List.mem_range] at ha hb
      unfold idAfter at hab
      omega
    · intro x hx
      obtain ⟨k, hk, rfl⟩ := List.mem_map.mp hx
      exact hall k (List.mem_range.mp hk)
  have := hsub.length_le
  simp at this
  omega

/-- The id allocated is the first free one (R114). -/
theorem allocId_first_free (used : List Nat) (next n : Nat) (h : 1 ≤ next) (h' : next ≤ 255)
    (hfree : ∃ k, k < n ∧ idAfter next k ∉ used) : ∃ k, (∀ m, m < k → idAfter next m ∈ used)
      ∧ idAfter next k ∉ used ∧ allocId used n next = idAfter next k := by
  induction n generalizing next with
  | zero => obtain ⟨k, hk, -⟩ := hfree; omega
  | succ n ih =>
    have h0 := idAfter_zero h h'
    unfold allocId
    split
    · rename_i hmem
      have hmem : next ∈ used := by simpa using hmem
      have h1 := idAfter_succ next 0
      rw [h0] at h1
      obtain ⟨k, hk, hkfree⟩ := hfree
      have hk0 : k ≠ 0 := fun e => hkfree (by rw [e, h0]; exact hmem)
      rw [h1]
      obtain ⟨j, hj, hjfree, hjeq⟩ := ih (idAfter next 1) (idAfter_range _ _).1 (idAfter_range _ _).2
        ⟨k - 1, by omega, by rwa [idAfter_idAfter, show 1 + (k - 1) = k by omega]⟩
      simp only [idAfter_idAfter] at hj hjfree hjeq
      refine ⟨1 + j, fun m hm => ?_, hjfree, hjeq⟩
      obtain rfl | hm0 := Nat.eq_zero_or_pos m
      · rw [h0]; exact hmem
      · have := hj (m - 1) (by omega)
        rwa [show 1 + (m - 1) = m by omega] at this
    · rename_i hmem
      exact ⟨0, by simp, by rw [h0]; simpa using hmem, h0.symm⟩

/-! ### Creation and displacement (R124, R125) -/

/-- What a table with a free place holds after a creation: the next free id, at the tail. -/
theorem Creation.create_spec (k : Creation) (q : TrackParams) (d : Detection) (c : Candidate)
    (hlen : k.tracks.length ≤ 10) (h : 1 ≤ k.nextId) (h' : k.nextId ≤ 255) :
    ∃ n, (∀ m, m < n → idAfter k.nextId m ∈ k.tracks.map Track.id)
      ∧ idAfter k.nextId n ∉ k.tracks.map Track.id
      ∧ k.create q d c = { k with
          tracks := k.tracks ++ [newTrack (idAfter k.nextId n) q d c]
          nextId := idAfter k.nextId (n + 1)
          touched := idAfter k.nextId n :: k.touched
          created := k.created + 1 } := by
  obtain ⟨n, hbefore, hfree, halloc⟩ := allocId_first_free (k.tracks.map Track.id) k.nextId 11 h h'
    (exists_free_id _ _ _ (by rw [List.length_map]; omega) (by omega))
  exact ⟨n, hbefore, hfree, by simp only [Creation.create, halloc, idAfter_succ]⟩

theorem highestOf_mem {ts : List Track} {u : Track} (h : highestOf ts = some u) : u ∈ ts := by
  induction ts generalizing u with
  | nil => simp [highestOf] at h
  | cons t r ih =>
    unfold highestOf at h
    split at h
    · simp_all
    · rename_i v hv
      split at h
      · cases h; exact List.mem_cons_of_mem _ (ih hv)
      · cases h; exact List.mem_cons_self

/-- What holds of the table while step 5 runs (R112, R114). -/
def Creation.sound (k : Creation) : Prop :=
  k.tracks.length ≤ Config.trackMax ∧ (k.tracks.map Track.id).Nodup
    ∧ (∀ t ∈ k.tracks, 1 ≤ t.id ∧ t.id ≤ 255) ∧ 1 ≤ k.nextId ∧ k.nextId ≤ 255

theorem Creation.create_sound {k : Creation} (q : TrackParams) (d : Detection) (c : Candidate) (h : k.sound)
    (hlen : k.tracks.length < Config.trackMax) : (k.create q d c).sound := by
  obtain ⟨-, hnodup, hids, hlo, hhi⟩ := h
  obtain ⟨n, -, hfree, hcreate⟩ := k.create_spec q d c (Nat.le_of_lt hlen) hlo hhi
  have hrange := idAfter_range k.nextId
  rw [hcreate]
  refine ⟨by simpa using hlen, ?_, ?_, (hrange (n + 1)).1, (hrange (n + 1)).2⟩
  · rw [List.map_append, List.nodup_append]
    refine ⟨hnodup, by simp, fun a ha b hb hab => hfree ?_⟩
    have hb' : b = idAfter k.nextId n := by simpa [newTrack] using hb
    rw [← hb', ← hab]
    exact ha
  · intro t ht
    obtain ht | ht := List.mem_append.mp ht
    · exact hids t ht
    · simp only [List.mem_singleton] at ht
      subst ht
      exact hrange n

/-- A displaced track leaves a place free. -/
theorem length_displaced_lt {ts : List Track} {u : Track} (h : u ∈ ts) :
    (ts.filter fun t => t.id ≠ u.id).length < ts.length := by
  refine List.length_filter_lt_length_iff_exists.mpr ⟨u, h, by simp⟩

theorem Creation.take_length (k : Creation) (q : TrackParams) (d : Detection) (c : Candidate)
    (h : k.tracks.length ≤ Config.trackMax) : (k.take q d c).tracks.length ≤ Config.trackMax := by
  unfold Creation.take
  split
  · simpa [Creation.create] using ‹_›
  · split
    · rename_i u hu
      have hlt := length_displaced_lt (List.mem_of_mem_filter (highestOf_mem hu))
      simp only [Creation.create, List.length_append, List.length_singleton]
      omega
    · exact h

theorem Creation.take_sound {k : Creation} (q : TrackParams) (d : Detection) (c : Candidate) (h : k.sound) :
    (k.take q d c).sound := by
  unfold Creation.take
  split
  · exact Creation.create_sound q d c h ‹_›
  · split
    · rename_i u hu
      have hlt := length_displaced_lt (List.mem_of_mem_filter (highestOf_mem hu))
      obtain ⟨hlen, hnodup, hids, hlo, hhi⟩ := h
      refine Creation.create_sound q d c ⟨by simp only []; omega, ?_, ?_, hlo, hhi⟩ (by simp only []; omega)
      · exact hnodup.sublist (List.filter_sublist.map _)
      · exact fun t ht => hids t (List.mem_of_mem_filter ht)
    · exact h

theorem foldl_take_sound (q : TrackParams) (d : Detection) (cs : List Candidate) {k : Creation} (h : k.sound) :
    (cs.foldl (fun c x => c.take q d x) k).sound := by
  induction cs generalizing k with
  | nil => exact h
  | cons c cs ih => exact ih (Creation.take_sound q d c h)

theorem foldl_take_length (q : TrackParams) (d : Detection) (cs : List Candidate) {k : Creation}
    (h : k.tracks.length ≤ Config.trackMax) :
    (cs.foldl (fun c x => c.take q d x) k).tracks.length ≤ Config.trackMax := by
  induction cs generalizing k with
  | nil => exact h
  | cons c cs ih => exact ih (Creation.take_length k q d c h)

/-! ### Hits and misses keep the ids (R120 to R123) -/

theorem Track.hitBy_id (t : Track) (q : TrackParams) (d : Detection) (c : Candidate) :
    ((t.hitBy q d c).afterHit q).id = t.id := by
  unfold Track.afterHit
  split
  · split <;> rfl
  · rfl

theorem hitAll_ids (q : TrackParams) (d : Detection) (pairs : List (Nat × Candidate)) (ts : List Track) :
    (hitAll q d pairs ts).map Track.id = ts.map Track.id := by
  simp only [hitAll, List.map_map]
  refine List.map_congr_left fun t _ => ?_
  simp only [Function.comp]
  split
  · exact Track.hitBy_id ..
  · rfl

theorem Track.afterMiss_id {t u : Track} (q : TrackParams) (h : (t.missed q).afterMiss q = some u) :
    u.id = t.id := by
  unfold Track.afterMiss at h
  split at h
  · split at h <;> cases h; rfl
  · split at h <;> cases h; rfl

theorem missAll_ids (q : TrackParams) (d : Detection) (pairs : List (Nat × Candidate)) (ts : List Track) :
    ((missAll q d pairs ts).map Track.id).Sublist (ts.map Track.id) := by
  induction ts with
  | nil => exact .refl _
  | cons t r ih =>
    unfold missAll at *
    rw [List.filterMap_cons]
    split
    · exact ih.cons _
    · rename_i u hu
      have hid : u.id = t.id := by
        split at hu
        · exact Track.afterMiss_id q hu
        · cases hu; rfl
      simpa [hid] using ih

/-! ### The update keeps the table (R112, R114, R117) -/

theorem mem_of_ids_subset {ts us : List Track} (h : (us.map Track.id) ⊆ ts.map Track.id)
    (hids : ∀ t ∈ ts, 1 ≤ t.id ∧ t.id ≤ 255) : ∀ u ∈ us, 1 ≤ u.id ∧ u.id ≤ 255 := by
  intro u hu
  obtain ⟨t, ht, hid⟩ := List.mem_map.mp (h (List.mem_map_of_mem hu))
  exact hid ▸ hids t ht

/-- The table as step 5 leaves it. -/
def Ltu.created (k : Ltu) (d : Detection) : Creation :=
  let a := associate k.params.assocWin (k.tracks.filter d.observes) d.cands
  a.2.foldl (fun c x => c.take k.params d x)
    ⟨missAll k.params d a.1 (hitAll k.params d a.1 k.tracks), k.nextId, a.1.map Prod.fst, 0, 0, 0⟩

theorem Ltu.update_ltu (k : Ltu) (d : Detection) : (k.update d).ltu = { k with
    tracks := (mergeAll k.params.mergeDist (k.created d).tracks).map Track.older
    nextId := (k.created d).nextId } := rfl

theorem map_older_ids (ts : List Track) : (ts.map Track.older).map Track.id = ts.map Track.id := by
  simp only [List.map_map]; rfl

theorem missAll_hitAll_ids (q : TrackParams) (d : Detection) (pairs : List (Nat × Candidate)) (ts : List Track) :
    ((missAll q d pairs (hitAll q d pairs ts)).map Track.id).Sublist (ts.map Track.id) := by
  have h := missAll_ids q d pairs (hitAll q d pairs ts)
  rwa [hitAll_ids] at h

theorem Ltu.update_length (k : Ltu) (d : Detection) (h : k.tracks.length ≤ Config.trackMax) :
    (k.update d).ltu.tracks.length ≤ Config.trackMax := by
  have hstart := fun pairs => (missAll_hitAll_ids k.params d pairs k.tracks).length_le
  simp only [List.length_map] at hstart
  have hcreated : (k.created d).tracks.length ≤ Config.trackMax :=
    foldl_take_length _ _ _ (le_trans (hstart _) h)
  have hmerge := (mergeAll_ids k.params.mergeDist (k.created d).tracks).length_le
  simp only [List.length_map] at hmerge
  rw [Ltu.update_ltu]
  simp only [List.length_map]
  omega

/-- A tracking update keeps the table sound (R112, R114). -/
theorem Ltu.update_sound (k : Ltu) (d : Detection) (h : k.sound) : (k.update d).ltu.sound := by
  obtain ⟨hlen, hnodup, hids, hlo, hhi, -⟩ := h
  have hstart := fun pairs => missAll_hitAll_ids k.params d pairs k.tracks
  have hcreated : (k.created d).sound := by
    refine foldl_take_sound _ _ _ ⟨?_, hnodup.sublist (hstart _), ?_, hlo, hhi⟩
    · have := (hstart (associate k.params.assocWin (k.tracks.filter d.observes) d.cands).1).length_le
      simp only [List.length_map] at this
      exact le_trans this hlen
    · exact mem_of_ids_subset (hstart _).subset hids
  obtain ⟨-, hcn, hci, hclo, hchi⟩ := hcreated
  have hmerge := mergeAll_ids k.params.mergeDist (k.created d).tracks
  refine ⟨k.update_length d hlen, ?_, ?_, hclo, hchi, ?_⟩
  · rw [Ltu.update_ltu, map_older_ids]
    obtain ⟨l, hperm, hsub⟩ := hmerge
    exact hperm.nodup_iff.mp (hcn.sublist hsub)
  · refine mem_of_ids_subset (ts := (k.created d).tracks) ?_ hci
    rw [Ltu.update_ltu, map_older_ids]
    exact hmerge.subset
  · rw [Ltu.update_ltu]
    exact List.pairwise_map.mpr (mergeAll_ascending _ _)

end Sys2Proof.Machine
end

section
/-! What the events of the receiver and the slot times can do to the profile path: banks that are not waiting
are opened, added to, abandoned or closed, and each closed one joins the tail of the Conditioning Queue (R56,
R58, R60 to R65, R67). -/

namespace Sys2Proof.Machine

/-! ### Banks outside the Conditioning Queue -/

/-- Whether a bank stands in the Conditioning Queue, CLOSED or CONDITIONING (R67). -/
def Bank.queued (k : Bank) : Prop := k.state = .closed ∨ k.state = .conditioning

theorem Bank.not_queued_of_accumulating {k : Bank} (h : k.state = .accumulating) : ¬ k.queued := by
  simp [Bank.queued, h]

theorem Bank.not_queued_of_free {k : Bank} (h : k.state = .free) : ¬ k.queued := by
  simp [Bank.queued, h]

theorem Gau.setBank_get (g : Gau) (b c : Fin 6) (k : Bank) :
    (g.setBank b k).banks[c] = if c = b then k else g.banks[c] := by
  simp only [Gau.setBank, Fin.getElem_fin, Vector.getElem_set, Fin.val_inj, eq_comm]

theorem Gau.accBank_state {g : Gau} {p : Prog} {b : Fin 6} (h : g.accBank p = some b) :
    g.banks[b].state = .accumulating ∧ g.banks[b].prog = p := by
  simpa using List.find?_some h

theorem Gau.freeBank_state {g : Gau} {b : Fin 6} (h : g.freeBank = some b) : g.banks[b].state = .free := by
  simpa using List.find?_some h

theorem Gau.ownBank_state {g : Gau} {t : Fin 32} {b : Fin 6} (h : g.ownBank t = some b) :
    g.banks[b].state = .accumulating ∧ g.banks[b].ownShot = some t := by
  simpa using List.find?_some h

/-! ### Gathering: banks closed into the queue, no other change of the profile path -/

/-- `t` follows from `s` by the work of the GAU and the clearing of injections: the banks `bs` close into the
tail of the Conditioning Queue, those that wait stay as they are, and the tables, the other stores of the PCU,
the LDU and the LTU stay. -/
structure State.Closes (bs : List (Fin 6)) (s t : State) : Prop where
  gateMap : t.gau.gateMap = s.gau.gateMap
  pcu : ∃ v, t.pcu = { s.pcu with pendingInj := v }
  ldu : t.ldu = s.ldu
  ltu : t.ltu = s.ltu
  queue : t.gau.queue = s.gau.queue ++ bs
  nodup : bs.Nodup
  closed : ∀ b ∈ bs, ¬ s.gau.banks[b].queued ∧ t.gau.banks[b].state = .closed
  kept : ∀ b : Fin 6, s.gau.banks[b].queued → t.gau.banks[b] = s.gau.banks[b]
  unqueued : ∀ b : Fin 6, b ∉ bs → ¬ s.gau.banks[b].queued → ¬ t.gau.banks[b].queued

/-- `t` follows from `s` by the work of the GAU, whichever banks close. -/
def State.Gathers (s t : State) : Prop := ∃ bs, State.Closes bs s t

theorem State.Closes.gathers {bs : List (Fin 6)} {s t : State} (h : State.Closes bs s t) : s.Gathers t := ⟨bs, h⟩

theorem State.closes_of_eq {s t : State} (hg : t.gau = s.gau) (hp : t.pcu = s.pcu) (hd : t.ldu = s.ldu)
    (hl : t.ltu = s.ltu) : State.Closes [] s t :=
  ⟨by rw [hg], ⟨s.pcu.pendingInj, hp⟩, hd, hl, by simp [hg], .nil, by simp, fun _ _ => by rw [hg],
    fun _ _ h => by rwa [hg]⟩

theorem State.gathers_of_eq {s t : State} (hg : t.gau = s.gau) (hp : t.pcu = s.pcu) (hd : t.ldu = s.ldu)
    (hl : t.ltu = s.ltu) : s.Gathers t := (State.closes_of_eq hg hp hd hl).gathers

theorem State.Gathers.refl (s : State) : s.Gathers s := State.gathers_of_eq rfl rfl rfl rfl

theorem State.Closes.trans {bs cs : List (Fin 6)} {s u t : State} (h : State.Closes bs s u)
    (k : State.Closes cs u t) : State.Closes (bs ++ cs) s t := by
  have hqueued : ∀ b ∈ bs, u.gau.banks[b].queued := fun b hb => .inl (h.closed b hb).2
  have hdisjoint : ∀ b ∈ bs, b ∉ cs := fun b hb hc => (k.closed b hc).1 (hqueued b hb)
  have hopen : ∀ b : Fin 6, ¬ u.gau.banks[b].queued → ¬ s.gau.banks[b].queued := fun b hu hs =>
    hu (by rwa [h.kept b hs])
  obtain ⟨v, hv⟩ := h.pcu
  obtain ⟨w, hw⟩ := k.pcu
  refine ⟨k.gateMap.trans h.gateMap, ⟨w, by rw [hw, hv]⟩, k.ldu.trans h.ldu, k.ltu.trans h.ltu,
    by rw [k.queue, h.queue, List.append_assoc], List.Nodup.append h.nodup k.nodup hdisjoint, ?_, ?_, ?_⟩
  · intro b hb
    obtain hb | hb := List.mem_append.1 hb
    · exact ⟨(h.closed b hb).1, by rw [k.kept b (hqueued b hb)]; exact (h.closed b hb).2⟩
    · exact ⟨hopen b (k.closed b hb).1, (k.closed b hb).2⟩
  · intro b hb
    rw [k.kept b (by rwa [h.kept b hb]), h.kept b hb]
  · intro b hb hs
    rw [List.mem_append, not_or] at hb
    exact k.unqueued b hb.2 (h.unqueued b hb.1 hs)

theorem State.Gathers.trans {s u t : State} (h : s.Gathers u) (k : u.Gathers t) : s.Gathers t := by
  obtain ⟨bs, h⟩ := h
  obtain ⟨cs, k⟩ := k
  exact (h.trans k).gathers

/-- What follows a gathering, the operation behind it named first. -/
theorem State.Gathers.after {s u t : State} (k : u.Gathers t) (h : s.Gathers u) : s.Gathers t := h.trans k

theorem State.Gathers.bump {s t : State} (h : s.Gathers t) (c : Ctr) : s.Gathers (t.bump c) :=
  h.trans (State.gathers_of_eq rfl rfl rfl rfl)

theorem State.Gathers.raise {s t : State} (h : s.Gathers t) (k : NoticeKind) : s.Gathers (t.raise k) :=
  h.trans (State.gathers_of_eq (by simp) (by simp) (by simp) (by simp))

theorem State.Gathers.withFcu {s t : State} (h : s.Gathers t) (f : Fcu) : s.Gathers (t.withFcu f) :=
  h.trans (State.gathers_of_eq rfl rfl rfl rfl)

theorem State.Gathers.withRsp {s t : State} (h : s.Gathers t) (r : Rsp) : s.Gathers (t.withRsp r) :=
  h.trans (State.gathers_of_eq rfl rfl rfl rfl)

/-! ### The operations of the GAU -/

theorem State.closes_withStaging (s : State) (v : Staging) : State.Closes [] s (s.withStaging v) :=
  ⟨rfl, ⟨s.pcu.pendingInj, rfl⟩, rfl, rfl, by simp, .nil, by simp, fun _ _ => rfl, fun _ _ h => h⟩

/-- A bank that does not wait is written, and does not wait afterwards. -/
theorem State.closes_setBank (s : State) {b : Fin 6} {k : Bank} (h : ¬ s.gau.banks[b].queued) (hk : ¬ k.queued) :
    State.Closes [] s (s.withGau (s.gau.setBank b k)) := by
  refine ⟨rfl, ⟨s.pcu.pendingInj, rfl⟩, rfl, rfl, by simp [Gau.setBank], .nil, by simp, ?_, ?_⟩
  · intro c hc
    rw [State.withGau_gau, Gau.setBank_get, if_neg]
    rintro rfl
    exact h hc
  · intro c _ hc
    rw [State.withGau_gau, Gau.setBank_get]
    split
    · exact hk
    · exact hc

theorem State.gathers_setBank (s : State) {b : Fin 6} {k : Bank} (h : ¬ s.gau.banks[b].queued) (hk : ¬ k.queued) :
    s.Gathers (s.withGau (s.gau.setBank b k)) := (s.closes_setBank h hk).gathers

theorem State.gathers_openBank (s : State) (p : Prog) {b : Fin 6} (h : s.gau.banks[b].state = .free) :
    s.Gathers (s.openBank p b) := by
  have hset := s.closes_setBank (Bank.not_queued_of_free h)
    (Bank.not_queued_of_accumulating (k := Bank.opened p s.progs[p] s.gau.nextSeq[p] s.slc.time) rfl)
  exact ⟨[], hset.gateMap, hset.pcu, hset.ldu, hset.ltu, hset.queue, hset.nodup, hset.closed, hset.kept,
    hset.unqueued⟩

theorem State.gathers_starve (s : State) (p : Prog) : s.Gathers (s.starve p) := by
  have hflag : ∀ u : State, u.Gathers (u.withGau { u.gau with starved := u.gau.starved.set p true }) := fun u =>
    ⟨[], rfl, ⟨u.pcu.pendingInj, rfl⟩, rfl, rfl, by simp, .nil, by simp, fun _ _ => rfl, fun _ _ h => h⟩
  unfold State.starve
  split
  · exact (State.Gathers.refl s).bump _
  · exact (((hflag _).after ((State.Gathers.refl s).bump _)).bump _).raise _

/-- The bank granted at a FIRE slot is ACCUMULATING (R58). -/
theorem State.bankRequest_state {s s1 : State} {p : Prog} {b : Fin 6} (h : s.bankRequest p = (s1, some b)) :
    s1.gau.banks[b].state = .accumulating := by
  unfold State.bankRequest at h
  split at h
  · cases h
    exact (Gau.accBank_state ‹_›).1
  · split at h
    · cases h
      have hget := Gau.setBank_get s.gau b b (Bank.opened p s.progs[p] s.gau.nextSeq[p] s.slc.time)
      rw [if_pos rfl] at hget
      exact congrArg Bank.state hget
    · cases h

theorem State.gathers_bankRequest (s : State) (p : Prog) : s.Gathers (s.bankRequest p).1 := by
  unfold State.bankRequest
  split
  · exact .refl s
  · split
    · exact s.gathers_openBank p (Gau.freeBank_state ‹_›)
    · exact s.gathers_starve p

theorem State.closes_closeBank (s : State) {b : Fin 6} (h : ¬ s.gau.banks[b].queued) :
    State.Closes [b] s (s.closeBank b) := by
  refine ⟨rfl, ⟨s.pcu.pendingInj, rfl⟩, rfl, rfl, rfl, List.nodup_singleton b, ?_, ?_, ?_⟩
  · intro c hc
    obtain rfl := List.mem_singleton.1 hc
    refine ⟨h, ?_⟩
    simp only [State.closeBank, State.bump_gau, State.withGau_gau, Gau.setBank_get, ↓reduceIte]
  · intro c hc
    simp only [State.closeBank, State.bump_gau, State.withGau_gau, Gau.setBank_get]
    rw [if_neg]
    rintro rfl
    exact h hc
  · intro c hcb hc
    simp only [State.closeBank, State.bump_gau, State.withGau_gau, Gau.setBank_get]
    rwa [if_neg (by simpa using hcb)]

theorem State.gathers_closeIfDone (s : State) {b : Fin 6} (h : s.gau.banks[b].state = .accumulating) :
    s.Gathers (s.closeIfDone b) := by
  unfold State.closeIfDone
  dsimp only
  split
  · exact (s.closes_closeBank (Bank.not_queued_of_accumulating h)).gathers
  · exact .refl s

/-- A record written into an ACCUMULATING bank that stays ACCUMULATING, and the bank closed if it is done. -/
theorem State.gathers_setBank_closeIfDone (s : State) {b : Fin 6} {k : Bank}
    (h : s.gau.banks[b].state = .accumulating) (hk : k.state = .accumulating) :
    s.Gathers ((s.withGau (s.gau.setBank b k)).closeIfDone b) := by
  refine (State.gathers_closeIfDone _ ?_).after
    (s.gathers_setBank (Bank.not_queued_of_accumulating h) (Bank.not_queued_of_accumulating hk))
  rwa [State.withGau_gau, Gau.setBank_get, if_pos rfl]

theorem State.gathers_countSlot (s : State) {b : Fin 6} (t : Option (Fin 32))
    (h : s.gau.banks[b].state = .accumulating) : s.Gathers (s.countSlot b t) := by
  unfold State.countSlot
  dsimp only
  split
  · split
    · exact s.gathers_setBank (Bank.not_queued_of_accumulating h) (Bank.not_queued_of_accumulating h)
    · exact s.gathers_setBank_closeIfDone h h
  · refine State.Gathers.bump (s.gathers_setBank ?_ ?_) _ <;> exact Bank.not_queued_of_accumulating h

theorem State.gathers_openStaging (s : State) (r : OpenReq) : s.Gathers (s.openStaging r) := by
  unfold State.openStaging
  split <;> exact (s.closes_withStaging _).gathers

theorem State.gathers_discardStaging (s : State) : s.Gathers s.discardStaging := (s.closes_withStaging _).gathers

theorem State.gathers_binSample (s : State) (k c : Nat) (q : Bool) : s.Gathers (s.binSample k c q) := by
  unfold State.binSample
  split
  · exact (s.closes_withStaging _).gathers
  · exact .refl s

theorem State.gathers_commitFire (s : State) (t : Fin 32) : s.Gathers (s.commitFire t) := by
  unfold State.commitFire
  split
  · have hacc := (Gau.ownBank_state ‹_›).1
    exact (State.closes_withStaging _ _).gathers.after
      (s.gathers_setBank (Bank.not_queued_of_accumulating hacc) (Bank.not_queued_of_accumulating hacc))
  · exact s.gathers_discardStaging

theorem State.gathers_commitDark (s : State) (p : Prog) : s.Gathers (s.commitDark p) := by
  unfold State.commitDark
  split
  · exact s.gathers_discardStaging.bump _
  · have hacc := (Gau.accBank_state ‹_›).1
    split
    · exact s.gathers_discardStaging.bump _
    · split
      · refine State.Gathers.bump ((State.closes_withStaging _ _).gathers.after (s.gathers_setBank ?_ ?_)) _
          <;> exact Bank.not_queued_of_accumulating hacc
      · exact s.gathers_discardStaging

theorem State.gathers_settleOwn (s : State) (t : Fin 32) : s.Gathers (s.settleOwn t) := by
  unfold State.settleOwn
  split
  · exact .refl s
  · have hacc := (Gau.ownBank_state ‹_›).1
    exact s.gathers_setBank_closeIfDone hacc hacc

theorem State.closes_ceaseFire (s : State) : State.Closes [] s s.ceaseFire := by
  refine ⟨by simp, ⟨_, s.ceaseFire_pcu⟩, by simp, by simp, by simp, .nil, by simp, ?_, ?_⟩
  · intro b hb
    rw [State.ceaseFire_gau]
    simp only [Fin.getElem_fin, Vector.getElem_map]
    exact if_neg fun hacc => Bank.not_queued_of_accumulating hacc hb
  · intro b _ hb
    rw [State.ceaseFire_gau]
    simp only [Fin.getElem_fin, Vector.getElem_map]
    split
    · exact Bank.not_queued_of_free rfl
    · exact hb

theorem State.closes_tripFcu (s : State) (cause : TripCause) (t : Fin 32) :
    State.Closes [] s (s.tripFcu cause t) := by
  have hrest : State.Closes [] s.ceaseFire (s.tripFcu cause t) :=
    State.closes_of_eq (by simp [State.tripFcu]) (by simp [State.tripFcu]) (by simp) (by simp)
  exact s.closes_ceaseFire.trans hrest

theorem State.gathers_tripFcu (s : State) (cause : TripCause) (t : Fin 32) : s.Gathers (s.tripFcu cause t) :=
  (s.closes_tripFcu cause t).gathers

/-! ### The receiver's operations -/

theorem State.gathers_feedServo (s : State) (p : Prog) (e : Nat) : s.Gathers (s.feedServo p e) :=
  State.gathers_of_eq (by simp) (by simp) (by simp) (by simp)

theorem State.gathers_judge (s : State) (sh : Shot) (e : Nat) : s.Gathers (s.judge sh e) := by
  have hmatch : s.Gathers (s.matchShot sh) := State.gathers_of_eq rfl rfl rfl rfl
  unfold State.judge
  split
  · unfold State.judgeFire
    dsimp only
    split
    · have hfed := ((State.gathers_feedServo _ sh.prog e).after
        ((hmatch.withFcu { (s.matchShot sh).fcu with
          shot := some { sh with headerTaken := true, weak := true }
          weakRun := (s.matchShot sh).fcu.weakRun + 1 }).bump Ctr.weakShots)).bump
        (energyBin e (s.matchShot sh).progs[sh.prog].eRef)
      unfold State.judgeWeak
      dsimp only
      split
      · exact (State.gathers_tripFcu _ _ _).after hfed
      · exact hfed
    · split
      · exact ((State.gathers_feedServo _ _ _).after (hmatch.withFcu _)).bump _
      · exact (State.gathers_tripFcu _ _ _).after (hmatch.bump _)
  · unfold State.judgeDark
    split
    · exact (State.gathers_tripFcu _ _ _).after hmatch
    · exact hmatch

theorem State.gathers_settleShot (s : State) (sh : Shot) (f : Fate) : s.Gathers (s.settleShot sh f) := by
  unfold State.settleShot
  dsimp only
  split
  · refine (State.gathers_settleOwn _ _).after ?_
    split
    · exact (State.Gathers.refl s).withFcu _
    · exact (State.gathers_discardStaging _).after ((State.Gathers.refl s).withFcu _)
  · exact (State.Gathers.refl s).withFcu _

theorem State.gathers_loseShot (s : State) (sh : Shot) : s.Gathers (s.loseShot sh) := by
  have hlost := ((s.gathers_settleShot sh .lost).bump Ctr.lostCaptures).withFcu
    { ((s.settleShot sh .lost).bump Ctr.lostCaptures).fcu with
      lostRun := ((s.settleShot sh .lost).bump Ctr.lostCaptures).fcu.lostRun + 1 }
  unfold State.loseShot
  dsimp only
  split
  · exact (State.gathers_tripFcu _ _ _).after hlost
  · exact hlost

theorem State.gathers_rejectCapture (s : State) (path : Bool) : s.Gathers (s.rejectCapture path) := by
  unfold State.rejectCapture
  dsimp only
  split
  · exact s.gathers_discardStaging.withRsp _
  · split
    · exact (State.gathers_settleShot _ _ _).after s.gathers_discardStaging
    · exact s.gathers_discardStaging

theorem State.gathers_rejectBurst (s : State) (b : Burst) : s.Gathers (s.rejectBurst b) :=
  (State.gathers_rejectCapture _ _).after ((State.Gathers.refl s).withRsp _)

theorem State.gathers_completeBurst (s : State) (b : Burst) : s.Gathers (s.completeBurst b) := by
  have hparser : s.Gathers (s.parserTo .trail) := (State.Gathers.refl s).withRsp _
  unfold State.completeBurst
  dsimp only
  split
  · exact (hparser.bump _).withRsp _
  · split
    · exact hparser
    · split
      · split
        · exact (State.gathers_settleShot _ _ _).after hparser
        · exact (State.gathers_settleShot _ _ _).after ((State.gathers_commitFire _ _).after (hparser.bump _))
      · exact (State.gathers_settleShot _ _ _).after ((State.gathers_commitDark _ _).after (hparser.bump _))

theorem State.gathers_failHeader (s : State) : s.Gathers s.failHeader :=
  State.gathers_of_eq (by simp) (by simp) (by simp) (by simp)

/-- A header that fails is counted and discarded, and its capture rejected (R35, R36). -/
theorem State.gathers_failed (s : State) (c : Ctr) (path : Bool) :
    s.Gathers (((s.bump c).failHeader).rejectCapture path) :=
  (State.gathers_rejectCapture _ _).after ((State.gathers_failHeader _).after ((State.Gathers.refl s).bump _))

theorem State.gathers_pathHeader (s : State) (c : PathCapture) (m w : Word) : s.Gathers (s.pathHeader c m w) := by
  unfold State.pathHeader
  split
  · exact s.gathers_failed _ _
  · dsimp only
    split
    · exact (State.gathers_failed _ _ _).after ((State.Gathers.refl s).withRsp _)
    · exact ((State.Gathers.refl s).withRsp _).withRsp _

theorem State.gathers_shotHeader (s : State) (sh : Shot) (m r w : Word) : s.Gathers (s.shotHeader sh m r w) := by
  have hjudge := s.gathers_judge sh (readingOf r)
  unfold State.shotHeader
  split
  · exact s.gathers_failed _ _
  · dsimp only
    split
    · exact (State.gathers_failHeader _).after (hjudge.bump _)
    · split
      · exact (State.gathers_failed _ _ _).after hjudge
      · exact (State.gathers_openStaging _ _).after (hjudge.withRsp _)

theorem State.gathers_takeHeader (s : State) (m r w : Word) : s.Gathers (s.takeHeader m r w) := by
  have hstray : s.Gathers ((s.bump Ctr.strayBursts).failHeader) :=
    (State.gathers_failHeader _).after ((State.Gathers.refl s).bump _)
  unfold State.takeHeader
  split <;> split
  · exact s.gathers_pathHeader _ m w
  · exact hstray
  · exact s.gathers_shotHeader _ m r w
  · exact hstray

theorem State.gathers_passSample (s : State) (k : Nat) (w : Word) : s.Gathers (s.passSample k w) := by
  refine (State.gathers_binSample _ _ _ _).after ?_
  split <;> split
  · exact ((State.Gathers.refl s).bump _).bump _
  · exact (State.Gathers.refl s).bump _
  · exact (State.Gathers.refl s).bump _
  · exact .refl s

theorem State.gathers_takeSample (s : State) (b : Burst) (w : Word) : s.Gathers (s.takeSample b w) := by
  have hsample : s.Gathers (if b.path then s.compareWord b w else s.passSample b.next w) := by
    split
    · exact State.gathers_of_eq (by simp) (by simp) (by simp) (by simp)
    · exact s.gathers_passSample b.next w
  unfold State.takeSample
  dsimp only
  split
  · exact (State.gathers_completeBurst _ _).after hsample
  · exact hsample.withRsp _

theorem State.gathers_takeMark (s : State) (w : Word) : s.Gathers (s.takeMark w) := by
  unfold State.takeMark
  refine State.Gathers.withRsp ?_ _
  split
  · exact .refl s
  · exact .refl s
  · exact State.gathers_of_eq rfl rfl rfl rfl
  · exact ((State.gathers_rejectBurst _ _).after ((State.Gathers.refl s).bump _)).raise _

theorem State.gathers_takeOther (s : State) (w : Word) : s.Gathers (s.takeOther w) := by
  unfold State.takeOther
  split
  · exact (State.Gathers.refl s).bump _
  · exact (State.Gathers.refl s).withRsp _
  · exact s.gathers_takeHeader _ _ w
  · exact s.gathers_takeSample _ w
  · exact (State.Gathers.refl s).bump _

theorem State.gathers_reachSlips (s : State) : s.Gathers s.reachSlips := by
  unfold State.reachSlips
  split
  · rename_i rest _
    have htaken : s.Gathers (s.withRsp { s.rsp with buffer := rest.dropWhile fun x => !x.isWord }) :=
      (State.Gathers.refl s).withRsp _
    unfold State.reachSlip
    split
    · exact (State.gathers_rejectBurst _ _).after (htaken.bump _)
    · exact htaken.trans (State.gathers_of_eq rfl rfl rfl rfl)
    · exact htaken.withRsp _
    · exact htaken.withRsp _
  · exact .refl s

theorem State.gathers_parserTakes (s : State) : s.Gathers s.parserTakes := by
  unfold State.parserTakes
  split
  · exact .refl s
  · exact s.gathers_reachSlips
  · split
    · exact .refl s
    · refine (State.gathers_reachSlips _).after ?_
      dsimp only
      split
      · exact (State.gathers_takeMark _ _).after ((State.Gathers.refl s).withRsp _)
      · exact (State.gathers_takeOther _ _).after ((State.Gathers.refl s).withRsp _)

theorem State.gathers_truncate (s : State) : s.Gathers s.truncate := by
  unfold State.truncate
  split
  · exact ((State.gathers_rejectBurst _ _).after ((State.Gathers.refl s).bump _)).raise _
  · exact .refl s

theorem State.gathers_timeoutExpires (s : State) : s.Gathers s.timeoutExpires := by
  unfold State.timeoutExpires
  split
  · exact .refl s
  · dsimp only
    split
    · exact (((State.Gathers.refl s).withFcu _).bump _).withRsp _
    · split
      · exact (State.gathers_loseShot _ _).after ((State.Gathers.refl s).withFcu _)
      · exact (State.Gathers.refl s).withFcu _

theorem State.closes_commitEnds (s : State) : State.Closes [] s s.commitEnds := by
  unfold State.commitEnds
  split
  · exact s.closes_withStaging _
  · exact s.closes_withStaging _
  · exact State.closes_of_eq rfl rfl rfl rfl

/-! ### Slot times -/

theorem State.gathers_fireSlot (s : State) (p : Prog) {b : Fin 6} (h : s.gau.banks[b].state = .accumulating) :
    s.Gathers (s.fireSlot p b) := by
  unfold State.fireSlot
  split
  · exact ((State.gathers_countSlot (s.bump Ctr.withheldBusy) none h).after ((State.Gathers.refl s).bump _)).withFcu _
  · split
    · exact ((State.gathers_countSlot (s.fireShot p) _ (by simpa using h)).after
        (State.gathers_of_eq (by simp) (by simp) (by simp) (by simp))).withFcu _
    · exact ((State.gathers_countSlot s.holdBudget none (by simpa using h)).after
        (State.gathers_of_eq (by simp) (by simp) (by simp) (by simp))).withFcu _

theorem State.gathers_slotRunning (s : State) : s.Gathers s.slotRunning := by
  have hskip : s.Gathers (s.enterCharge 0) := (State.Gathers.refl s).withFcu _
  unfold State.slotRunning
  split
  · exact hskip
  · split
    · split
      · exact ((State.Gathers.refl s).bump _).withFcu _
      · exact State.gathers_of_eq (by simp) (by simp) (by simp) (by simp)
    · exact hskip
  · rename_i p _
    have hrequest := s.gathers_bankRequest p
    split
    · split <;> rename_i s1 b heq <;> rw [heq] at hrequest
      · exact (State.gathers_fireSlot s1 p (State.bankRequest_state heq)).after hrequest
      · exact hrequest.withFcu _
    · exact hskip

theorem State.gathers_slot (s : State) : s.Gathers s.slot := by
  have hbegun := (State.Gathers.refl s).withFcu s.fcu.slotBegun
  unfold State.slot
  dsimp only
  split
  · exact (State.gathers_slotRunning _).after hbegun
  · exact (State.gathers_of_eq (by simp) (by simp) (by simp) (by simp)).after hbegun

/-- The opening of INTERLOCK closes no bank (R22). -/
theorem State.closes_interlockOpens (s : State) : State.Closes [] s s.interlockOpens := by
  unfold State.interlockOpens
  split
  · dsimp only
    split
    · have hopen : State.Closes [] s (s.withFcu { s.fcu with interlockClosed := false }) :=
        State.closes_of_eq rfl rfl rfl rfl
      exact hopen.trans (State.closes_tripFcu _ _ _)
    · exact State.closes_of_eq (by simp) (by simp) (by simp) (by simp)
    · exact State.closes_of_eq rfl rfl rfl rfl
  · exact State.closes_of_eq rfl rfl rfl rfl

end Sys2Proof.Machine
end

section
/-! The profile path (R56, R67, R71 to R73, R92, R93): what each begin and completion leaves in the PCU and
the LDU, the agreement of queue, banks and buffers, and the end of every chain of begins. -/

namespace Sys2Proof.Machine

/-! ### Reading what can begin -/

theorem Pcu.setBuf_get (p : Pcu) (k j : Fin 2) (b : ResultBuf) :
    (p.setBuf k b).bufs[j] = if j = k then b else p.bufs[j] := by
  simp only [Pcu.setBuf, Fin.getElem_fin, Vector.getElem_set, Fin.val_inj, eq_comm]

theorem Pcu.freeBuf_state {p : Pcu} {k : Fin 2} (h : p.freeBuf = some k) : p.bufs[k].state = .free := by
  simpa using List.find?_some h

/-- A conditioning can begin exactly when R71 says so. -/
theorem State.condReady_eq_some {s : State} {b : Fin 6} {k : Fin 2} :
    s.condReady = some (b, k) ↔ s.pcu.job = none ∧ s.gau.queue.head? = some b ∧ s.pcu.freeBuf = some k
      ∧ s.gau.banks[b].state = .closed := by
  cases hj : s.pcu.job with
  | some j => simp [State.condReady, hj]
  | none =>
    cases hq : s.gau.queue with
    | nil => simp [State.condReady, hj, hq]
    | cons c cs =>
      cases hf : s.pcu.freeBuf with
      | none => simp [State.condReady, hj, hq, hf]
      | some i =>
        by_cases hc : s.gau.banks[c].state = .closed
        · simp only [State.condReady, hj, hq, hf, if_pos hc]
          simp only [Option.some.injEq, Prod.mk.injEq, true_and, List.head?_cons]
          exact ⟨fun ⟨hcb, hik⟩ => ⟨hcb, hik, hcb ▸ hc⟩, fun ⟨hcb, hik, _⟩ => ⟨hcb, hik⟩⟩
        · simp only [State.condReady, hj, hq, hf, if_neg hc, List.head?_cons, Option.some.injEq, reduceCtorEq,
            false_iff]
          rintro ⟨-, rfl, -, h⟩
          exact hc h

/-- A detection can begin exactly when R92 says so. -/
theorem State.detReady_eq_some {s : State} {k : Fin 2} :
    s.detReady = some k ↔ s.ldu.job = none ∧ s.pcu.readyOrder.head? = some k := by
  unfold State.detReady
  split <;> simp_all

theorem State.condReady_none_of_job {s : State} (h : s.pcu.job.isSome = true) : s.condReady = none := by
  unfold State.condReady
  split <;> simp_all

theorem State.detReady_none_of_job {s : State} (h : s.ldu.job.isSome = true) : s.detReady = none := by
  unfold State.detReady
  split <;> simp_all

theorem State.pathStep_eq_none {s : State} : s.pathStep = none ↔ s.condReady = none ∧ s.detReady = none := by
  unfold State.pathStep
  split <;> simp_all

theorem State.pathLoop_of_none (n : Nat) {s : State} (h : s.pathStep = none) : State.pathLoop n s = s := by
  cases n <;> simp [State.pathLoop, h]

/-- Where nothing can begin, the profile path moves on by counting a wait at most (R90). -/
theorem State.moveProfiles_of_nothing {s : State} (hc : s.condReady = none) (hd : s.detReady = none) :
    s.moveProfiles = s.countWait := by
  rw [State.moveProfiles, State.pathLoop_of_none _ (State.pathStep_eq_none.2 ⟨hc, hd⟩)]

/-- A settled profile path does not move. -/
theorem State.settled.moveProfiles {s : State} (h : s.settled) : s.moveProfiles = s :=
  (State.moveProfiles_of_nothing h.1 h.2.1).trans h.2.2

/-! ### What the begins and completions leave (R71 to R73, R75, R92, R93) -/

@[simp] theorem State.freeHead_gau (s : State) (b : Fin 6) :
    (s.freeHead b).gau = { s.gau.setBank b Bank.freed with queue := s.gau.queue.drop 1 } := rfl

@[simp] theorem State.passVoid_gau (s : State) (b : Fin 6) (k : Fin 2) : (s.passVoid b k).gau
    = { s.gau.setBank b Bank.freed with queue := s.gau.queue.drop 1 } := rfl

@[simp] theorem State.passVoid_pcu (s : State) (b : Fin 6) (k : Fin 2) : (s.passVoid b k).pcu
    = s.pcu.makeReady k (s.beginRecord s.gau.banks[b]) := rfl

/-- A void bank passes at its begin (R75). -/
theorem State.condBegin_of_void (s : State) {b : Fin 6} (k : Fin 2)
    (h : s.gau.banks[b].outcome.getD .void = .void) : s.condBegin b k = s.passVoid b k := if_pos h

/-- A bank that is not void becomes CONDITIONING (R71). -/
theorem State.condBegin_of_not_void (s : State) {b : Fin 6} (k : Fin 2)
    (h : s.gau.banks[b].outcome.getD .void ≠ .void) : s.condBegin b k
      = (s.withGau (s.gau.setBank b { s.gau.banks[b] with state := .conditioning })).withPcu
        { s.pcu.setBuf k ⟨.filling, some (s.beginRecord s.gau.banks[b])⟩ with
          job := some (s.fixInputs b k)
          pendingInj := s.pcu.pendingInj.set s.gau.banks[b].prog none } := if_neg h

theorem Pcu.keepBackground_eq (p : Pcu) (k : Bank) (bg : List Nat) :
    ∃ v, p.keepBackground k bg = { p with held := v } := by
  unfold Pcu.keepBackground
  split
  · exact ⟨_, rfl⟩
  · exact ⟨p.held, rfl⟩

/-- The record of the conditioning in progress as its begin filled it (R71). -/
def State.jobRecord (s : State) (j : PcuJob) : ResultRec :=
  (s.pcu.bufs[j.buf].record).getD (s.beginRecord s.gau.banks[j.bank])

/-- The arithmetic of the conditioning in progress (R76 to R85). -/
def State.jobArith (s : State) (j : PcuJob) : Arith := arith s.gau.banks[j.bank] (s.jobRecord j).shape j

/-- The record of the conditioning in progress as its completion leaves it (R72, R74). -/
def State.jobResult (s : State) (j : PcuJob) : ResultRec :=
  { s.jobRecord j with
    test := j.inj.isSome
    clamped := decide (1 ≤ (s.jobArith j).clamps)
    cond := some (s.jobArith j).cond }

theorem State.condFinish_eq (s : State) (j : PcuJob) : s.condFinish j
    = ((s.withPcu { (s.pcu.makeReady j.buf (s.jobResult j)).keepBackground s.gau.banks[j.bank] (s.jobArith j).bg with
      job := none }).countArith (s.jobArith j) j.inj.isSome).freeHead j.bank := rfl

/-- A completed conditioning frees its bank and makes its buffer READY (R72). -/
theorem State.condFinish_path (s : State) (j : PcuJob) :
    (s.condFinish j).gau = { s.gau.setBank j.bank Bank.freed with queue := s.gau.queue.drop 1 }
      ∧ ∃ v, (s.condFinish j).pcu = { s.pcu.makeReady j.buf (s.jobResult j) with job := none, held := v } := by
  obtain ⟨v, hv⟩ := (s.pcu.makeReady j.buf (s.jobResult j)).keepBackground_eq s.gau.banks[j.bank] (s.jobArith j).bg
  rw [State.condFinish_eq, hv]
  exact ⟨by simp, v, by simp⟩

/-- A frame decision touches in the LDU the frame counts alone (R106). -/
theorem State.frameStep_path (s : State) (r : ResultRec) (c : Conditioned) (o : Bool) :
    (s.frameStep r c o).pcu = s.pcu ∧ ∃ v, (s.frameStep r c o).ldu = { s.ldu with frameCount := v } := by
  unfold State.frameStep
  split
  dsimp only
  split
  · split <;> exact ⟨by simp, _, by simp; rfl⟩
  · exact ⟨rfl, _, rfl⟩

theorem State.releaseBuf_path (s : State) (k : Fin 2) (r : ResultRec) (f : Found) :
    (s.releaseBuf k r f).pcu = s.pcu.setBuf k ResultBuf.freed
      ∧ (s.releaseBuf k r f).ldu
        = { s.ldu with job := none, last := some ⟨r.prog, r.seq, f.cands, f.obscured, f.vv⟩ } := ⟨rfl, rfl⟩

/-- "No observation" frees the buffer and leaves the LDU IDLE with nothing found (R93, R105). -/
theorem State.finishUnobserved_path (s : State) (k : Fin 2) (r : ResultRec) :
    (s.finishUnobserved k r).pcu = s.pcu.setBuf k ResultBuf.freed
      ∧ ∃ v, (s.finishUnobserved k r).ldu
        = { s.ldu with job := none, last := some ⟨r.prog, r.seq, [], false, none⟩, frameCount := v } := by
  unfold State.finishUnobserved
  dsimp only [State.bump_pcu, State.bump_ldu]
  rw [(State.releaseBuf_path _ _ _ _).1, (State.releaseBuf_path _ _ _ _).2]
  split
  · rename_i c _
    obtain ⟨hp, v, hv⟩ := (s.bump Ctr.noObsDetectionOff).frameStep_path r c false
    exact ⟨by rw [hp]; rfl, v, by rw [hv]; rfl⟩
  · exact ⟨rfl, _, rfl⟩

/-- A detection that scanned frees its buffer, keeps what it found and updates the Track Table (R93, R117). -/
theorem State.finishDetected_path (s : State) (k : Fin 2) (r : ResultRec) (c : Conditioned) (on : List Nat) :
    (s.finishDetected k r c on).pcu = s.pcu.setBuf k ResultBuf.freed
      ∧ (∃ v, (s.finishDetected k r c on).ldu = { s.ldu with
          job := none
          last := some ⟨r.prog, r.seq, (findings r (examined r c on) (scanFrom (examined r c on))).1.cands,
            (findings r (examined r c on) (scanFrom (examined r c on))).1.obscured,
            (findings r (examined r c on) (scanFrom (examined r c on))).1.vv⟩
          frameCount := v })
      ∧ (s.finishDetected k r c on).ltu = (s.ltu.update (detectionOf r
          (findings r (examined r c on) (scanFrom (examined r c on))).1)).ltu := by
  unfold State.finishDetected
  dsimp only
  obtain ⟨hp, v, hv⟩ := (s.countScan (scanFrom (examined r c on))
    (findings r (examined r c on) (scanFrom (examined r c on))).1
    (findings r (examined r c on) (scanFrom (examined r c on))).2).frameStep_path r c
    (findings r (examined r c on) (scanFrom (examined r c on))).1.overflow
  refine ⟨by simp [State.releaseBuf_path], ⟨v, by simp [State.releaseBuf_path, hv]⟩, by simp [State.track]⟩

/-- What a completed detection leaves in the PCU, the LDU and the LTU (R93, R104, R105, R117): its buffer is
FREE and its LDU IDLE; the LTU is updated only where threshold entries were taken. -/
theorem State.detFinish_path (s : State) (j : LduJob) :
    (s.pcu.bufs[j.buf].record = none ∧ s.detFinish j = s.withLdu { s.ldu with job := none })
    ∨ (s.detFinish j).pcu = s.pcu.setBuf j.buf ResultBuf.freed
      ∧ ∃ d v, (s.detFinish j).ldu = { s.ldu with job := none, last := some d, frameCount := v }
        ∧ (d.cands = [] ∧ (s.detFinish j).ltu = s.ltu ∨ j.on.isSome = true
          ∧ (∃ gs, d.cands = [] ∨ d.cands = (scanFrom gs).cands)
          ∧ ∃ x, (s.detFinish j).ltu = (s.ltu.update x).ltu) := by
  unfold State.detFinish
  split
  · exact .inl ⟨‹_›, rfl⟩
  · rename_i r _
    refine .inr ?_
    split
    · rename_i on c hon _
      obtain ⟨hp, ⟨v, hv⟩, hl⟩ := s.finishDetected_path j.buf r c on
      refine ⟨hp, _, v, hv, .inr ⟨by simp [hon], ⟨examined r c on, ?_⟩, _, hl⟩⟩
      unfold findings
      split
      · split <;> exact .inl rfl
      · exact .inr rfl
    · obtain ⟨hp, v, hv⟩ := s.finishUnobserved_path j.buf r
      exact ⟨hp, _, v, hv, .inl ⟨rfl, by simp⟩⟩

/-- The state in which a detection that has just begun stands (R92). -/
def State.detTaken (s : State) (k : Fin 2) (on : Option (List Nat)) : State :=
  (s.withPcu { s.pcu.setBuf k { s.pcu.bufs[k] with state := .detecting } with
    readyOrder := s.pcu.readyOrder.drop 1 }).withLdu { s.ldu with job := some ⟨k, on⟩, last := none }

/-- The on thresholds that the detection of buffer `k` takes (R92, R96). -/
def State.bufThresholds (s : State) (k : Fin 2) : Option (List Nat) :=
  match s.pcu.bufs[k].record with | some r => s.takeThresholds r | none => none

theorem State.detBegin_eq (s : State) (k : Fin 2) : s.detBegin k
    = if (s.bufThresholds k).isSome then s.detTaken k (s.bufThresholds k)
      else (s.detTaken k (s.bufThresholds k)).detFinish ⟨k, s.bufThresholds k⟩ := rfl

/-- A detection that has begun is in progress, or it has completed without threshold entries (R92, R93). -/
theorem State.detBegin_cases (s : State) (k : Fin 2) :
    (∃ on, s.detBegin k = s.detTaken k (some on)) ∨ s.detBegin k = (s.detTaken k none).detFinish ⟨k, none⟩ := by
  rw [State.detBegin_eq]
  cases s.bufThresholds k with
  | some on => exact .inl ⟨on, rfl⟩
  | none => exact .inr rfl

/-! ### Queue, banks and buffers agree -/

/-- What `State.pathSound` looks at. -/
theorem State.pathSound_of_eq {s t : State} (h : s.pathSound) (hq : t.gau.queue = s.gau.queue)
    (hb : ∀ b : Fin 6, t.gau.banks[b].state = s.gau.banks[b].state) (hj : t.pcu.job = s.pcu.job)
    (hr : t.pcu.readyOrder = s.pcu.readyOrder) (hf : t.pcu.bufs = s.pcu.bufs) (hd : t.ldu.job = s.ldu.job) :
    t.pathSound := by
  simp only [State.pathSound] at h ⊢
  simp only [hq, hb, hj, hr, hf, hd]
  exact h

theorem State.Gathers.pathSound {s t : State} (h : s.Gathers t) (hs : s.pathSound) : t.pathSound := by
  obtain ⟨bs, h⟩ := h
  obtain ⟨hnodup, hqueued, hcond, hhead, hready, horder, hfilling, hdetecting, hfree⟩ := hs
  obtain ⟨v, hpcu⟩ := h.pcu
  have hstays : ∀ b : Fin 6, b ∈ s.gau.queue → t.gau.banks[b] = s.gau.banks[b] := fun b hb =>
    h.kept b ((hqueued b).1 hb)
  have hnew : ∀ b ∈ bs, b ∉ s.gau.queue := fun b hb hq => (h.closed b hb).1 ((hqueued b).1 hq)
  refine ⟨?_, ?_, ?_, ?_, ?_⟩
  · rw [h.queue]
    exact List.Nodup.append hnodup h.nodup fun b hq hb => hnew b hb hq
  · intro b
    rw [h.queue, List.mem_append]
    constructor
    · rintro (hq | hb)
      · rw [hstays b hq]
        exact (hqueued b).1 hq
      · exact .inl (h.closed b hb).2
    · intro ht
      by_contra hnot
      rw [not_or] at hnot
      exact h.unqueued b hnot.2 (fun hq => hnot.1 ((hqueued b).2 hq)) ht
  · intro b
    rw [hpcu, ← hcond b]
    by_cases hq : b ∈ s.gau.queue
    · rw [hstays b hq]
    · have hs : s.gau.banks[b].state ≠ .conditioning := fun hc => hq ((hqueued b).2 (.inr hc))
      have ht : t.gau.banks[b].state ≠ .conditioning := by
        by_cases hb : b ∈ bs
        · rw [(h.closed b hb).2]
          decide
        · exact fun hc => h.unqueued b hb (fun hq' => hq ((hqueued b).2 hq')) (.inr hc)
      exact ⟨fun hc => absurd hc ht, fun hc => absurd hc hs⟩
  · intro j hj
    rw [hpcu] at hj
    rw [h.queue, List.head?_append, hhead j hj]
    rfl
  · rw [hpcu, h.ldu]
    exact ⟨hready, horder, hfilling, hdetecting, hfree⟩

/-- The head of the queue is freed while no other bank is being conditioned, and a buffer that was FREE or
FILLING for it becomes READY (R67, R72, R75). -/
theorem State.pathSound_of_head_ready {s t : State} {b : Fin 6} {k : Fin 2} {r : ResultRec} (hs : s.pathSound)
    (hq : s.gau.queue.head? = some b)
    (hjob : ∀ j, s.pcu.job = some j → j.bank = b ∧ j.buf = k)
    (hk : s.pcu.bufs[k].state = .free ∨ s.pcu.bufs[k].state = .filling)
    (hg : t.gau = { s.gau.setBank b Bank.freed with queue := s.gau.queue.drop 1 })
    (hj : t.pcu.job = none) (hb : t.pcu.bufs = (s.pcu.setBuf k ⟨.ready, some r⟩).bufs)
    (ho : t.pcu.readyOrder = s.pcu.readyOrder ++ [k]) (hd : t.ldu.job = s.ldu.job) : t.pathSound := by
  obtain ⟨hnodup, hqueued, hcond, hhead, hready, horder, hfilling, hdetecting, hfree⟩ := hs
  obtain ⟨q, hqueue⟩ : ∃ q, s.gau.queue = b :: q := by
    cases hc : s.gau.queue with
    | nil => simp [hc] at hq
    | cons c q => simp_all
  have hbq : b ∉ q ∧ q.Nodup := by simpa [hqueue] using hnodup
  have hbanks : ∀ c : Fin 6, t.gau.banks[c] = if c = b then Bank.freed else s.gau.banks[c] := fun c => by
    rw [hg]; exact Gau.setBank_get s.gau b c Bank.freed
  have hbufs : ∀ j : Fin 2, t.pcu.bufs[j] = if j = k then ⟨.ready, some r⟩ else s.pcu.bufs[j] := fun j => by
    rw [← Pcu.setBuf_get]; simp only [hb]
  have hkorder : k ∉ s.pcu.readyOrder := fun h => by
    have := (horder k).1 h
    simp_all
  refine ⟨by simpa [hg, hqueue] using hbq.2, ?_, ?_, by simp [hj], ?_, ?_, ?_, ?_, ?_⟩
  · intro c
    have hc := hqueued c
    rw [hbanks, hg]
    rw [hqueue] at hc ⊢
    by_cases hcb : c = b
    · subst hcb
      simp [Bank.freed, hbq.1]
    · rw [if_neg hcb, ← hc]
      simp [hcb]
  · intro c
    rw [hbanks, hj]
    by_cases hcb : c = b
    · simp [hcb, Bank.freed]
    · rw [if_neg hcb, hcond c]
      simp only [reduceCtorEq, false_and, exists_false, iff_false, not_exists, not_and]
      rintro j hjs rfl
      exact hcb (hjob j hjs).1
  · rw [ho]
    exact List.Nodup.append hready (List.nodup_singleton k) (by simpa using hkorder)
  · intro j
    rw [ho, hbufs, List.mem_append, List.mem_singleton, horder j]
    by_cases hjk : j = k <;> simp [hjk]
  · intro i
    rw [hbufs, hj]
    by_cases hik : i = k
    · simp [hik]
    · rw [if_neg hik, hfilling i]
      simp only [reduceCtorEq, false_and, exists_false, iff_false, not_exists, not_and]
      rintro j hjs rfl
      exact hik (hjob j hjs).2
  · intro i
    rw [hbufs, hd]
    by_cases hik : i = k
    · subst hik
      rw [if_pos rfl, ← hdetecting i]
      obtain hk | hk := hk <;> rw [hk] <;> simp
    · rw [if_neg hik, hdetecting i]
  · intro i
    rw [hbufs]
    by_cases hik : i = k
    · simp [hik]
    · rw [if_neg hik, hfree i]

theorem State.condBegin_pathSound {s : State} {b : Fin 6} {k : Fin 2} (hs : s.pathSound)
    (h : s.condReady = some (b, k)) : (s.condBegin b k).pathSound := by
  obtain ⟨hjob, hhead, hfreeBuf, hclosed⟩ := State.condReady_eq_some.1 h
  have hk := Pcu.freeBuf_state hfreeBuf
  by_cases hvoid : s.gau.banks[b].outcome.getD .void = .void
  · rw [State.condBegin_of_void s k hvoid]
    exact State.pathSound_of_head_ready hs hhead (by simp [hjob]) (.inl hk) rfl hjob rfl rfl (by simp)
  · rw [State.condBegin_of_not_void s k hvoid]
    obtain ⟨hnodup, hqueued, hcond, -, hready, horder, hfilling, hdetecting, hfree⟩ := hs
    have hbanks : ∀ c : Fin 6, (s.gau.setBank b { s.gau.banks[b] with state := .conditioning }).banks[c].state
        = if c = b then .conditioning else s.gau.banks[c].state := fun c => by
      rw [Gau.setBank_get]
      split <;> rfl
    have hbufs := fun i : Fin 2 => Pcu.setBuf_get s.pcu k i ⟨.filling, some (s.beginRecord s.gau.banks[b])⟩
    simp only [hjob, reduceCtorEq, false_and, exists_false, iff_false] at hcond hfilling
    refine ⟨hnodup, fun c => ?_, fun c => ?_, ?_, hready, fun i => ?_, fun i => ?_, fun i => ?_, fun i => ?_⟩
    · simp only [State.withPcu_gau, State.withGau_gau, hbanks]
      by_cases hcb : c = b
      · subst hcb
        exact iff_of_true ((hqueued c).2 (.inl hclosed)) (.inr (if_pos rfl))
      · rw [if_neg hcb]
        exact hqueued c
    · simp only [State.withPcu_gau, State.withGau_gau, State.withPcu_pcu, hbanks, Option.some.injEq,
        exists_eq_left']
      by_cases hcb : c = b
      · rw [if_pos hcb]
        exact iff_of_true rfl hcb.symm
      · rw [if_neg hcb]
        exact iff_of_false (hcond c) (Ne.symm hcb)
    · intro j hj
      simp only [State.withPcu_pcu, Option.some.injEq] at hj
      subst hj
      exact hhead
    all_goals simp only [State.withPcu_pcu, State.withPcu_ldu, State.withGau_ldu, hbufs]
    · by_cases hik : i = k
      · rw [if_pos hik]
        refine iff_of_false (fun hm => ?_) (by simp)
        have hrdy := (horder i).1 hm
        rw [hik, hk] at hrdy
        cases hrdy
      · rw [if_neg hik]
        exact horder i
    · by_cases hik : i = k
      · rw [if_pos hik]
        exact iff_of_true rfl ⟨_, rfl, hik.symm⟩
      · rw [if_neg hik]
        refine iff_of_false (hfilling i) ?_
        rintro ⟨j, hj, rfl⟩
        cases hj
        exact hik rfl
    · rw [← hdetecting i]
      by_cases hik : i = k
      · rw [if_pos hik, hik, hk]
        simp
      · rw [if_neg hik]
    · by_cases hik : i = k
      · simp [hik]
      · rw [if_neg hik]
        exact hfree i

theorem State.condFinish_pathSound {s : State} {j : PcuJob} (hs : s.pathSound) (h : s.pcu.job = some j) :
    (s.condFinish j).pathSound := by
  obtain ⟨hg, v, hp⟩ := s.condFinish_path j
  have hhead := hs.2.2.2.1 j h
  have hfilling : s.pcu.bufs[j.buf].state = .filling := (hs.2.2.2.2.2.2.1 j.buf).2 ⟨j, h, rfl⟩
  refine State.pathSound_of_head_ready (r := s.jobResult j) hs hhead ?_ (.inr hfilling) hg (by rw [hp]) ?_ ?_ (by simp)
  · rintro i hi
    rw [h] at hi
    cases hi
    exact ⟨rfl, rfl⟩
  · rw [hp]; rfl
  · rw [hp]; rfl

/-- The detection in progress ends, and its buffer is FREE (R93). -/
theorem State.pathSound_of_released {s t : State} {j : LduJob} (hs : s.pathSound) (h : s.ldu.job = some j)
    (hg : t.gau = s.gau) (hp : t.pcu = s.pcu.setBuf j.buf ResultBuf.freed) (hd : t.ldu.job = none) :
    t.pathSound := by
  obtain ⟨hnodup, hqueued, hcond, hhead, hready, horder, hfilling, hdetecting, hfree⟩ := hs
  have hbuf : s.pcu.bufs[j.buf].state = .detecting := (hdetecting j.buf).2 ⟨j, h, rfl⟩
  have hbufs : ∀ i : Fin 2, t.pcu.bufs[i] = if i = j.buf then ResultBuf.freed else s.pcu.bufs[i] := fun i => by
    rw [hp]; exact Pcu.setBuf_get s.pcu j.buf i _
  have hjob : t.pcu.job = s.pcu.job := by rw [hp]; rfl
  have hrdy : t.pcu.readyOrder = s.pcu.readyOrder := by rw [hp]; rfl
  refine ⟨by rwa [hg], by rwa [hg], by rwa [hg, hjob], by rwa [hg, hjob], by rwa [hrdy], fun i => ?_, fun i => ?_,
    fun i => ?_, fun i => ?_⟩ <;> rw [hbufs]
  · rw [hrdy, horder i]
    by_cases hi : i = j.buf
    · rw [if_pos hi, hi, hbuf]
      simp [ResultBuf.freed]
    · rw [if_neg hi]
  · rw [hjob, ← hfilling i]
    by_cases hi : i = j.buf
    · rw [if_pos hi, hi, hbuf]
      simp [ResultBuf.freed]
    · rw [if_neg hi]
  · rw [hd]
    by_cases hi : i = j.buf
    · simp [hi, ResultBuf.freed]
    · rw [if_neg hi, hdetecting i, h]
      simp [eq_comm, hi]
  · by_cases hi : i = j.buf
    · simp [hi, ResultBuf.freed]
    · rw [if_neg hi]
      exact hfree i

theorem State.detFinish_pathSound {s : State} {j : LduJob} (hs : s.pathSound) (h : s.ldu.job = some j) :
    (s.detFinish j).pathSound := by
  have hbuf := (hs.2.2.2.2.2.2.2.1 j.buf).2 ⟨j, h, rfl⟩
  obtain ⟨hnone, -⟩ | ⟨hp, d, v, hd, -⟩ := s.detFinish_path j
  · rw [← hs.2.2.2.2.2.2.2.2 j.buf, hbuf] at hnone
    cases hnone
  · exact State.pathSound_of_released hs h (by simp) hp (by rw [hd])

theorem State.detTaken_pathSound {s : State} {k : Fin 2} (on : Option (List Nat)) (hs : s.pathSound)
    (h : s.detReady = some k) : (s.detTaken k on).pathSound := by
  obtain ⟨hidle, hhead⟩ := State.detReady_eq_some.1 h
  obtain ⟨hnodup, hqueued, hcond, hqhead, hready, horder, hfilling, hdetecting, hfree⟩ := hs
  obtain ⟨o, hord⟩ : ∃ o, s.pcu.readyOrder = k :: o := by
    cases hc : s.pcu.readyOrder with
    | nil => simp [hc] at hhead
    | cons c o => simp_all
  have hk : s.pcu.bufs[k].state = .ready := (horder k).1 (by simp [hord])
  have hko : k ∉ o ∧ o.Nodup := by simpa [hord] using hready
  have hbufs := fun i : Fin 2 => Pcu.setBuf_get s.pcu k i { s.pcu.bufs[k] with state := .detecting }
  refine ⟨hnodup, hqueued, hcond, hqhead, ?_, fun i => ?_, fun i => ?_, fun i => ?_, fun i => ?_⟩
  all_goals simp only [State.detTaken, State.withLdu_pcu, State.withPcu_pcu, State.withLdu_ldu, hbufs, hord,
    List.drop_succ_cons, List.drop_zero]
  · exact hko.2
  · by_cases hi : i = k
    · subst hi
      simp [hko.1]
    · rw [if_neg hi, ← horder i, hord]
      simp [hi]
  · rw [Pcu.setBuf, ← hfilling i]
    by_cases hi : i = k
    · rw [if_pos hi, hi, hk]
      simp
    · rw [if_neg hi]
  · by_cases hi : i = k
    · simp [hi]
    · rw [if_neg hi, hdetecting i, hidle]
      simp [Ne.symm hi]
  · by_cases hi : i = k
    · subst hi
      have := hfree i
      simp_all
    · rw [if_neg hi]
      exact hfree i

theorem State.detBegin_pathSound {s : State} {k : Fin 2} (hs : s.pathSound) (h : s.detReady = some k) :
    (s.detBegin k).pathSound := by
  obtain ⟨on, heq⟩ | heq := s.detBegin_cases k <;> rw [heq]
  · exact State.detTaken_pathSound _ hs h
  · exact State.detFinish_pathSound (State.detTaken_pathSound none hs h) rfl

/-- A counted wait marks one bank and changes no bank's state (R90). -/
theorem State.countWait_eq (s : State) : s.countWait = s
    ∨ ∃ b, s.gau.queue.head? = some b ∧ s.gau.banks[b].state = .closed ∧ s.countWait
      = (s.withGau (s.gau.setBank b { s.gau.banks[b] with waitCounted := true })).bump Ctr.conditioningWaits := by
  unfold State.countWait
  split
  · exact .inl rfl
  · rename_i b q hq
    dsimp only
    split
    · exact .inr ⟨b, by simp [hq], (‹_ ∧ _ ∧ _› : _).1, rfl⟩
    · exact .inl rfl

theorem State.countWait_queue (s : State) : s.countWait.gau.queue = s.gau.queue := by
  obtain h | ⟨b, -, -, h⟩ := s.countWait_eq <;> rw [h]
  rfl

theorem State.countWait_bank_state (s : State) (c : Fin 6) :
    s.countWait.gau.banks[c].state = s.gau.banks[c].state := by
  obtain h | ⟨b, -, -, h⟩ := s.countWait_eq <;> rw [h]
  rw [State.bump_gau, State.withGau_gau, Gau.setBank_get]
  split
  · rename_i hcb
    rw [hcb]
  · rfl

theorem State.countWait_pathSound {s : State} (hs : s.pathSound) : s.countWait.pathSound :=
  State.pathSound_of_eq hs s.countWait_queue s.countWait_bank_state (by simp) (by simp) (by simp) (by simp)

end Sys2Proof.Machine
end

section
/-! The profile path settles (R71, R92): every chain of begins ends, each one shortening what is left to move.
The tables and the Track Table through every event. -/

namespace Sys2Proof.Machine

/-! ### The chain of begins ends -/

/-- What is left to move in the profile path: each waiting bank may begin and become READY, each READY buffer
may begin, and an idle PCU may take a bank. -/
def State.pathLeft (s : State) : Nat :=
  2 * s.gau.queue.length + s.pcu.readyOrder.length + (if s.pcu.job = none then 1 else 0)

theorem State.condBegin_pathLeft {s : State} {b : Fin 6} {k : Fin 2} (h : s.condReady = some (b, k)) :
    (s.condBegin b k).pathLeft < s.pathLeft := by
  obtain ⟨hjob, hhead, -, -⟩ := State.condReady_eq_some.1 h
  have hlen : 1 ≤ s.gau.queue.length := by
    cases hq : s.gau.queue <;> simp_all
  by_cases hvoid : s.gau.banks[b].outcome.getD .void = .void
  · rw [State.condBegin_of_void s k hvoid]
    simp [State.pathLeft, Pcu.makeReady, Pcu.setBuf, hjob]
    omega
  · rw [State.condBegin_of_not_void s k hvoid]
    simp [State.pathLeft, Gau.setBank, Pcu.setBuf, hjob]

/-- A begun detection leaves the queue and the PCU's job alone and takes one READY buffer (R92). -/
theorem State.detBegin_takes (s : State) (k : Fin 2) : (s.detBegin k).pcu.job = s.pcu.job
    ∧ (s.detBegin k).pcu.readyOrder = s.pcu.readyOrder.drop 1 := by
  have htaken : ∀ on, (s.detTaken k on).pcu.job = s.pcu.job
      ∧ (s.detTaken k on).pcu.readyOrder = s.pcu.readyOrder.drop 1 := fun _ => ⟨rfl, rfl⟩
  obtain ⟨on, h⟩ | h := s.detBegin_cases k <;> rw [h]
  · exact htaken _
  · obtain ⟨-, h1⟩ | ⟨h1, -⟩ := (s.detTaken k none).detFinish_path ⟨k, none⟩ <;> rw [h1]
    · exact htaken none
    · exact htaken none

theorem State.detBegin_pathLeft {s : State} {k : Fin 2} (h : s.detReady = some k) :
    (s.detBegin k).pathLeft < s.pathLeft := by
  obtain ⟨-, hhead⟩ := State.detReady_eq_some.1 h
  have hlen : 1 ≤ s.pcu.readyOrder.length := by
    cases hq : s.pcu.readyOrder <;> simp_all
  obtain ⟨hjob, hord⟩ := s.detBegin_takes k
  simp only [State.pathLeft, State.detBegin_frame, hjob, hord, List.length_drop]
  omega

theorem State.pathStep_spec {s t : State} (hs : s.pathSound) (h : s.pathStep = some t) :
    t.pathSound ∧ t.pathLeft < s.pathLeft := by
  unfold State.pathStep at h
  split at h
  · cases h
    exact ⟨State.condBegin_pathSound hs ‹_›, State.condBegin_pathLeft ‹_›⟩
  · obtain ⟨k, hk, rfl⟩ := Option.map_eq_some_iff.1 h
    exact ⟨State.detBegin_pathSound hs hk, State.detBegin_pathLeft hk⟩

theorem State.pathLoop_settles (n : Nat) {s : State} (hs : s.pathSound) (hn : s.pathLeft ≤ n) :
    (State.pathLoop n s).pathSound ∧ (State.pathLoop n s).pathStep = none := by
  induction n generalizing s with
  | zero =>
    refine ⟨hs, ?_⟩
    cases h : s.pathStep with
    | none => exact h
    | some t =>
      have := (State.pathStep_spec hs h).2
      omega
  | succ n ih =>
    unfold State.pathLoop
    split
    · have hstep := State.pathStep_spec hs ‹_›
      exact ih hstep.1 (by omega)
    · exact ⟨hs, ‹_›⟩

/-- Six banks and two buffers allow at most 15 begins (log entry 24). -/
theorem State.pathSound.pathLeft_le {s : State} (hs : s.pathSound) : s.pathLeft ≤ 15 := by
  obtain ⟨hnodup, -, -, -, hready, -⟩ := hs
  have hq := hnodup.length_le_card
  have hr := hready.length_le_card
  rw [Fintype.card_fin] at hq hr
  unfold State.pathLeft
  split <;> omega

/-! ### The wait at the head of the queue (R90) -/

/-- The wait of the bank at the head of the queue is still to be counted. -/
def State.waits (s : State) (b : Fin 6) : Prop :=
  s.gau.queue.head? = some b ∧ s.gau.banks[b].state = .closed ∧ s.pcu.freeBuf = none
    ∧ s.gau.banks[b].waitCounted = false

theorem State.countWait_of_waits {s : State} {b : Fin 6} (h : s.waits b) : s.countWait
    = (s.withGau (s.gau.setBank b { s.gau.banks[b] with waitCounted := true })).bump Ctr.conditioningWaits := by
  obtain ⟨hhead, hrest⟩ := h
  unfold State.countWait
  split
  · simp_all
  · rename_i c q hq
    rw [hq, List.head?_cons, Option.some.injEq] at hhead
    subst hhead
    exact if_pos hrest

theorem State.countWait_of_not_waits {s : State} (h : ∀ b, ¬ s.waits b) : s.countWait = s := by
  unfold State.countWait
  split
  · rfl
  · rename_i c q hq
    exact if_neg fun hrest => h c ⟨by simp [hq], hrest⟩

theorem State.waitSettled_iff {s : State} : s.waitSettled ↔ ∀ b, ¬ s.waits b := by
  refine ⟨fun h b hb => ?_, State.countWait_of_not_waits⟩
  have hbank := congrArg (fun t : State => (t.gau.banks[b]).waitCounted) h.symm
  rw [hb.2.2.2, State.countWait_of_waits hb, State.bump_gau, State.withGau_gau, Gau.setBank_get, if_pos rfl] at hbank
  cases hbank

theorem State.countWait_waitSettled (s : State) : s.countWait.waitSettled := by
  by_cases h : ∃ b, s.waits b
  · obtain ⟨b, hb⟩ := h
    rw [State.waitSettled_iff]
    rintro c ⟨hhead, -, -, hwait⟩
    rw [State.countWait_queue, hb.1, Option.some.injEq] at hhead
    rw [State.countWait_of_waits hb, State.bump_gau, State.withGau_gau, Gau.setBank_get, if_pos hhead.symm] at hwait
    cases hwait
  · have heq := State.countWait_of_not_waits (fun b hb => h ⟨b, hb⟩)
    rw [heq]
    exact heq

/-- What the begins and the wait look at. -/
theorem State.nothing_of_eq {s t : State} (hc : s.condReady = none) (hq : t.gau.queue = s.gau.queue)
    (hb : ∀ b, s.gau.queue.head? = some b → t.gau.banks[b].state = s.gau.banks[b].state)
    (hj : t.pcu.job = s.pcu.job) (hf : t.pcu.bufs = s.pcu.bufs) : t.condReady = none := by
  by_contra hne
  obtain ⟨⟨b, k⟩, h⟩ := Option.ne_none_iff_exists'.1 hne
  obtain ⟨hjob, hhead, hfree, hclosed⟩ := State.condReady_eq_some.1 h
  rw [hq] at hhead
  have hready : s.condReady = some (b, k) := State.condReady_eq_some.2
    ⟨hj ▸ hjob, hhead, by rwa [Pcu.freeBuf, hf] at hfree, hb b hhead ▸ hclosed⟩
  rw [hc] at hready
  cases hready

theorem State.detReady_of_eq {s t : State} (hr : t.pcu.readyOrder = s.pcu.readyOrder) (hd : t.ldu.job = s.ldu.job) :
    t.detReady = s.detReady := by
  unfold State.detReady
  rw [hr, hd]

theorem State.settled_of_eq {s t : State} (h : s.settled) (hq : t.gau.queue = s.gau.queue)
    (hb : ∀ b, s.gau.queue.head? = some b → t.gau.banks[b] = s.gau.banks[b])
    (hj : t.pcu.job = s.pcu.job) (hr : t.pcu.readyOrder = s.pcu.readyOrder) (hf : t.pcu.bufs = s.pcu.bufs)
    (hd : t.ldu.job = s.ldu.job) : t.settled := by
  obtain ⟨hcond, hdet, hwait⟩ := h
  refine ⟨State.nothing_of_eq hcond hq (fun b hh => by rw [hb b hh]) hj hf,
    (State.detReady_of_eq hr hd).trans hdet, ?_⟩
  rw [State.waitSettled_iff] at hwait ⊢
  rintro b ⟨hhead, hclosed, hfree, hcount⟩
  rw [hq] at hhead
  rw [hb b hhead] at hclosed hcount
  exact hwait b ⟨hhead, hclosed, by rwa [Pcu.freeBuf, hf] at hfree, hcount⟩

theorem State.countWait_settled {s : State} (h : s.pathStep = none) : s.countWait.settled := by
  obtain ⟨hcond, hdet⟩ := State.pathStep_eq_none.1 h
  exact ⟨State.nothing_of_eq hcond s.countWait_queue (fun b _ => s.countWait_bank_state b) (by simp) (by simp),
    (State.detReady_of_eq (by simp) (by simp)).trans hdet, s.countWait_waitSettled⟩

/-- The profile path moves until it has settled (R71, R92). -/
theorem State.moveProfiles_settles {s : State} (hs : s.pathSound) : s.moveProfiles.pathSound ∧ s.moveProfiles.settled := by
  obtain ⟨hsound, hnone⟩ := State.pathLoop_settles 16 hs (by have := hs.pathLeft_le; omega)
  exact ⟨State.countWait_pathSound hsound, State.countWait_settled hnone⟩

/-! ### The invariant -/

/-- The profile path agrees with itself and has settled. -/
def State.pathKept (s : State) : Prop := s.pathSound ∧ s.settled

theorem State.pathKept_of_eq {s t : State} (h : s.pathKept) (hq : t.gau.queue = s.gau.queue)
    (hb : t.gau.banks = s.gau.banks) (hj : t.pcu.job = s.pcu.job) (hr : t.pcu.readyOrder = s.pcu.readyOrder)
    (hf : t.pcu.bufs = s.pcu.bufs) (hd : t.ldu.job = s.ldu.job) : t.pathKept :=
  ⟨State.pathSound_of_eq h.1 hq (fun b => by rw [hb]) hj hr hf hd,
    State.settled_of_eq h.2 hq (fun b _ => by rw [hb]) hj hr hf hd⟩

/-- Where no bank closes, a settled path stays settled. -/
theorem State.Closes.pathKept {s t : State} (h : State.Closes [] s t) (hs : s.pathKept) : t.pathKept := by
  obtain ⟨hsound, hsettled⟩ := hs
  obtain ⟨v, hpcu⟩ := h.pcu
  refine ⟨h.gathers.pathSound hsound, State.settled_of_eq hsettled (by simpa using h.queue) (fun b hb => ?_)
    (by rw [hpcu]) (by rw [hpcu]) (by rw [hpcu]) (by rw [h.ldu])⟩
  exact h.kept b ((hsound.2.1 b).1 (List.mem_of_head? hb))

theorem State.Gathers.moveProfiles_pathKept {s t : State} (h : s.Gathers t) (hs : s.pathKept) :
    t.moveProfiles.pathKept := State.moveProfiles_settles (h.pathSound hs.1)

theorem State.powerOn_pathKept (rate : BitVec 2) : (State.powerOn rate).pathKept := by
  refine State.pathKept_of_eq (s := State.powerOn 0) ?_ rfl rfl rfl rfl rfl rfl
  refine ⟨?_, rfl, rfl, rfl⟩
  simp only [State.pathSound, State.powerOn, Gau.reset, Pcu.reset, Ldu.reset]
  decide

theorem State.command_pathKept (s : State) (b : List Byte) (c : Command) (h : s.pathKept) :
    (c.run s b).st.pathKept := by
  have hframe : ∀ t : State, t.gau.queue = s.gau.queue → t.gau.banks = s.gau.banks → t.pcu.job = s.pcu.job →
      t.pcu.readyOrder = s.pcu.readyOrder → t.pcu.bufs = s.pcu.bufs → t.ldu.job = s.ldu.job → t.pathKept :=
    fun _ => State.pathKept_of_eq h
  cases c <;> simp only [Command.run, State.resetTracks, State.injectCrc, State.readTracks, State.softReset]
  case setProgram =>
    obtain h1 | ⟨-, _, _, h1⟩ := s.setProgram_st b <;> rw [h1]
    · exact h
    · refine hframe _ rfl rfl ?_ ?_ ?_ rfl <;> simp only [State.writeProgram] <;> split <;> rfl
  case setFiring => obtain h1 | ⟨_, h1⟩ := s.setFiring_st b <;> rw [h1] <;> exact hframe _ rfl rfl rfl rfl rfl rfl
  case setSchedule => obtain h1 | ⟨_, h1⟩ := s.setSchedule_st b <;> rw [h1] <;> exact hframe _ rfl rfl rfl rfl rfl rfl
  case start => obtain h1 | ⟨-, h1⟩ := s.start_st <;> rw [h1] <;> exact hframe _ rfl rfl rfl rfl rfl rfl
  case stop =>
    obtain h1 | ⟨-, h1⟩ := s.stop_st <;> rw [h1]
    · exact h
    · refine (s.closes_ceaseFire.trans ?_).pathKept h
      exact State.closes_of_eq rfl rfl rfl rfl
  case clearTrip => obtain h1 | ⟨-, h1⟩ := s.clearTrip_st <;> rw [h1] <;> exact hframe _ rfl rfl rfl rfl rfl rfl
  case loadGates => obtain h1 | ⟨_, _, h1⟩ := s.loadGates_st b <;> rw [h1] <;> exact hframe _ rfl rfl rfl rfl rfl rfl
  case loadCorrection =>
    obtain h1 | h1 | ⟨_, _, h1⟩ := s.loadCorrection_st b <;> rw [h1] <;> exact hframe _ rfl rfl rfl rfl rfl rfl
  case loadThresholds =>
    obtain h1 | h1 | ⟨_, _, h1⟩ := s.loadThresholds_st b <;> rw [h1] <;> exact hframe _ rfl rfl rfl rfl rfl rfl
  case setTracking => obtain h1 | ⟨_, h1⟩ := s.setTracking_st b <;> rw [h1] <;> exact hframe _ rfl rfl rfl rfl rfl rfl
  case resetTracks => apply hframe <;> simp
  case setSky => obtain h1 | ⟨_, h1⟩ := s.setSky_st b <;> rw [h1] <;> exact hframe _ rfl rfl rfl rfl rfl rfl
  case setCapture => obtain h1 | ⟨_, h1⟩ := s.setCapture_st b <;> rw [h1] <;> exact hframe _ rfl rfl rfl rfl rfl rfl
  case injectEcho =>
    obtain h1 | ⟨_, h1 | h1⟩ := s.injectEcho_st b <;> rw [h1] <;> exact hframe _ rfl rfl rfl rfl rfl rfl
  case pathCheck => obtain h1 | ⟨-, _, -, h1⟩ := s.pathCheck_st b <;> rw [h1] <;> exact hframe _ rfl rfl rfl rfl rfl rfl
  case setReporting => obtain ⟨_, h1⟩ := s.setReporting_st b; rw [h1]; exact hframe _ rfl rfl rfl rfl rfl rfl
  case timeMark => obtain ⟨_, h1⟩ := s.timeMark_st b; rw [h1]; exact hframe _ rfl rfl rfl rfl rfl rfl
  case readStatus => rwa [s.readStatus_st b]
  case readCounters => obtain ⟨_, h1⟩ := s.readCounters_st b; rw [h1]; exact hframe _ rfl rfl rfl rfl rfl rfl
  all_goals exact hframe _ rfl rfl rfl rfl rfl rfl

/-- The settled profile path as a block invariant. -/
theorem pathKept_invariant : BlockInvariant State.pathKept where
  line _ _ h := State.pathKept_of_eq h rfl rfl rfl rfl rfl rfl
  command := State.command_pathKept
  softReset s _ := State.pathKept_of_eq (State.powerOn_pathKept s.slc.rate) rfl rfl rfl rfl rfl rfl
  powerOn _ rate _ := State.pathKept_of_eq (State.powerOn_pathKept rate) rfl rfl rfl rfl rfl rfl
  opens s h := s.closes_interlockOpens.pathKept h
  closes _ h := State.pathKept_of_eq h rfl rfl rfl rfl rfl rfl
  timeout s h := s.gathers_timeoutExpires.moveProfiles_pathKept h
  word s w h := State.pathKept_of_eq h (by simp) (by simp) (by simp) (by simp) (by simp) (by simp)
  parser s h := s.gathers_parserTakes.moveProfiles_pathKept h
  truncation s h := s.gathers_truncate.moveProfiles_pathKept h
  commit s h := s.closes_commitEnds.pathKept h
  condBegins s h := by
    unfold State.beginConditioning
    rw [h.2.1]
    exact h
  condCompletes s h := by
    unfold State.completeConditioning
    split
    · exact State.moveProfiles_settles (State.condFinish_pathSound h.1 ‹_›)
    · exact h
  detBegins s h := by
    unfold State.beginDetection
    rw [h.2.2.1]
    exact h
  detCompletes s h := by
    unfold State.completeDetection
    split
    · exact State.moveProfiles_settles (State.detFinish_pathSound h.1 ‹_›)
    · exact h

/-- Settles O59, by the settled profile path as a block invariant; a slot time ends by moving it. -/
theorem profilePathSettles : Obligations.ProfilePathSettles := by
  intro c s t hsound hsettled he
  exact pathKept_invariant.exec ⟨hsound, hsettled⟩
    (fun _ => s.gathers_slot.moveProfiles_pathKept ⟨hsound, hsettled⟩) he

/-! ### Relations through the chain of begins -/

/-- A relation that each begin and each counted wait is in holds through the whole chain. -/
theorem State.moveProfiles_rel {R : State → State → Prop} (hrefl : ∀ s, R s s)
    (htrans : ∀ {s u t}, R s u → R u t → R s t) (hcond : ∀ s b k, R s (State.condBegin s b k))
    (hdet : ∀ s k, R s (State.detBegin s k)) (hwait : ∀ s, R s (State.countWait s)) (s : State) :
    R s s.moveProfiles := by
  have hloop : ∀ (n : Nat) (u : State), R u (State.pathLoop n u) := by
    intro n
    induction n with
    | zero => exact hrefl
    | succ n ih =>
      intro u
      unfold State.pathLoop
      split
      · rename_i t ht
        refine htrans ?_ (ih t)
        unfold State.pathStep at ht
        split at ht
        · cases ht
          exact hcond u _ _
        · obtain ⟨k, -, rfl⟩ := Option.map_eq_some_iff.1 ht
          exact hdet u k
      · exact hrefl u
  exact htrans (hloop 16 s) (hwait _)

/-! ### The Track Table (R112, R114) -/

/-- A detection that completes at its begin observes nothing (R105, R117). -/
theorem State.detBegin_ltu (s : State) (k : Fin 2) : (s.detBegin k).ltu = s.ltu := by
  obtain ⟨on, h⟩ | h := s.detBegin_cases k <;> rw [h]
  · rfl
  · obtain ⟨-, h1⟩ | ⟨-, d, v, -, ⟨-, h1⟩ | ⟨hon, -⟩⟩ := (s.detTaken k none).detFinish_path ⟨k, none⟩
    · rw [h1]; rfl
    · rw [h1]; rfl
    · cases hon

/-- The begins in the profile path leave the Track Table alone. -/
@[simp] theorem State.moveProfiles_ltu (s : State) : s.moveProfiles.ltu = s.ltu :=
  State.moveProfiles_rel (R := fun u t => t.ltu = u.ltu) (fun _ => rfl) (fun h k => k.trans h)
    (fun _ _ _ => by simp) State.detBegin_ltu (fun _ => by simp) s

theorem State.Gathers.ltu {s t : State} (h : s.Gathers t) : t.ltu = s.ltu := h.choose_spec.ltu

/-- A completed detection leaves the Track Table alone or updates it (R117). -/
theorem State.detFinish_ltu (s : State) (j : LduJob) :
    (s.detFinish j).ltu = s.ltu ∨ ∃ x, (s.detFinish j).ltu = (s.ltu.update x).ltu := by
  obtain ⟨-, h⟩ | ⟨-, d, v, -, ⟨-, h⟩ | ⟨-, -, x, h⟩⟩ := s.detFinish_path j
  · exact .inl (by rw [h]; rfl)
  · exact .inl h
  · exact .inr ⟨x, h⟩

/-- A history cut by SET_TRACKING leaves ids and bases alone (R116). -/
theorem Ltu.sound_cut {k : Ltu} (h : k.sound) (q : TrackParams) :
    ({ k with params := q, tracks := k.tracks.map fun t => t.cut q.histLen } : Ltu).sound := by
  obtain ⟨hlen, hnodup, hrange, hlo, hhi, hasc⟩ := h
  refine ⟨by simpa using hlen, ?_, ?_, hlo, hhi, ?_⟩
  · rw [List.map_map]
    exact hnodup
  · intro t ht
    obtain ⟨u, hu, rfl⟩ := List.mem_map.1 ht
    exact hrange u hu
  · rw [List.pairwise_map]
    exact hasc

theorem Ltu.reset_sound : Ltu.reset.sound := by simp [Ltu.sound, Ltu.reset]

theorem State.command_ltu_sound (s : State) (b : List Byte) (c : Command) (h : s.ltu.sound) :
    (c.run s b).st.ltu.sound := by
  cases c <;> simp only [Command.run, State.resetTracks, State.injectCrc, State.readTracks, State.softReset]
  case setProgram => obtain h1 | ⟨-, _, _, h1⟩ := s.setProgram_st b <;> rw [h1] <;> exact h
  case setFiring => obtain h1 | ⟨_, h1⟩ := s.setFiring_st b <;> rw [h1] <;> exact h
  case setSchedule => obtain h1 | ⟨_, h1⟩ := s.setSchedule_st b <;> rw [h1] <;> exact h
  case start => obtain h1 | ⟨-, h1⟩ := s.start_st <;> rw [h1] <;> exact h
  case stop => obtain h1 | ⟨-, h1⟩ := s.stop_st <;> simpa [h1] using h
  case clearTrip => obtain h1 | ⟨-, h1⟩ := s.clearTrip_st <;> rw [h1] <;> exact h
  case loadGates => obtain h1 | ⟨_, _, h1⟩ := s.loadGates_st b <;> rw [h1] <;> exact h
  case loadCorrection => obtain h1 | h1 | ⟨_, _, h1⟩ := s.loadCorrection_st b <;> rw [h1] <;> exact h
  case loadThresholds => obtain h1 | h1 | ⟨_, _, h1⟩ := s.loadThresholds_st b <;> rw [h1] <;> exact h
  case setTracking =>
    obtain h1 | ⟨q, h1⟩ := s.setTracking_st b <;> rw [h1]
    · exact h
    · exact Ltu.sound_cut h q
  case resetTracks =>
    obtain ⟨-, -, -, hlo, hhi, -⟩ := h
    simp [Ltu.sound, hlo, hhi]
  case setSky => obtain h1 | ⟨_, h1⟩ := s.setSky_st b <;> rw [h1] <;> exact h
  case setCapture => obtain h1 | ⟨_, h1⟩ := s.setCapture_st b <;> rw [h1] <;> exact h
  case injectEcho => obtain h1 | ⟨_, h1 | h1⟩ := s.injectEcho_st b <;> rw [h1] <;> exact h
  case pathCheck => obtain h1 | ⟨-, _, -, h1⟩ := s.pathCheck_st b <;> rw [h1] <;> exact h
  case setReporting => obtain ⟨_, h1⟩ := s.setReporting_st b; rw [h1]; exact h
  case timeMark => obtain ⟨_, h1⟩ := s.timeMark_st b; rw [h1]; exact h
  case readStatus => rwa [s.readStatus_st b]
  case readCounters => obtain ⟨_, h1⟩ := s.readCounters_st b; rw [h1]; exact h
  all_goals exact h

/-- The soundness of the Track Table as a block invariant. -/
theorem ltuSound_invariant : BlockInvariant fun s => s.ltu.sound where
  line _ _ h := h
  command := State.command_ltu_sound
  softReset _ _ := Ltu.reset_sound
  powerOn _ _ _ := Ltu.reset_sound
  opens s h := by rwa [s.closes_interlockOpens.ltu]
  closes _ h := h
  timeout s h := by rwa [State.moveProfiles_ltu, s.gathers_timeoutExpires.ltu]
  word s w h := by simpa using h
  parser s h := by rwa [State.moveProfiles_ltu, s.gathers_parserTakes.ltu]
  truncation s h := by rwa [State.moveProfiles_ltu, s.gathers_truncate.ltu]
  commit s h := by rwa [s.closes_commitEnds.ltu]
  condBegins s h := by
    unfold State.beginConditioning
    split
    · simpa using h
    · exact h
  condCompletes s h := by
    unfold State.completeConditioning
    split
    · simpa using h
    · exact h
  detBegins s h := by
    unfold State.beginDetection
    split
    · rwa [State.moveProfiles_ltu, State.detBegin_ltu]
    · exact h
  detCompletes s h := by
    unfold State.completeDetection
    split
    · rename_i j _
      rw [State.moveProfiles_ltu]
      obtain h1 | ⟨x, h1⟩ := s.detFinish_ltu j <;> rw [h1]
      · exact h
      · exact Ltu.update_sound _ x h
    · exact h

/-- Settles O39, by the soundness of the Track Table as a block invariant; a slot time leaves it alone. -/
theorem trackTableKept : Obligations.TrackTableKept := by
  intro c s t hs he
  refine ltuSound_invariant.exec hs (fun _ => ?_) he
  rwa [State.moveProfiles_ltu, s.gathers_slot.ltu]

end Sys2Proof.Machine
end

section
/-! The outbound side of the line as a closure of its operations (R153 to R158): what every sequence of raises,
offers and held lines keeps. The stores keep within their sizes and responses stay responses. -/

namespace Sys2Proof.Machine

/-! ### What the stores keep (R153, R154) -/

/-- The outbound stores within one event: a line that is not sending has no CURRENT frame, frames stand in
their own stores, the stores keep within their sizes, and every response is one block. -/
structure Slc.stored (l : Slc) : Prop where
  current : l.phase ≠ .sending → l.current = none
  responses : ∀ f ∈ l.responses, f.kind = .response
  queue : ∀ f ∈ l.queue, f.kind ≠ .response
  stack : ∀ f ∈ l.stack, f.kind ≠ .response
  bytes : l.bytesUsed ≤ Config.reportBytes
  descriptors : l.descUsed ≤ Config.descriptors
  slots : l.responsesUsed ≤ Config.responseSlots
  blocks : ∀ f ∈ l.held, f.size ≤ Config.blockBytes

theorem Slc.stored.sorted {l : Slc} (h : l.stored) : l.sorted := ⟨h.responses, h.queue⟩

theorem Slc.responsesUsed_eq (l : Slc) : l.responsesUsed = l.held.length := by
  simp [Slc.responsesUsed, Slc.held]

theorem Slc.filled_size (s : Slc) (f : Frame) : (s.filled f).size = f.size := by
  unfold Slc.filled; split <;> rfl

/-- The stores after a step that keeps them as collections of sizes. -/
theorem Slc.stored.of_sizes {l m : Slc} (h : l.stored) (hc : m.phase ≠ .sending → m.current = none)
    (hr : ∀ f ∈ m.responses, f.kind = .response) (hq : ∀ f ∈ m.queue, f.kind ≠ .response)
    (hs : m.stack = l.stack) (hd : (m.described.map Frame.size).Perm (l.described.map Frame.size))
    (hh : m.held.Perm l.held) : m.stored where
  current := hc
  responses := hr
  queue := hq
  stack := by rw [hs]; exact h.stack
  bytes := by
    have := h.bytes
    rwa [Slc.bytesUsed, hd.sum_eq]
  descriptors := by
    have hlen := hd.length_eq
    rw [List.length_map, List.length_map] at hlen
    have := h.descriptors
    rwa [Slc.descUsed, hlen]
  slots := by
    rw [Slc.responsesUsed_eq, hh.length_eq, ← Slc.responsesUsed_eq]
    exact h.slots
  blocks f hf := h.blocks f (hh.mem_iff.1 hf)

/-! ### Starting a pending frame (R155) -/

theorem Slc.without_kinds {l : Slc} (h : l.sorted) (f : Frame) : (l.without f).sorted := by
  unfold Slc.without
  split
  · exact ⟨fun g hg => h.1 g (List.mem_of_mem_erase hg), h.2⟩
  · exact ⟨h.1, fun g hg => h.2 g (List.mem_of_mem_erase hg)⟩

/-- Starting a pending frame on a line with no CURRENT frame keeps the frames described, as a collection of
sizes. -/
theorem Link.startPending_described (l : Link) (f : Frame) (hc : l.slc.current = none) (hs : l.slc.sorted)
    (hf : l.slc.highest = some f) :
    ((l.startPending f).slc.described.map Frame.size).Perm (l.slc.described.map Frame.size) := by
  have hm : f ∈ l.slc.responses ∨ f ∈ l.slc.queue := by simpa using firstToSend_mem hf
  by_cases hk : f.kind = .response
  · simp [Slc.described, Link.startPending, Link.startBlock, Slc.without, hk, hc, Slc.filled_kind]
  · have hmem : f ∈ l.slc.queue := hm.resolve_left fun h => hk (hs.1 f h)
    have herase := (List.perm_cons_erase hmem).map Frame.size
    simp only [Slc.described, Link.startPending, Link.startBlock, Slc.without, hk, if_false, hc, Option.toList,
      List.filter_cons, List.filter_nil, List.map_append, List.append_nil, Slc.filled_kind, ne_eq,
      not_false_eq_true, decide_true, if_true, List.map_cons, List.map_nil, Slc.filled_size]
    refine List.Perm.append_right _ (List.Perm.trans ?_ herase.symm)
    rw [List.map_cons]
    exact List.perm_append_singleton _ _

theorem Link.startPending_stored (l : Link) (f : Frame) (h : l.slc.stored) (hc : l.slc.current = none)
    (hf : l.slc.highest = some f) : (l.startPending f).slc.stored := by
  have hsorted := Slc.without_kinds h.sorted f
  exact h.of_sizes (fun hp => absurd rfl hp) hsorted.1 hsorted.2 (l.startPending_settings f).2
    (l.startPending_described f hc h.sorted hf) (l.startPending_held f hc h.sorted hf)

theorem Link.kick_stored (l : Link) (h : l.slc.stored) : l.kick.slc.stored := by
  unfold Link.kick
  split
  · rename_i hidle
    split
    · exact l.startPending_stored _ h (h.current (by simp [hidle])) ‹_›
    · exact h
  · exact h

theorem Link.kick_held_of_stored (l : Link) (h : l.slc.stored) : l.kick.slc.held.Perm l.slc.held :=
  l.kick_held h.sorted fun hidle => h.current (by simp [hidle])

/-! ### The drop policy (R156) -/

theorem victim_mem {lv : Nat} {fs : List Frame} {g : Frame} (h : victim lv fs = some g) : g ∈ fs := by
  induction fs generalizing g with
  | nil => cases h
  | cons f fs ih =>
    unfold victim at h
    split at h
    · split at h
      · cases h
        exact List.mem_cons_self
      · cases h
    · split at h
      · cases h
        exact List.mem_cons_self
      · cases h
        exact List.mem_cons_of_mem _ (ih ‹_›)

theorem Link.discard_described (l : Link) {g : Frame} (h : g ∈ l.slc.queue) :
    l.slc.described.Perm (g :: (l.discard g).slc.described) := by
  have herase := List.perm_cons_erase h
  simp only [Slc.described, Link.discard, Link.bump_slc]
  exact ((herase.append_right _).append_right _)

theorem Link.discard_stored (l : Link) {g : Frame} (hg : g ∈ l.slc.queue) (h : l.slc.stored) :
    (l.discard g).slc.stored where
  current := h.current
  responses := h.responses
  queue f hf := h.queue f (List.mem_of_mem_erase hf)
  stack := h.stack
  bytes := by
    have hsum := ((l.discard_described hg).map Frame.size).sum_eq
    have := h.bytes
    rw [List.map_cons, List.sum_cons] at hsum
    simp only [Slc.bytesUsed] at this ⊢
    omega
  descriptors := by
    have hlen := (l.discard_described hg).length_eq
    have := h.descriptors
    rw [List.length_cons] at hlen
    simp only [Slc.descUsed] at this ⊢
    omega
  slots := h.slots
  blocks := h.blocks

theorem Link.enqueue_stored (l : Link) (f : Frame) (hf : f.kind ≠ .response) (hfits : l.slc.fits f.size = true)
    (h : l.slc.stored) : (l.enqueue f).slc.stored := by
  rw [Slc.fits, Bool.and_eq_true, decide_eq_true_eq, decide_eq_true_eq] at hfits
  refine ⟨h.current, h.responses, ?_, h.stack, ?_, ?_, h.slots, h.blocks⟩
  · intro g hg
    obtain hg | hg := List.mem_append.1 hg
    · exact h.queue g hg
    · rw [List.mem_singleton.1 hg]
      exact hf
  · have := hfits.1
    simp only [Slc.bytesUsed, Slc.described, Link.enqueue, List.map_append, List.sum_append, List.map_cons,
      List.map_nil, List.sum_cons, List.sum_nil] at this ⊢
    omega
  · have := hfits.2
    simp only [Slc.descUsed, Slc.described, Link.enqueue, List.length_append, List.length_cons,
      List.length_nil] at this ⊢
    omega

theorem Link.placeLoop_stored (n : Nat) (l : Link) (f : Frame) (b : Bool) (hf : f.kind ≠ .response)
    (h : l.slc.stored) : (Link.placeLoop n l f b).link.slc.stored := by
  induction n generalizing l b with
  | zero => exact h
  | succ n ih =>
    unfold Link.placeLoop
    split
    · exact l.enqueue_stored f hf ‹_› h
    · split
      · exact ih _ _ (l.discard_stored (victim_mem ‹_›) h)
      · exact h

/-- A placement leaves the line alone: its phase, its CURRENT frame, the responses. -/
theorem Link.placeLoop_line (n : Nat) (l : Link) (f : Frame) (b : Bool) :
    (Link.placeLoop n l f b).link.slc.phase = l.slc.phase
      ∧ (Link.placeLoop n l f b).link.slc.current = l.slc.current
      ∧ (Link.placeLoop n l f b).link.slc.responses = l.slc.responses := by
  induction n generalizing l b with
  | zero => exact ⟨rfl, rfl, rfl⟩
  | succ n ih =>
    unfold Link.placeLoop
    split
    · exact ⟨rfl, rfl, rfl⟩
    · split
      · exact ih _ _
      · exact ⟨rfl, rfl, rfl⟩

/-! ### What one operation keeps -/

/-- `m` follows from `l` on a line that keeps its stores: the phase of a busy or held line stays, an idle line
stays idle or sends, and the responses held stay as a collection. -/
structure Link.Holds (l m : Link) : Prop where
  stored : m.slc.stored
  busy : l.slc.phase ≠ .idle → m.slc.phase = l.slc.phase
  idle : l.slc.phase = .idle → m.slc.phase ≠ .boundary
  held : m.slc.held.Perm l.slc.held

theorem Link.Holds.refl {l : Link} (h : l.slc.stored) : l.Holds l :=
  ⟨h, fun _ => rfl, fun hi => by simp [hi], .refl _⟩

theorem Link.Holds.trans {l m n : Link} (h : l.Holds m) (k : m.Holds n) : l.Holds n := by
  refine ⟨k.stored, fun hl => ?_, fun hl => ?_, k.held.trans h.held⟩
  · have hm := h.busy hl
    exact (k.busy (by rwa [hm])).trans hm
  · by_cases hm : m.slc.phase = .idle
    · exact k.idle hm
    · rw [k.busy hm]
      exact h.idle hl

theorem Link.holds_kick {l : Link} (h : l.slc.stored) : l.Holds l.kick := by
  refine ⟨l.kick_stored h, fun hl => by rw [l.kick_of_not_idle hl], fun hl => ?_, l.kick_held_of_stored h⟩
  unfold Link.kick
  rw [if_pos hl]
  split
  · simp [Link.startPending, Link.startBlock]
  · simp [hl]

theorem Link.holds_place {l : Link} (h : l.slc.stored) (f : Frame) (hf : f.kind ≠ .response) :
    l.Holds (l.place f).link := by
  obtain ⟨hphase, hcurrent, hresponses⟩ := Link.placeLoop_line (l.slc.queue.length + 1) l f false
  refine ⟨Link.placeLoop_stored _ l f false hf h, fun _ => hphase, fun hl => ?_, ?_⟩
  · rw [Link.place, hphase, hl]
    decide
  · rw [Slc.held, Link.place, hresponses, hcurrent]
    exact .refl _

theorem Link.holds_setFlag {l : Link} (h : l.slc.stored) (k : NoticeKind) : l.Holds (l.setFlag k) :=
  ⟨⟨h.current, h.responses, h.queue, h.stack, h.bytes, h.descriptors, h.slots, h.blocks⟩, fun _ => rfl,
    fun hi => by simp [Link.setFlag, hi], .refl _⟩

theorem Link.holds_noticeAttempt {l : Link} (h : l.slc.stored) : l.Holds l.noticeAttempt := by
  unfold Link.noticeAttempt
  split
  · exact .refl h
  · have hplace := Link.holds_place h l.slc.noticeFrame (by simp [Slc.noticeFrame])
    dsimp only
    split
    · have hflag := Link.holds_setFlag hplace.stored .reportDrop
      exact (hplace.trans hflag).trans (Link.holds_kick hflag.stored)
    · exact hplace.trans (Link.holds_kick hplace.stored)

theorem Link.holds_raise {l : Link} (h : l.slc.stored) (k : NoticeKind) : l.Holds (l.raise k) := by
  have hflag := Link.holds_setFlag h k
  unfold Link.raise
  split
  · exact hflag
  · exact hflag.trans (Link.holds_noticeAttempt hflag.stored)

theorem Link.holds_attemptIfPending {l : Link} (h : l.slc.stored) : l.Holds l.attemptIfPending := by
  unfold Link.attemptIfPending
  split
  · exact Link.holds_noticeAttempt h
  · exact .refl h

theorem Link.holds_offer {l : Link} (h : l.slc.stored) {k : FrameKind} (p : List Byte) (hk : k ≠ .response) :
    l.Holds (l.offer k p).1 := by
  have hplace := Link.holds_place h ⟨k, l.slc.levels.of k, 0, p.length, p, 0, .nothing⟩ hk
  have hkick := hplace.trans (Link.holds_kick hplace.stored)
  unfold Link.offer
  dsimp only
  split
  · exact hkick.trans (Link.holds_raise hkick.stored _)
  · exact hkick

/-! ### The closure -/

/-- `m` follows from `l` by counting, raising notices and attempting them, offering report frames, and such a sequence on a held
line, which is released at its end. -/
inductive Link.Reaches : Link → Link → Prop where
  | refl (l : Link) : Link.Reaches l l
  | trans {l m n : Link} : Link.Reaches l m → Link.Reaches m n → Link.Reaches l n
  | bumpBy (l : Link) (c : Ctr) (n : Nat) : Link.Reaches l { l with ctrs := Counters.add l.ctrs c n }
  | raise (l : Link) (k : NoticeKind) : Link.Reaches l (l.raise k)
  | attempt (l : Link) : Link.Reaches l l.attemptIfPending
  | offer (l : Link) {k : FrameKind} (p : List Byte) : k ≠ .response → Link.Reaches l (l.offer k p).1
  | held {l m : Link} : Link.Reaches l.hold m → Link.Reaches l (m.release l.slc.phase)

theorem Link.Reaches.settings {l m : Link} (h : l.Reaches m) :
    m.slc.sameSettings l.slc ∧ m.slc.stack = l.slc.stack := by
  induction h with
  | refl l => exact ⟨Slc.sameSettings_refl _, rfl⟩
  | trans _ _ ihl ihm => exact ⟨Slc.sameSettings_trans ihm.1 ihl.1, ihm.2.trans ihl.2⟩
  | bumpBy l c n => exact ⟨Slc.sameSettings_refl _, rfl⟩
  | raise l k => exact l.raise_settings k
  | attempt l => exact l.attemptIfPending_settings
  | offer l p _ => exact l.offer_settings _ p
  | held _ ih =>
    have hrelease := Link.release_settings
    have hhold := Link.hold_settings
    exact ⟨Slc.sameSettings_trans (hrelease _ _).1 (Slc.sameSettings_trans ih.1 (hhold _).1),
      (hrelease _ _).2.trans (ih.2.trans (hhold _).2)⟩

theorem Link.Reaches.holds {l m : Link} (h : l.Reaches m) (hl : l.slc.stored) : l.Holds m := by
  induction h with
  | refl l => exact .refl hl
  | trans _ _ ihl ihm => exact (ihl hl).trans (ihm (ihl hl).stored)
  | bumpBy l c n => exact ⟨hl, fun _ => rfl, fun hi => by simp [hi], .refl _⟩
  | raise l k => exact Link.holds_raise hl k
  | attempt l => exact Link.holds_attemptIfPending hl
  | offer l p hk => exact Link.holds_offer hl p hk
  | @held l m hm ih =>
    by_cases hidle : l.slc.phase = .idle
    · have hhold : l.hold = { l with slc := { l.slc with phase := .boundary } } := if_pos hidle
      have hnone := hl.current (by simp [hidle])
      have hstored : l.hold.slc.stored := by
        rw [hhold]
        exact ⟨fun _ => hnone, hl.responses, hl.queue, hl.stack, hl.bytes, hl.descriptors, hl.slots, hl.blocks⟩
      have hm := ih hstored
      have hphase : m.slc.phase = .boundary := by rw [hm.busy (by simp [hhold])]; simp [hhold]
      have hcurrent := hm.stored.current (by simp [hphase])
      have hrelease : m.release l.slc.phase = Link.kick { m with slc := { m.slc with phase := .idle } } :=
        if_pos hidle
      have hopen : ({ m with slc := { m.slc with phase := .idle } } : Link).slc.stored :=
        ⟨fun _ => hcurrent, hm.stored.responses, hm.stored.queue, hm.stored.stack, hm.stored.bytes,
          hm.stored.descriptors, hm.stored.slots, hm.stored.blocks⟩
      have hkick := Link.holds_kick hopen
      rw [hrelease]
      refine ⟨hkick.stored, fun h => absurd hidle h, fun _ => hkick.idle rfl, hkick.held.trans ?_⟩
      have hheld := hm.held
      rwa [hhold] at hheld
    · have hhold : l.hold = l := if_neg hidle
      have hrelease : m.release l.slc.phase = m := if_neg hidle
      rw [hrelease]
      rw [hhold] at ih
      exact ih hl

/-- Within their bounds, counters stay within them (I.5). -/
def Counters.bounded (v : Counters) : Prop := ∀ c : Ctr, v[c] ≤ Config.counterMax

theorem Counters.bounded.add {v : Counters} (h : v.bounded) (c : Ctr) (n : Nat) : (Counters.add v c n).bounded := by
  intro d
  rw [Fin.getElem_fin, Counters.add_get]
  split
  · exact Nat.min_le_right _ _
  · exact h d

theorem Link.startBlock_bounded (l : Link) (f : Frame) (h : l.ctrs.bounded) : (l.startBlock f).ctrs.bounded := by
  unfold Link.startBlock
  dsimp only
  split <;> split
  · exact (h.add _ _).add _ _
  · exact h.add _ _
  · exact h.add _ _
  · exact h

theorem Link.startPending_bounded (l : Link) (f : Frame) (h : l.ctrs.bounded) :
    (l.startPending f).ctrs.bounded := Link.startBlock_bounded { l with slc := l.slc.without f } f h

theorem Link.kick_bounded (l : Link) (h : l.ctrs.bounded) : l.kick.ctrs.bounded := by
  unfold Link.kick
  split
  · split
    · exact l.startPending_bounded _ h
    · exact h
  · exact h

theorem Link.placeLoop_bounded (n : Nat) (l : Link) (f : Frame) (b : Bool) (h : l.ctrs.bounded) :
    (Link.placeLoop n l f b).link.ctrs.bounded := by
  induction n generalizing l b with
  | zero => exact h.add _ _
  | succ n ih =>
    unfold Link.placeLoop
    split
    · exact h
    · split
      · exact ih _ _ (h.add _ _)
      · exact h.add _ _

theorem Link.noticeAttempt_bounded (l : Link) (h : l.ctrs.bounded) : l.noticeAttempt.ctrs.bounded := by
  have hplace : (l.place l.slc.noticeFrame).link.ctrs.bounded := Link.placeLoop_bounded _ _ _ _ h
  unfold Link.noticeAttempt
  split
  · exact h
  · refine Link.kick_bounded _ ?_
    split
    · exact hplace.add _ _
    · exact hplace

theorem Link.raise_bounded (l : Link) (k : NoticeKind) (h : l.ctrs.bounded) : (l.raise k).ctrs.bounded := by
  have hflag : (l.setFlag k).ctrs.bounded := h.add _ _
  unfold Link.raise
  split
  · exact hflag
  · exact Link.noticeAttempt_bounded _ hflag

theorem Link.attemptIfPending_bounded (l : Link) (h : l.ctrs.bounded) : l.attemptIfPending.ctrs.bounded := by
  unfold Link.attemptIfPending
  split
  · exact l.noticeAttempt_bounded h
  · exact h

theorem Link.offer_bounded (l : Link) (k : FrameKind) (p : List Byte) (h : l.ctrs.bounded) :
    (l.offer k p).1.ctrs.bounded := by
  have hkick := Link.kick_bounded _ (Link.placeLoop_bounded (l.slc.queue.length + 1) l
    ⟨k, l.slc.levels.of k, 0, p.length, p, 0, .nothing⟩ false h)
  unfold Link.offer
  dsimp only
  split
  · exact Link.raise_bounded _ _ hkick
  · exact hkick

theorem Link.Reaches.bounded {l m : Link} (h : l.Reaches m) (hl : l.ctrs.bounded) : m.ctrs.bounded := by
  induction h with
  | refl l => exact hl
  | trans _ _ ihl ihm => exact ihm (ihl hl)
  | bumpBy l c n => exact hl.add c n
  | raise l k => exact l.raise_bounded k hl
  | attempt l => exact l.attemptIfPending_bounded hl
  | offer l p _ => exact l.offer_bounded _ p hl
  | held hm ih =>
    have hm := ih (by rw [(Link.hold_spec _).1]; exact hl)
    unfold Link.release
    split
    · exact Link.kick_bounded _ hm
    · exact hm

end Sys2Proof.Machine
end

section
/-! What every event but a slot time and the arrival of a word does outside the blocks that it is about: the
budget window stays, the elastic buffer gets no fuller, and the line works by raises and offers. -/

namespace Sys2Proof.Machine

/-- `t` follows from `s` with the budget window as it was, no more words in the elastic buffer, and nothing
but counting, raises and offers on the line. -/
structure State.Quiet (s t : State) : Prop where
  window : t.fcu.window = s.fcu.window
  words : t.rsp.occupancy ≤ s.rsp.occupancy
  link : s.link.Reaches t.link

theorem State.quiet_of_eq {s t : State} (hf : t.fcu.window = s.fcu.window) (hr : t.rsp.buffer = s.rsp.buffer)
    (hs : t.slc = s.slc) (hc : t.ctrs = s.ctrs) : s.Quiet t := by
  refine ⟨hf, by simp [Rsp.occupancy, hr], ?_⟩
  have heq : t.link = s.link := by simp [State.link, hs, hc]
  rw [heq]
  exact .refl _

theorem State.Quiet.refl (s : State) : s.Quiet s := State.quiet_of_eq rfl rfl rfl rfl

theorem State.Quiet.trans {s u t : State} (h : s.Quiet u) (k : u.Quiet t) : s.Quiet t :=
  ⟨k.window.trans h.window, k.words.trans h.words, h.link.trans k.link⟩

/-- What follows a quiet operation, the operation behind it named first. -/
theorem State.Quiet.after {s u t : State} (k : u.Quiet t) (h : s.Quiet u) : s.Quiet t := h.trans k

theorem State.Quiet.bumpBy {s t : State} (h : s.Quiet t) (c : Ctr) (n : Nat) : s.Quiet (t.bumpBy c n) :=
  h.trans ⟨rfl, le_refl _, .bumpBy t.link c n⟩

theorem State.Quiet.bump {s t : State} (h : s.Quiet t) (c : Ctr) : s.Quiet (t.bump c) := h.bumpBy c 1

theorem State.Quiet.bumpIf {s t : State} (h : s.Quiet t) (q : Bool) (c : Ctr) : s.Quiet (t.bumpIf q c) := by
  unfold State.bumpIf
  split
  · exact h.bump c
  · exact h

theorem State.Quiet.raise {s t : State} (h : s.Quiet t) (k : NoticeKind) : s.Quiet (t.raise k) :=
  h.trans ⟨rfl, le_refl _, .raise t.link k⟩

theorem State.Quiet.raiseTimes {s t : State} (h : s.Quiet t) (k : NoticeKind) (n : Nat) :
    s.Quiet (t.raiseTimes k n) := by
  induction n generalizing t with
  | zero => exact h
  | succ n ih => exact ih (h.raise k)

theorem State.Quiet.offer {s t : State} (h : s.Quiet t) {k : FrameKind} (p : List Byte) (hk : k ≠ .response) :
    s.Quiet (t.offer k p).1 := h.trans ⟨rfl, le_refl _, .offer t.link p hk⟩

theorem State.Quiet.withGau {s t : State} (h : s.Quiet t) (g : Gau) : s.Quiet (t.withGau g) :=
  h.trans (State.quiet_of_eq rfl rfl rfl rfl)

theorem State.Quiet.withPcu {s t : State} (h : s.Quiet t) (p : Pcu) : s.Quiet (t.withPcu p) :=
  h.trans (State.quiet_of_eq rfl rfl rfl rfl)

theorem State.Quiet.withLdu {s t : State} (h : s.Quiet t) (k : Ldu) : s.Quiet (t.withLdu k) :=
  h.trans (State.quiet_of_eq rfl rfl rfl rfl)

theorem State.Quiet.withLtu {s t : State} (h : s.Quiet t) (k : Ltu) : s.Quiet (t.withLtu k) :=
  h.trans (State.quiet_of_eq rfl rfl rfl rfl)

theorem State.Quiet.withSku {s t : State} (h : s.Quiet t) (k : Sku) : s.Quiet (t.withSku k) :=
  h.trans (State.quiet_of_eq rfl rfl rfl rfl)

theorem State.Quiet.parserTo {s t : State} (h : s.Quiet t) (p : Parser) : s.Quiet (t.parserTo p) :=
  h.trans (State.quiet_of_eq rfl rfl rfl rfl)

/-! ### The GAU and the FCU -/

theorem State.quiet_starve (s : State) (p : Prog) : s.Quiet (s.starve p) := by
  unfold State.starve
  split
  · exact (State.Quiet.refl s).bump _
  · exact ((((State.Quiet.refl s).bump _).withGau _).bump _).raise _

theorem State.quiet_bankRequest (s : State) (p : Prog) : s.Quiet (s.bankRequest p).1 := by
  unfold State.bankRequest
  split
  · exact .refl s
  · split
    · exact ((State.Quiet.refl s).withGau _).bump _
    · exact s.quiet_starve p

theorem State.quiet_closeIfDone (s : State) (b : Fin 6) : s.Quiet (s.closeIfDone b) := by
  unfold State.closeIfDone
  dsimp only
  split
  · exact ((State.Quiet.refl s).withGau _).bump _
  · exact .refl s

theorem State.quiet_countSlot (s : State) (b : Fin 6) (t : Option (Fin 32)) : s.Quiet (s.countSlot b t) := by
  unfold State.countSlot
  dsimp only
  split
  · split
    · exact (State.Quiet.refl s).withGau _
    · exact (State.quiet_closeIfDone _ _).after ((State.Quiet.refl s).withGau _)
  · exact ((State.Quiet.refl s).withGau _).bump _

theorem State.quiet_discardStaging (s : State) : s.Quiet s.discardStaging := (State.Quiet.refl s).withGau _

theorem State.quiet_commitDark (s : State) (p : Prog) : s.Quiet (s.commitDark p) := by
  unfold State.commitDark
  split
  · exact s.quiet_discardStaging.bump _
  · split
    · exact s.quiet_discardStaging.bump _
    · split
      · exact (((State.Quiet.refl s).withGau _).withGau _).bump _
      · exact s.quiet_discardStaging

theorem State.quiet_settleOwn (s : State) (t : Fin 32) : s.Quiet (s.settleOwn t) := by
  unfold State.settleOwn
  split
  · exact .refl s
  · exact (State.quiet_closeIfDone _ _).after ((State.Quiet.refl s).withGau _)

theorem State.quiet_dropBurst (s : State) : s.Quiet s.dropBurst := by
  unfold State.dropBurst
  split
  · exact ((State.Quiet.refl s).parserTo .hunt).bump _
  · exact .refl s

theorem State.quiet_ceaseFire (s : State) : s.Quiet s.ceaseFire := by
  have hdrop : s.Quiet (s.dropBurst.withFcu { s.dropBurst.fcu with drive := 0, shot := none }) :=
    s.quiet_dropBurst.trans (State.quiet_of_eq rfl rfl rfl rfl)
  exact (((hdrop.withGau _).bumpBy _ _).withPcu _).bumpBy _ _

theorem State.quiet_tripFcu (s : State) (cause : TripCause) (t : Fin 32) : s.Quiet (s.tripFcu cause t) := by
  unfold State.tripFcu
  refine State.Quiet.raise (State.Quiet.bump (s.quiet_ceaseFire.trans ?_) _) _
  exact State.quiet_of_eq rfl rfl rfl rfl

theorem State.quiet_feedServo (s : State) (p : Prog) (e : Nat) : s.Quiet (s.feedServo p e) := by
  have hset : ∀ v, s.Quiet (s.withFcu { s.fcu with servos := v }) := fun v => State.quiet_of_eq rfl rfl rfl rfl
  have hlock : ∀ (v : Vector Servo 4) (c : Option Ctr), s.Quiet (match c with
      | some c => (s.withFcu { s.fcu with servos := v }).bump c
      | none => s.withFcu { s.fcu with servos := v }) := by
    rintro v (- | c)
    · exact hset v
    · exact (hset v).bump c
  unfold State.feedServo
  dsimp only
  split
  · exact .refl s
  · split
    · exact (hlock _ _).raise _
    · exact hlock _ _

theorem State.quiet_judge (s : State) (sh : Shot) (e : Nat) : s.Quiet (s.judge sh e) := by
  have hmatch : s.Quiet (s.matchShot sh) := State.quiet_of_eq rfl rfl rfl rfl
  unfold State.judge
  split
  · unfold State.judgeFire
    dsimp only
    split
    · have hmark : (s.matchShot sh).Quiet ((s.matchShot sh).withFcu { (s.matchShot sh).fcu with
          shot := some { sh with headerTaken := true, weak := true }
          weakRun := (s.matchShot sh).fcu.weakRun + 1 }) := State.quiet_of_eq rfl rfl rfl rfl
      have hfed := ((State.quiet_feedServo _ sh.prog e).after ((hmatch.trans hmark).bump Ctr.weakShots)).bump
        (energyBin e (s.matchShot sh).progs[sh.prog].eRef)
      unfold State.judgeWeak
      dsimp only
      split
      · exact (State.quiet_tripFcu _ _ _).after hfed
      · exact hfed
    · split
      · refine State.Quiet.bump ((State.quiet_feedServo _ _ _).after (hmatch.trans ?_)) _
        exact State.quiet_of_eq rfl rfl rfl rfl
      · exact (State.quiet_tripFcu _ _ _).after (hmatch.bump _)
  · unfold State.judgeDark
    split
    · exact (State.quiet_tripFcu _ _ _).after hmatch
    · exact hmatch

theorem State.quiet_settleShot (s : State) (sh : Shot) (f : Fate) : s.Quiet (s.settleShot sh f) := by
  have hempty : s.Quiet (s.withFcu { s.fcu with shot := none }) := State.quiet_of_eq rfl rfl rfl rfl
  unfold State.settleShot
  dsimp only
  split
  · refine (State.quiet_settleOwn _ _).after ?_
    split
    · exact hempty
    · exact (State.quiet_discardStaging _).after hempty
  · exact hempty

theorem State.quiet_loseShot (s : State) (sh : Shot) : s.Quiet (s.loseShot sh) := by
  have hlost : s.Quiet (((s.settleShot sh .lost).bump Ctr.lostCaptures).withFcu
      { ((s.settleShot sh .lost).bump Ctr.lostCaptures).fcu with
        lostRun := ((s.settleShot sh .lost).bump Ctr.lostCaptures).fcu.lostRun + 1 }) :=
    ((s.quiet_settleShot sh .lost).bump Ctr.lostCaptures).trans (State.quiet_of_eq rfl rfl rfl rfl)
  unfold State.loseShot
  dsimp only
  split
  · exact (State.quiet_tripFcu _ _ _).after hlost
  · exact hlost

/-! ### The receiver -/

theorem State.quiet_settlePath (s : State) : s.Quiet s.settlePath := State.quiet_of_eq rfl rfl rfl rfl

theorem State.quiet_rejectCapture (s : State) (path : Bool) : s.Quiet (s.rejectCapture path) := by
  unfold State.rejectCapture
  dsimp only
  split
  · exact (State.quiet_settlePath _).after s.quiet_discardStaging
  · split
    · exact (State.quiet_settleShot _ _ _).after s.quiet_discardStaging
    · exact s.quiet_discardStaging

theorem State.quiet_rejectBurst (s : State) (b : Burst) : s.Quiet (s.rejectBurst b) :=
  (State.quiet_rejectCapture _ _).after ((State.Quiet.refl s).parserTo _)

theorem State.quiet_completeBurst (s : State) (b : Burst) : s.Quiet (s.completeBurst b) := by
  have hparser := (State.Quiet.refl s).parserTo .trail
  unfold State.completeBurst
  dsimp only
  split
  · exact (State.quiet_settlePath _).after (hparser.bump _)
  · split
    · exact hparser
    · split
      · split
        · exact (State.quiet_settleShot _ _ _).after hparser
        · refine (State.quiet_settleShot _ _ _).after ((hparser.bump Ctr.firedAccepted).trans ?_)
          exact State.quiet_of_eq (by simp) (by simp) (by simp) (by simp)
      · exact (State.quiet_settleShot _ _ _).after ((State.quiet_commitDark _ _).after (hparser.bump _))

theorem State.quiet_failHeader (s : State) : s.Quiet s.failHeader := ((State.Quiet.refl s).parserTo _).bumpBy _ _

/-- A header that fails is counted and discarded, and its capture rejected (R35, R36). -/
theorem State.quiet_failed (s : State) (c : Ctr) (path : Bool) :
    s.Quiet (((s.bump c).failHeader).rejectCapture path) :=
  (State.quiet_rejectCapture _ _).after ((State.quiet_failHeader _).after ((State.Quiet.refl s).bump _))

theorem State.quiet_pathHeader (s : State) (c : PathCapture) (m w : Word) : s.Quiet (s.pathHeader c m w) := by
  unfold State.pathHeader
  split
  · exact s.quiet_failed _ _
  · dsimp only
    split
    · exact (State.quiet_failed _ _ _).after (State.quiet_of_eq rfl rfl rfl rfl)
    · exact State.quiet_of_eq rfl rfl rfl rfl

theorem State.quiet_shotHeader (s : State) (sh : Shot) (m r w : Word) : s.Quiet (s.shotHeader sh m r w) := by
  have hjudge := s.quiet_judge sh (readingOf r)
  unfold State.shotHeader
  split
  · exact s.quiet_failed _ _
  · dsimp only
    split
    · exact (State.quiet_failHeader _).after (hjudge.bump _)
    · split
      · exact (State.quiet_failed _ _ _).after hjudge
      · exact hjudge.trans (State.quiet_of_eq (by simp) (by simp [State.enterSamples]) (by simp) (by simp))

theorem State.quiet_takeHeader (s : State) (m r w : Word) : s.Quiet (s.takeHeader m r w) := by
  have hstray : s.Quiet ((s.bump Ctr.strayBursts).failHeader) :=
    (State.quiet_failHeader _).after ((State.Quiet.refl s).bump _)
  unfold State.takeHeader
  split <;> split
  · exact s.quiet_pathHeader _ m w
  · exact hstray
  · exact s.quiet_shotHeader _ m r w
  · exact hstray

theorem State.quiet_compareWord (s : State) (b : Burst) (w : Word) : s.Quiet (s.compareWord b w) := by
  unfold State.compareWord
  split
  rename_i c err change _
  have hbase : s.Quiet ((s.withRsp { s.rsp with path := c }).bump Ctr.pathWordsCompared) := by
    refine State.Quiet.bump ?_ _
    exact State.quiet_of_eq rfl rfl rfl rfl
  have herr : s.Quiet (if err then ((s.withRsp { s.rsp with path := c }).bump Ctr.pathWordsCompared).bump
      Ctr.pathWordErrors else (s.withRsp { s.rsp with path := c }).bump Ctr.pathWordsCompared) := by
    split
    · exact hbase.bump _
    · exact hbase
  dsimp only
  cases change with
  | true => exact (herr.bump _).raise _
  | false => exact herr

theorem State.quiet_passSample (s : State) (k : Nat) (w : Word) : s.Quiet (s.passSample k w) := by
  have hbin : ∀ (u : State) (k c : Nat) (q : Bool), u.Quiet (u.binSample k c q) := fun _ _ _ _ =>
    State.quiet_of_eq (by simp) (by simp) (by simp) (by simp)
  refine (hbin _ _ _ _).after ?_
  split <;> split
  · exact ((State.Quiet.refl s).bump _).bump _
  · exact (State.Quiet.refl s).bump _
  · exact (State.Quiet.refl s).bump _
  · exact .refl s

theorem State.quiet_takeSample (s : State) (b : Burst) (w : Word) : s.Quiet (s.takeSample b w) := by
  have hsample : s.Quiet (if b.path then s.compareWord b w else s.passSample b.next w) := by
    split
    · exact s.quiet_compareWord b w
    · exact s.quiet_passSample b.next w
  unfold State.takeSample
  dsimp only
  split
  · exact (State.quiet_completeBurst _ _).after hsample
  · exact hsample.trans (State.quiet_of_eq rfl rfl rfl rfl)

theorem State.quiet_takeMark (s : State) (w : Word) : s.Quiet (s.takeMark w) := by
  unfold State.takeMark
  refine State.Quiet.parserTo ?_ _
  split
  · exact .refl s
  · exact .refl s
  · exact (State.Quiet.refl s).bumpBy _ _
  · exact ((State.quiet_rejectBurst _ _).after ((State.Quiet.refl s).bump _)).raise _

theorem State.quiet_takeOther (s : State) (w : Word) : s.Quiet (s.takeOther w) := by
  unfold State.takeOther
  split
  · exact (State.Quiet.refl s).bump _
  · exact (State.Quiet.refl s).parserTo _
  · exact s.quiet_takeHeader _ _ w
  · exact s.quiet_takeSample _ w
  · exact (State.Quiet.refl s).bump _

theorem State.quiet_reachSlip (s : State) : s.Quiet s.reachSlip := by
  unfold State.reachSlip
  split
  · exact (State.quiet_rejectBurst _ _).after ((State.Quiet.refl s).bump _)
  · exact ((State.Quiet.refl s).parserTo _).bumpBy _ _
  · exact (State.Quiet.refl s).parserTo _
  · exact (State.Quiet.refl s).parserTo _

/-- Items taken from the head of the elastic buffer (R32, R33). -/
theorem State.quiet_takeItems (s : State) {rest : List BufItem} (h : rest.Sublist s.rsp.buffer) :
    s.Quiet (s.withRsp { s.rsp with buffer := rest }) :=
  ⟨rfl, (h.filter _).length_le, .refl _⟩

theorem State.quiet_reachSlips (s : State) : s.Quiet s.reachSlips := by
  unfold State.reachSlips
  split
  · rename_i rest hbuf
    refine (State.quiet_reachSlip _).after (s.quiet_takeItems ?_)
    rw [hbuf]
    exact (List.dropWhile_sublist _).trans (List.sublist_cons_self _ _)
  · exact .refl s

theorem State.quiet_parserTakes (s : State) : s.Quiet s.parserTakes := by
  unfold State.parserTakes
  split
  · exact .refl s
  · exact s.quiet_reachSlips
  · rename_i w rest hbuf
    have htaken : s.Quiet (s.withRsp { s.rsp with buffer := rest }) :=
      s.quiet_takeItems (by rw [hbuf]; exact List.sublist_cons_self _ _)
    split
    · exact .refl s
    · refine (State.quiet_reachSlips _).after ?_
      dsimp only
      split
      · exact (State.quiet_takeMark _ _).after htaken
      · exact (State.quiet_takeOther _ _).after htaken

theorem State.quiet_truncate (s : State) : s.Quiet s.truncate := by
  unfold State.truncate
  split
  · exact ((State.quiet_rejectBurst _ _).after ((State.Quiet.refl s).bump _)).raise _
  · exact .refl s

theorem State.quiet_timeoutExpires (s : State) : s.Quiet s.timeoutExpires := by
  unfold State.timeoutExpires
  split
  · exact .refl s
  · have hended : s.Quiet (s.withFcu { s.fcu with burstTimer := none }) := State.quiet_of_eq rfl rfl rfl rfl
    dsimp only
    split
    · exact (State.quiet_settlePath _).after (hended.bump _)
    · split
      · exact (State.quiet_loseShot _ _).after hended
      · exact hended

theorem State.quiet_interlockOpens (s : State) : s.Quiet s.interlockOpens := by
  unfold State.interlockOpens
  split
  · have hopen : s.Quiet (s.withFcu { s.fcu with interlockClosed := false }) := State.quiet_of_eq rfl rfl rfl rfl
    dsimp only
    split
    · exact (State.quiet_tripFcu _ _ _).after hopen
    · refine State.Quiet.raise (State.Quiet.bump ?_ _) _
      exact State.quiet_of_eq rfl rfl rfl rfl
    · exact hopen.bump _
  · exact .refl s

/-! ### The SKU and the LTU -/

theorem State.quiet_skyStep (s : State) (m : Summary) : s.Quiet (s.skyStep m) := by
  have hstep := fun k q => ((State.Quiet.refl s).withSku k).bumpIf q Ctr.clearSuppressed
  unfold State.skyStep
  dsimp only
  split
  · exact ((hstep _ _).bump _).raise _
  · exact hstep _ _

theorem State.quiet_ceilingStep (s : State) : s.Quiet s.ceilingStep := by
  unfold State.ceilingStep
  dsimp only
  split
  · exact (((State.Quiet.refl s).withSku _).bump _).raise _
  · split
    · exact (((State.Quiet.refl s).withSku _).bump _).raise _
    · exact (State.Quiet.refl s).withSku _

theorem State.quiet_triggerStep (s : State) (a b : Bool) : s.Quiet (s.triggerStep a b) :=
  ((State.Quiet.refl s).withSku _).bumpBy _ _

theorem State.quiet_captureOutcome (s : State) (p : Prog) (e : Bool) : s.Quiet (s.captureOutcome p e) := by
  unfold State.captureOutcome
  dsimp only
  split
  · exact (State.Quiet.refl s).withSku _
  · exact ((State.Quiet.refl s).withSku _).bumpBy _ _

theorem State.quiet_reportStep (s : State) (m : Summary) : s.Quiet (s.reportStep m) := by
  unfold State.reportStep
  split
  · exact (((State.Quiet.refl s).withSku _).bump _).offer _ (by simp)
  · exact (State.Quiet.refl s).withSku _

theorem State.quiet_evaluate (s : State) (m : Summary) : s.Quiet (s.evaluate m) :=
  (State.quiet_reportStep _ m).after ((State.quiet_triggerStep _ _ _).after ((State.quiet_ceilingStep _).after
    ((State.quiet_skyStep _ m).after ((State.Quiet.refl s).bump _))))

theorem State.quiet_skyEmptied (s : State) : s.Quiet s.skyEmptied := by
  refine (State.quiet_triggerStep _ _ _).after ?_
  split
  · exact (((State.Quiet.refl s).withSku _).bump _).raise _
  · exact (State.Quiet.refl s).withSku _

/-- The counters and the notices of an update, and the evaluation of its summary (R128, R133, R136). -/
theorem State.quiet_tracking (s : State) (r : Tracking) (m : Summary) :
    s.Quiet (((s.countTracking r).raiseTracking r).evaluate m) := by
  have hcount : s.Quiet (s.countTracking r) := by
    unfold State.countTracking
    iterate 10 refine State.Quiet.bumpBy ?_ _ _
    exact (State.Quiet.refl s).bump _
  unfold State.raiseTracking
  exact (State.quiet_evaluate _ m).after ((((hcount.raiseTimes _ _).raiseTimes _ _).raiseTimes _ _).raiseTimes _ _)

theorem State.quiet_track (s : State) (d : Detection) : s.Quiet (s.track d) := by
  have hwork := State.quiet_tracking ((s.withLink s.link.hold).withLtu (s.ltu.update d).ltu) (s.ltu.update d)
    ((s.ltu.update d).summary d)
  exact ⟨hwork.window, hwork.words, .held hwork.link⟩

/-! ### The profile path -/

theorem State.quiet_condBegin (s : State) (b : Fin 6) (k : Fin 2) : s.Quiet (s.condBegin b k) := by
  unfold State.condBegin
  dsimp only
  split
  · exact ((((State.Quiet.refl s).withPcu _).bump _).withGau _).bump _
  · exact ((State.Quiet.refl s).withGau _).withPcu _

theorem State.quiet_condFinish (s : State) (j : PcuJob) : s.Quiet (s.condFinish j) := by
  have hcount : ∀ (u : State) (a : Arith) (q : Bool), u.Quiet (u.countArith a q) := fun u a q =>
    (((((((State.Quiet.refl u).bumpIf _ _).bumpIf _ _).bumpBy _ _).bumpIf _ _).bumpBy _ _).bumpIf _ _).bumpIf _ _
  rw [State.condFinish_eq]
  exact (((hcount _ _ _).after ((State.Quiet.refl s).withPcu _)).withGau _).bump _

theorem State.quiet_frameStep (s : State) (r : ResultRec) (c : Conditioned) (o : Bool) :
    s.Quiet (s.frameStep r c o) := by
  unfold State.frameStep
  split
  dsimp only
  split
  · have hoffer := fun (n : Nat) (q : Bool) (p : List Byte) =>
      ((((State.Quiet.refl s).withLdu { s.ldu with frameCount := s.ldu.frameCount.set r.prog n }).bump
        Ctr.profileFramesOffered).bumpIf q Ctr.captureFramesOffered).offer p (k := .profile) (by simp)
    split
    · exact (State.quiet_captureOutcome _ _ _).after (hoffer _ _ _)
    · exact hoffer _ _ _
  · exact (State.Quiet.refl s).withLdu _

theorem State.quiet_releaseBuf (s : State) (k : Fin 2) (r : ResultRec) (f : Found) :
    s.Quiet (s.releaseBuf k r f) := ((State.Quiet.refl s).withPcu _).withLdu _

theorem State.quiet_finishUnobserved (s : State) (k : Fin 2) (r : ResultRec) :
    s.Quiet (s.finishUnobserved k r) := by
  refine State.Quiet.bump ((State.quiet_releaseBuf _ _ _ _).after ?_) _
  split
  · exact (State.quiet_frameStep _ _ _ _).after ((State.Quiet.refl s).bump _)
  · exact .refl s

theorem State.quiet_countScan (s : State) (k : Scan) (f : Found) (a : Bool) : s.Quiet (s.countScan k f a) := by
  have hcount := (((((State.Quiet.refl s).bump Ctr.profilesDetected).bumpBy Ctr.candidatesFound
    k.cands.length).bumpBy Ctr.candidatesDropped k.drops).bumpIf f.obscured Ctr.profilesObscured).bumpIf a
    Ctr.vvAtReach
  unfold State.countScan
  dsimp only
  split
  · exact (hcount.bump _).raise _
  · exact hcount

theorem State.quiet_detFinish (s : State) (j : LduJob) : s.Quiet (s.detFinish j) := by
  unfold State.detFinish
  split
  · exact (State.Quiet.refl s).withLdu _
  · split
    · unfold State.finishDetected
      dsimp only
      exact (State.quiet_track _ _).after ((State.quiet_releaseBuf _ _ _ _).after
        ((State.quiet_frameStep _ _ _ _).after (s.quiet_countScan _ _ _)))
    · exact s.quiet_finishUnobserved _ _

theorem State.quiet_detBegin (s : State) (k : Fin 2) : s.Quiet (s.detBegin k) := by
  have htaken : ∀ on, s.Quiet (s.detTaken k on) := fun _ => ((State.Quiet.refl s).withPcu _).withLdu _
  obtain ⟨on, h⟩ | h := s.detBegin_cases k <;> rw [h]
  · exact htaken _
  · exact (State.quiet_detFinish _ _).after (htaken _)

theorem State.quiet_countWait (s : State) : s.Quiet s.countWait := by
  obtain h | ⟨b, -, -, h⟩ := s.countWait_eq <;> rw [h]
  · exact .refl s
  · exact ((State.Quiet.refl s).withGau _).bump _

theorem State.quiet_moveProfiles (s : State) : s.Quiet s.moveProfiles :=
  State.moveProfiles_rel .refl .trans State.quiet_condBegin State.quiet_detBegin State.quiet_countWait s

theorem State.quiet_beginConditioning (s : State) : s.Quiet s.beginConditioning := by
  unfold State.beginConditioning
  split
  · exact (State.quiet_moveProfiles _).after (s.quiet_condBegin _ _)
  · exact .refl s

theorem State.quiet_completeConditioning (s : State) : s.Quiet s.completeConditioning := by
  unfold State.completeConditioning
  split
  · exact (State.quiet_moveProfiles _).after (s.quiet_condFinish _)
  · exact .refl s

theorem State.quiet_beginDetection (s : State) : s.Quiet s.beginDetection := by
  unfold State.beginDetection
  split
  · exact (State.quiet_moveProfiles _).after (s.quiet_detBegin _)
  · exact .refl s

theorem State.quiet_completeDetection (s : State) : s.Quiet s.completeDetection := by
  unfold State.completeDetection
  split
  · exact (State.quiet_moveProfiles _).after (s.quiet_detFinish _)
  · exact .refl s

theorem State.quiet_commitEnds (s : State) : s.Quiet s.commitEnds :=
  State.quiet_of_eq (by simp) (by simp) (by simp) (by simp)

/-! ### Slot times -/

theorem State.quiet_fireShot (s : State) (p : Prog) : s.Quiet (s.fireShot p) := by
  refine State.Quiet.bump ?_ _
  exact State.quiet_of_eq rfl rfl rfl rfl

theorem State.quiet_fireDark (s : State) (p : Prog) : s.Quiet (s.fireDark p) := by
  refine State.Quiet.bump ?_ _
  exact State.quiet_of_eq rfl rfl rfl rfl

theorem State.quiet_holdBudget (s : State) : s.Quiet s.holdBudget := by
  unfold State.holdBudget
  dsimp only
  split
  · exact (State.Quiet.refl s).bump _
  · refine State.Quiet.raise (((State.Quiet.refl s).bump Ctr.withheldBudget).trans ?_) _
    exact State.quiet_of_eq rfl rfl rfl rfl

/-- A slot time is quiet but for the charge that enters the window at its end (R3, R10). -/
theorem State.slot_quiet (s : State) : ∃ u n, s.Quiet u ∧ s.slot = u.enterCharge n := by
  have hfire : ∀ (u : State) (p : Prog) (b : Fin 6), ∃ v n, u.Quiet v ∧ u.fireSlot p b = v.enterCharge n := by
    intro u p b
    unfold State.fireSlot
    split
    · exact ⟨_, 0, (State.quiet_countSlot _ _ _).after ((State.Quiet.refl u).bump _), rfl⟩
    · split
      · exact ⟨_, _, (State.quiet_countSlot _ _ _).after (u.quiet_fireShot p), rfl⟩
      · exact ⟨_, _, (State.quiet_countSlot _ _ _).after u.quiet_holdBudget, rfl⟩
  have hrunning : ∀ u : State, ∃ v n, u.Quiet v ∧ u.slotRunning = v.enterCharge n := by
    intro u
    unfold State.slotRunning
    split
    · exact ⟨u, 0, .refl u, rfl⟩
    · split
      · split
        · exact ⟨_, 0, (State.Quiet.refl u).bump _, rfl⟩
        · exact ⟨_, 0, u.quiet_fireDark _, rfl⟩
      · exact ⟨u, 0, .refl u, rfl⟩
    · rename_i p _
      split
      · have hrequest := u.quiet_bankRequest p
        split <;> rename_i heq <;> rw [heq] at hrequest
        · obtain ⟨v, n, hv, h⟩ := hfire _ p _
          exact ⟨v, n, hrequest.trans hv, h⟩
        · exact ⟨_, 0, hrequest, rfl⟩
      · exact ⟨u, 0, .refl u, rfl⟩
  have hbegun : s.Quiet (s.withFcu s.fcu.slotBegun) := State.quiet_of_eq rfl rfl rfl rfl
  unfold State.slot
  dsimp only
  split
  · obtain ⟨v, n, hv, h⟩ := hrunning (s.withFcu s.fcu.slotBegun)
    exact ⟨v, n, hbegun.trans hv, h⟩
  · refine ⟨_, 0, hbegun.trans ?_, rfl⟩
    split
    · unfold State.pathSlot
      dsimp only
      split
      · exact State.quiet_of_eq rfl rfl rfl rfl
      · exact .refl _
    · exact .refl _

end Sys2Proof.Machine
end

section
/-! Invariants of the line: an induction over the events for a predicate of the SLC and its counters. The sizes
of the stores, the tables and the counters (R10, R31, R152, R155, I.5). -/

namespace Sys2Proof.Machine

/-! ### Invariants of the line, packaged once -/

/-- Two SLCs with the same stores inward and outward, whatever their settings. -/
def Slc.sameStores (a b : Slc) : Prop :=
  a.inbound = b.inbound ∧ a.queue = b.queue ∧ a.responses = b.responses ∧ a.current = b.current
    ∧ a.stack = b.stack ∧ a.phase = b.phase

/-- A predicate that the working of the line keeps: raises and offers, settings, blocks that arrive, commands
that are taken, blocks that complete, a power-on reset. -/
structure LineInvariant (Q : State → Prop) : Prop where
  link : ∀ {s : State} {m : Link}, s.link.Reaches m → Q s → Q (s.withLink m)
  listen : ∀ {s : State} {l : Slc}, l.sameStores s.slc → Q s → Q (s.withSlc l)
  arrive : ∀ (s : State) (b : InBlock), s.slc.inbound.length < Config.inboundSlots → Q s →
    Q (s.withSlc { s.slc with inbound := s.slc.inbound ++ [b] })
  take : ∀ (s : State) (b : InBlock) (rest : List InBlock), s.slc.inbound = b :: rest → s.canTake = true → Q s →
    Q (s.takeCommand b rest)
  completes : ∀ s : State, Q s → Q s.blockCompletes
  powerOn : ∀ (s : State) rate, Q s → Q (s.powerOnReset rate)

theorem State.takeLoop_induct {Q : State → Prop} (htake : ∀ (s : State) (b : InBlock) (rest : List InBlock),
    s.slc.inbound = b :: rest → s.canTake = true → Q s → Q (s.takeCommand b rest)) (n : Nat) {s : State} (hs : Q s) :
    Q (State.takeLoop n s) := by
  induction n generalizing s with
  | zero => exact hs
  | succ n ih =>
    unfold State.takeLoop
    split
    · split
      · exact ih (htake s _ _ ‹_› ‹_› hs)
      · exact hs
    · exact hs

namespace LineInvariant

variable {Q : State → Prop}

theorem bump (h : LineInvariant Q) {s : State} (c : Ctr) (hs : Q s) : Q (s.bump c) := h.link (.bumpBy s.link c 1) hs

theorem raise (h : LineInvariant Q) {s : State} (k : NoticeKind) (hs : Q s) : Q (s.raise k) :=
  h.link (.raise s.link k) hs

theorem serve (h : LineInvariant Q) {s : State} (hs : Q s) : Q s.serve := State.takeLoop_induct h.take _ hs

theorem deliver (h : LineInvariant Q) {s : State} (b : InBlock) (hs : Q s) : Q (s.deliver b) := by
  unfold State.deliver
  split
  · exact h.serve (h.bump _ (h.arrive s b ‹_› hs))
  · exact h.raise _ (h.bump _ hs)

theorem settings (h : LineInvariant Q) {s : State} (l : Slc)
    (hl : l.sameStores s.slc := by exact ⟨rfl, rfl, rfl, rfl, rfl, rfl⟩) (hs : Q s) : Q (s.withSlc l) :=
  h.listen hl hs

theorem dropInbound (h : LineInvariant Q) {s : State} (c : Ctr) (hs : Q s) : Q (s.dropInbound c) :=
  h.bump _ (h.settings _ (hs := hs))

theorem character (h : LineInvariant Q) {s : State} (c : Byte) (ok : Bool) (hs : Q s) : Q (s.character c ok) := by
  have hgap : Q (s.withSlc { s.slc with gapTimeout := s.slc.charTimeout }) := h.settings _ (hs := hs)
  have hlisten : ∀ p, Q ((s.withSlc { s.slc with gapTimeout := s.slc.charTimeout }).listen p) := fun p =>
    h.settings _ (hs := hgap)
  unfold State.character
  dsimp only
  split
  · unfold State.goodChar
    split
    · split
      · exact hlisten _
      · exact hgap
    · split
      · exact hlisten _
      · unfold State.headerDone
        split
        · exact h.dropInbound _ hgap
        · split <;> exact hlisten _
    · split <;> exact hlisten _
    · exact hlisten _
    · unfold State.crcDone
      split
      · exact h.deliver _ (hlisten _)
      · exact h.dropInbound _ hgap
  · unfold State.badChar
    split
    · exact hgap
    · exact h.dropInbound _ hgap

theorem gapExpires (h : LineInvariant Q) {s : State} (hs : Q s) : Q s.gapExpires := by
  unfold State.gapExpires
  split
  · exact hs
  · exact h.dropInbound _ hs

theorem intervalCheck (h : LineInvariant Q) {s : State} (hs : Q s) : Q s.intervalCheck := by
  unfold State.intervalCheck
  split
  · have hzero : Q (s.withSlc { s.slc with elapsed := 0 }) := h.settings _ (hs := hs)
    have hoffer := h.link (.offer (s.withSlc { s.slc with elapsed := 0 }).link
      (k := .interval) (intervalPayload (s.withSlc { s.slc with elapsed := 0 })) (by simp)) hzero
    unfold State.offerInterval
    split <;> rename_i heq <;> have hfst := congrArg Prod.fst heq <;> dsimp only at hfst
    · exact h.bump _ (h.settings _ (hs := hfst ▸ hoffer))
    · exact hfst ▸ hoffer
  · exact hs

theorem microsecond (h : LineInvariant Q) {s : State} (hs : Q s) : Q s.microsecond := by
  unfold State.microsecond
  split
  · exact h.settings _ (hs := hs)
  · unfold State.wholeSecond
    exact h.intervalCheck (h.settings _ (hs := h.settings _ (hs := hs)))

/-- Every command row and every event of the line keeps an invariant of the line; so does every other event,
where quiet events, slot times and arriving words are shown to. -/
theorem exec (h : LineInvariant Q) {c : Instr} {s t : State} (hs : Q s) (hquiet : s.Quiet t → Q t)
    (hslot : c = .slotTime → Q t) (hword : ∀ w, c = .sampleWordArrival w → Q t)
    (he : Machine.exec c s = .next t) : Q t := by
  cases hrow : commandRow c with
  | some b =>
    rw [exec_commandRow s hrow] at he
    cases he
    exact h.deliver b hs
  | none =>
    cases c with
    | powerOnReset rate => cases he; exact h.powerOn s rate hs
    | slotTime => exact hslot rfl
    | interlockOpens => cases he; exact hquiet s.quiet_interlockOpens
    | burstTimeout => cases he; exact hquiet ((State.quiet_moveProfiles _).after s.quiet_timeoutExpires)
    | sampleWordArrival w => exact hword w rfl
    | parserTakesWord => cases he; exact hquiet ((State.quiet_moveProfiles _).after s.quiet_parserTakes)
    | truncationTimerExpiry => cases he; exact hquiet ((State.quiet_moveProfiles _).after s.quiet_truncate)
    | commitEnd => cases he; exact hquiet s.quiet_commitEnds
    | conditioningBegin => cases he; exact hquiet s.quiet_beginConditioning
    | conditioningComplete => cases he; exact hquiet s.quiet_completeConditioning
    | detectionBegin => cases he; exact hquiet s.quiet_beginDetection
    | detectionComplete => cases he; exact hquiet s.quiet_completeDetection
    | inboundCharacter c ok => cases he; exact h.character c ok hs
    | interCharacterTimeout => cases he; exact h.gapExpires hs
    | blockComplete => cases he; exact h.completes s hs
    | intervalDue => cases he; exact h.intervalCheck hs
    | interlockCloses => cases he; exact hquiet (State.quiet_of_eq rfl rfl rfl rfl)
    | timebaseAdvance => cases he; exact h.microsecond hs
    | _ => simp [commandRow] at hrow

end LineInvariant

/-! ### What a command does to the line -/

/-- A command leaves the stores of the line to raises and attempts: before them it changes settings alone. -/
theorem State.command_line (s : State) (b : List Byte) (c : Command) :
    (∃ l : Slc, l.sameStores s.slc ∧ Link.Reaches ⟨l, s.ctrs⟩ (c.run s b).st.link)
      ∨ ∃ first n l, l.sameStores s.slc ∧ (c.run s b).st.link = ⟨l, s.ctrs.clear first n⟩ := by
  have hsame : s.slc.sameStores s.slc := ⟨rfl, rfl, rfl, rfl, rfl, rfl⟩
  have hquiet : ∀ t, s.Quiet t → ∃ l : Slc, l.sameStores s.slc ∧ Link.Reaches ⟨l, s.ctrs⟩ t.link := fun t h =>
    ⟨s.slc, hsame, h.link⟩
  have hrefl : s.Quiet s := .refl s
  have hfcu : ∀ f : Fcu, f.window = s.fcu.window → s.Quiet (s.withFcu f) := fun f hf =>
    State.quiet_of_eq hf rfl rfl rfl
  cases c <;> simp only [Command.run, State.resetTracks, State.injectCrc, State.readTracks, State.softReset]
  case readCounters =>
    unfold State.readCounters
    split
    · exact .inl (hquiet _ hrefl)
    · rename_i first n clear _
      dsimp only
      cases clear with
      | true =>
        exact .inr ⟨first, n, { s.slc with snapshots := clearSnapshots s.slc.snapshots first n }, hsame, rfl⟩
      | false => exact .inl (hquiet _ hrefl)
  all_goals refine .inl ?_
  case setProgram =>
    obtain h1 | ⟨-, _, _, h1⟩ := s.setProgram_st b <;> rw [h1] <;> apply hquiet
    · exact hrefl
    · exact State.quiet_of_eq rfl rfl rfl rfl
  case setFiring => obtain h1 | ⟨_, h1⟩ := s.setFiring_st b <;> rw [h1] <;> exact hquiet _ (hfcu _ rfl)
  case setSchedule => obtain h1 | ⟨_, h1⟩ := s.setSchedule_st b <;> rw [h1] <;> exact hquiet _ (hfcu _ rfl)
  case start =>
    obtain h1 | ⟨-, h1⟩ := s.start_st <;> rw [h1] <;> exact hquiet _ (State.quiet_of_eq rfl rfl rfl rfl)
  case stop =>
    obtain h1 | ⟨-, h1⟩ := s.stop_st <;> rw [h1] <;> apply hquiet
    · exact hrefl
    · exact s.quiet_ceaseFire.trans (State.quiet_of_eq (by simp) rfl rfl rfl)
  case clearTrip => obtain h1 | ⟨-, h1⟩ := s.clearTrip_st <;> rw [h1] <;> exact hquiet _ (hfcu _ rfl)
  case loadGates => obtain h1 | ⟨_, _, h1⟩ := s.loadGates_st b <;> rw [h1] <;> exact hquiet _ (hrefl.withGau _)
  case loadCorrection =>
    obtain h1 | h1 | ⟨_, _, h1⟩ := s.loadCorrection_st b <;> rw [h1] <;> apply hquiet
    · exact hrefl
    · exact hrefl.bump _
    · exact hrefl.withPcu _
  case loadThresholds =>
    obtain h1 | h1 | ⟨_, _, h1⟩ := s.loadThresholds_st b <;> rw [h1] <;> apply hquiet
    · exact hrefl
    · exact hrefl.bump _
    · exact hrefl.withLdu _
  case setTracking =>
    obtain h1 | ⟨_, h1⟩ := s.setTracking_st b <;> rw [h1] <;> apply hquiet
    · exact hrefl
    · exact (hrefl.withLtu _).bump _
  case resetTracks => exact hquiet _ ((State.quiet_skyEmptied _).after ((hrefl.withLtu _).bumpBy _ _))
  case setSky => obtain h1 | ⟨_, h1⟩ := s.setSky_st b <;> rw [h1] <;> exact hquiet _ (hrefl.withSku _)
  case setCapture => obtain h1 | ⟨_, h1⟩ := s.setCapture_st b <;> rw [h1] <;> exact hquiet _ (hrefl.withSku _)
  case injectEcho =>
    obtain h1 | ⟨_, h1 | h1⟩ := s.injectEcho_st b <;> rw [h1] <;> apply hquiet
    · exact hrefl
    · exact hrefl.withPcu _
    · exact (hrefl.withPcu _).bump _
  case pathCheck =>
    obtain h1 | ⟨-, _, -, h1⟩ := s.pathCheck_st b <;> rw [h1] <;> exact hquiet _ (State.quiet_of_eq rfl rfl rfl rfl)
  case setReporting =>
    unfold State.setReporting
    split
    · exact hquiet _ hrefl
    · refine ⟨_, ?_, .attempt _⟩
      exact hsame
  case timeMark =>
    unfold State.timeMark
    split
    · exact hquiet _ hrefl
    · rename_i sec usec _
      have hbump := Link.Reaches.bumpBy ⟨{ s.slc with time := ⟨sec, usec, true⟩ }, s.ctrs⟩ Ctr.timeMarks 1
      refine ⟨{ s.slc with time := ⟨sec, usec, true⟩ }, hsame, ?_⟩
      simp only [State.mark]
      split
      · exact (hbump.trans (.bumpBy _ Ctr.timeSteps 1)).trans (.raise _ _)
      · exact hbump
  case readStatus => rw [s.readStatus_st b]; exact hquiet _ hrefl
  all_goals exact hquiet _ (State.quiet_of_eq rfl rfl rfl rfl)

theorem State.execute_st (s : State) (b : InBlock) :
    (s.execute b).st = s ∨ ∃ c : Command, (s.execute b).st = (c.run s b.payload).st := by
  unfold State.execute
  split
  · split
    · exact .inl rfl
    · rename_i c _
      split
      · exact .inr ⟨c, rfl⟩
      · exact .inl rfl
  · exact .inl rfl

end Sys2Proof.Machine
end

section
/-! The tables stay canonical, the stores within their sizes and the counters within 32 bits (R10, R31, R152,
R155, I.5). -/

namespace Sys2Proof.Machine

/-! ### The tables -/

/-- The three tables of `t` are those of `s`. -/
def State.sameTables (s t : State) : Prop :=
  t.gau.gateMap = s.gau.gateMap ∧ t.pcu.corrTable = s.pcu.corrTable ∧ t.ldu.thrTable = s.ldu.thrTable

theorem State.sameTables.trans {s u t : State} (h : s.sameTables u) (k : u.sameTables t) : s.sameTables t :=
  ⟨k.1.trans h.1, k.2.1.trans h.2.1, k.2.2.trans h.2.2⟩

theorem State.sameTables.tablesWf {s t : State} (h : s.sameTables t) (hs : s.tablesWf) : t.tablesWf := by
  obtain ⟨hg, hc, ht⟩ := h
  rwa [State.tablesWf, hg, hc, ht]

theorem State.Gathers.sameTables {s t : State} (h : s.Gathers t) : s.sameTables t := by
  obtain ⟨bs, h⟩ := h
  obtain ⟨v, hp⟩ := h.pcu
  exact ⟨h.gateMap, by rw [hp], by rw [h.ldu]⟩

theorem State.sameTables_condBegin (s : State) (b : Fin 6) (k : Fin 2) : s.sameTables (s.condBegin b k) := by
  unfold State.condBegin
  dsimp only
  split <;> exact ⟨rfl, rfl, rfl⟩

theorem State.sameTables_condFinish (s : State) (j : PcuJob) : s.sameTables (s.condFinish j) := by
  obtain ⟨hg, v, hp⟩ := s.condFinish_path j
  exact ⟨by rw [hg]; rfl, by rw [hp]; rfl, by simp⟩

theorem State.sameTables_detFinish (s : State) (j : LduJob) : s.sameTables (s.detFinish j) := by
  obtain ⟨-, h⟩ | ⟨hp, d, v, hd, -⟩ := s.detFinish_path j
  · rw [h]
    exact ⟨rfl, rfl, rfl⟩
  · exact ⟨by simp, by rw [hp]; rfl, by rw [hd]⟩

theorem State.sameTables_detBegin (s : State) (k : Fin 2) : s.sameTables (s.detBegin k) := by
  obtain ⟨on, h⟩ | h := s.detBegin_cases k <;> rw [h]
  · exact ⟨rfl, rfl, rfl⟩
  · have hfinish := (s.detTaken k none).sameTables_detFinish ⟨k, none⟩
    exact ⟨hfinish.1, hfinish.2.1, hfinish.2.2⟩

theorem State.sameTables_countWait (s : State) : s.sameTables s.countWait := by
  refine ⟨?_, by simp, by simp⟩
  obtain h | ⟨b, -, -, h⟩ := s.countWait_eq <;> rw [h]
  rfl

theorem State.sameTables_moveProfiles (s : State) : s.sameTables s.moveProfiles :=
  State.moveProfiles_rel (fun _ => ⟨rfl, rfl, rfl⟩) .trans State.sameTables_condBegin State.sameTables_detBegin
    State.sameTables_countWait s

theorem State.Gathers.moveProfiles_tablesWf {s t : State} (h : s.Gathers t) (hs : s.tablesWf) :
    t.moveProfiles.tablesWf := (h.sameTables.trans t.sameTables_moveProfiles).tablesWf hs

theorem State.command_tablesWf (s : State) (b : List Byte) (c : Command) (h : s.tablesWf) :
    (c.run s b).st.tablesWf := by
  obtain ⟨hg, hc, ht⟩ := id h
  cases c <;> simp only [Command.run, State.resetTracks, State.injectCrc, State.readTracks, State.softReset]
  case setProgram =>
    obtain h1 | ⟨-, _, _, h1⟩ := s.setProgram_st b <;> rw [h1]
    · exact h
    · refine State.sameTables.tablesWf (s := s) ⟨rfl, ?_, rfl⟩ h
      simp only [State.writeProgram]
      split <;> rfl
  case setFiring => obtain h1 | ⟨_, h1⟩ := s.setFiring_st b <;> rw [h1] <;> exact h
  case setSchedule => obtain h1 | ⟨_, h1⟩ := s.setSchedule_st b <;> rw [h1] <;> exact h
  case start => obtain h1 | ⟨-, h1⟩ := s.start_st <;> rw [h1] <;> exact h
  case stop =>
    obtain h1 | ⟨-, h1⟩ := s.stop_st <;> rw [h1]
    · exact h
    · exact s.closes_ceaseFire.gathers.sameTables.tablesWf h
  case clearTrip => obtain h1 | ⟨-, h1⟩ := s.clearTrip_st <;> rw [h1] <;> exact h
  case loadGates =>
    obtain h1 | ⟨_, _, h1⟩ := s.loadGates_st b <;> rw [h1]
    · exact h
    · exact ⟨Tab.writeRun_wf hg, hc, ht⟩
  case loadCorrection =>
    obtain h1 | h1 | ⟨_, _, h1⟩ := s.loadCorrection_st b <;> rw [h1]
    · exact h
    · exact h
    · exact ⟨hg, Tab.writeRun_wf hc, ht⟩
  case loadThresholds =>
    obtain h1 | h1 | ⟨_, _, h1⟩ := s.loadThresholds_st b <;> rw [h1]
    · exact h
    · exact h
    · exact ⟨hg, hc, Tab.writeRun_wf ht⟩
  case setTracking => obtain h1 | ⟨_, h1⟩ := s.setTracking_st b <;> rw [h1] <;> exact h
  case resetTracks => exact State.sameTables.tablesWf ⟨by simp, by simp, by simp⟩ h
  case setSky => obtain h1 | ⟨_, h1⟩ := s.setSky_st b <;> rw [h1] <;> exact h
  case setCapture => obtain h1 | ⟨_, h1⟩ := s.setCapture_st b <;> rw [h1] <;> exact h
  case injectEcho => obtain h1 | ⟨_, h1 | h1⟩ := s.injectEcho_st b <;> rw [h1] <;> exact h
  case pathCheck => obtain h1 | ⟨-, _, -, h1⟩ := s.pathCheck_st b <;> rw [h1] <;> exact h
  case setReporting => obtain ⟨_, h1⟩ := s.setReporting_st b; rw [h1]; exact h
  case timeMark => obtain ⟨_, h1⟩ := s.timeMark_st b; rw [h1]; exact h
  case readStatus => rwa [s.readStatus_st b]
  case readCounters => obtain ⟨_, h1⟩ := s.readCounters_st b; rw [h1]; exact h
  all_goals exact h

/-- The canonical form of the tables as a block invariant. -/
theorem tablesWf_invariant : BlockInvariant State.tablesWf where
  line _ _ h := h
  command := State.command_tablesWf
  softReset _ _ := ⟨rfl, rfl, rfl⟩
  powerOn _ _ _ := ⟨rfl, rfl, rfl⟩
  opens s h := s.closes_interlockOpens.gathers.sameTables.tablesWf h
  closes _ h := h
  timeout s h := s.gathers_timeoutExpires.moveProfiles_tablesWf h
  word s w h := State.sameTables.tablesWf ⟨by simp, by simp, by simp⟩ h
  parser s h := s.gathers_parserTakes.moveProfiles_tablesWf h
  truncation s h := s.gathers_truncate.moveProfiles_tablesWf h
  commit s h := s.closes_commitEnds.gathers.sameTables.tablesWf h
  condBegins s h := by
    unfold State.beginConditioning
    split
    · exact ((s.sameTables_condBegin _ _).trans (State.sameTables_moveProfiles _)).tablesWf h
    · exact h
  condCompletes s h := by
    unfold State.completeConditioning
    split
    · exact ((s.sameTables_condFinish _).trans (State.sameTables_moveProfiles _)).tablesWf h
    · exact h
  detBegins s h := by
    unfold State.beginDetection
    split
    · exact ((s.sameTables_detBegin _).trans (State.sameTables_moveProfiles _)).tablesWf h
    · exact h
  detCompletes s h := by
    unfold State.completeDetection
    split
    · exact ((s.sameTables_detFinish _).trans (State.sameTables_moveProfiles _)).tablesWf h
    · exact h

/-! ### The stores -/

/-- A command leaves the budget window and the elastic buffer alone. -/
theorem State.command_window (s : State) (b : List Byte) (c : Command) :
    (c.run s b).st.fcu.window = s.fcu.window ∧ (c.run s b).st.rsp.buffer = s.rsp.buffer := by
  cases c <;> simp only [Command.run, State.resetTracks, State.injectCrc, State.readTracks, State.softReset]
  case setProgram => obtain h1 | ⟨-, _, _, h1⟩ := s.setProgram_st b <;> rw [h1] <;> exact ⟨rfl, rfl⟩
  case setFiring => obtain h1 | ⟨_, h1⟩ := s.setFiring_st b <;> rw [h1] <;> exact ⟨rfl, rfl⟩
  case setSchedule => obtain h1 | ⟨_, h1⟩ := s.setSchedule_st b <;> rw [h1] <;> exact ⟨rfl, rfl⟩
  case start => obtain h1 | ⟨-, h1⟩ := s.start_st <;> rw [h1] <;> exact ⟨rfl, rfl⟩
  case stop =>
    obtain h1 | ⟨-, h1⟩ := s.stop_st <;> rw [h1]
    · exact ⟨rfl, rfl⟩
    · refine ⟨rfl, ?_⟩
      rw [State.withFcu_rsp, State.ceaseFire_rsp, State.dropBurst]
      split <;> rfl
  case clearTrip => obtain h1 | ⟨-, h1⟩ := s.clearTrip_st <;> rw [h1] <;> exact ⟨rfl, rfl⟩
  case loadGates => obtain h1 | ⟨_, _, h1⟩ := s.loadGates_st b <;> rw [h1] <;> exact ⟨rfl, rfl⟩
  case loadCorrection =>
    obtain h1 | h1 | ⟨_, _, h1⟩ := s.loadCorrection_st b <;> rw [h1] <;> exact ⟨rfl, rfl⟩
  case loadThresholds =>
    obtain h1 | h1 | ⟨_, _, h1⟩ := s.loadThresholds_st b <;> rw [h1] <;> exact ⟨rfl, rfl⟩
  case setTracking => obtain h1 | ⟨_, h1⟩ := s.setTracking_st b <;> rw [h1] <;> exact ⟨rfl, rfl⟩
  case resetTracks => simp
  case setSky => obtain h1 | ⟨_, h1⟩ := s.setSky_st b <;> rw [h1] <;> exact ⟨rfl, rfl⟩
  case setCapture => obtain h1 | ⟨_, h1⟩ := s.setCapture_st b <;> rw [h1] <;> exact ⟨rfl, rfl⟩
  case injectEcho => obtain h1 | ⟨_, h1 | h1⟩ := s.injectEcho_st b <;> rw [h1] <;> exact ⟨rfl, rfl⟩
  case pathCheck => obtain h1 | ⟨-, _, -, h1⟩ := s.pathCheck_st b <;> rw [h1] <;> exact ⟨rfl, rfl⟩
  case setReporting => obtain ⟨_, h1⟩ := s.setReporting_st b; rw [h1]; exact ⟨rfl, rfl⟩
  case timeMark => obtain ⟨_, h1⟩ := s.timeMark_st b; rw [h1]; exact ⟨rfl, rfl⟩
  case readStatus => rw [s.readStatus_st b]; exact ⟨rfl, rfl⟩
  case readCounters => obtain ⟨_, h1⟩ := s.readCounters_st b; rw [h1]; exact ⟨rfl, rfl⟩
  all_goals simp

theorem State.execute_window (s : State) (b : InBlock) :
    (s.execute b).st.fcu.window = s.fcu.window ∧ (s.execute b).st.rsp.buffer = s.rsp.buffer := by
  obtain h | ⟨c, h⟩ := s.execute_st b <;> rw [h]
  · exact ⟨rfl, rfl⟩
  · exact s.command_window b.payload c

/-- A command leaves the inbound queue and the suspension stack alone. -/
theorem State.execute_inbound (s : State) (b : InBlock) :
    (s.execute b).st.slc.inbound = s.slc.inbound ∧ (s.execute b).st.slc.stack = s.slc.stack := by
  obtain h | ⟨c, h⟩ := s.execute_st b <;> rw [h]
  · exact ⟨rfl, rfl⟩
  · obtain ⟨l, ⟨hi, -, -, -, hs, -⟩, hreach⟩ | ⟨first, n, l, ⟨hi, -, -, -, hs, -⟩, heq⟩ :=
      s.command_line b.payload c
    · obtain ⟨⟨-, -, -, -, hinbound, -⟩, hstack⟩ := hreach.settings
      exact ⟨hinbound.trans hi, hstack.trans hs⟩
    · have hslc := congrArg Link.slc heq
      rw [State.link_slc] at hslc
      rw [hslc]
      exact ⟨hi, hs⟩

/-- What a taken command leaves of the stores that it does not answer through. -/
theorem State.takeCommand_stores (s : State) (b : InBlock) (rest : List InBlock) :
    (s.takeCommand b rest).fcu.window = s.fcu.window ∧ (s.takeCommand b rest).rsp.buffer = s.rsp.buffer
      ∧ (s.takeCommand b rest).slc.inbound = rest ∧ (s.takeCommand b rest).slc.stack = s.slc.stack := by
  have hwindow := ((s.withSlc { s.slc with inbound := rest }).bump Ctr.commandsTaken).execute_window b
  have hinbound := ((s.withSlc { s.slc with inbound := rest }).bump Ctr.commandsTaken).execute_inbound b
  have hput := fun (u : State) (t : Byte) (p : List Byte) (a : AfterSend) => Link.putResponse_settings u.link t p a
  unfold State.takeCommand
  dsimp only
  refine ⟨by simpa using hwindow.1, by simpa using hwindow.2, ?_, ?_⟩
  · unfold Answer.respond
    dsimp only [State.withLink_slc]
    obtain ⟨⟨-, -, -, -, hi, -⟩, -⟩ := hput _ _ _ _
    rw [hi]
    simpa using hinbound.1
  · unfold Answer.respond
    dsimp only [State.withLink_slc]
    rw [(hput _ _ _ _).2]
    simpa using hinbound.2

theorem State.storesBounded_of_eq {s t : State} (h : s.storesBounded) (hw : t.fcu.window = s.fcu.window)
    (hb : t.rsp.occupancy ≤ s.rsp.occupancy) (hi : t.slc.inbound.length ≤ s.slc.inbound.length)
    (hs : t.slc.stack.length ≤ s.slc.stack.length) : t.storesBounded :=
  ⟨hb.trans h.1, hi.trans h.2.1, hs.trans h.2.2.1, by rw [hw]; exact h.2.2.2⟩

theorem State.powerOn_storesBounded (rate : BitVec 2) : (State.powerOn rate).storesBounded := by
  refine ⟨Nat.zero_le _, Nat.zero_le _, Nat.zero_le _, ?_⟩
  exact List.length_replicate

/-- The arbitration between two blocks of a frame pushes it when the stack has room (R155). -/
theorem Link.arbitrateMore_stores (l : Link) (f : Frame) (h : l.slc.stack.length ≤ Config.stackSlots) :
    (l.arbitrateMore f).slc.inbound = l.slc.inbound ∧ (l.arbitrateMore f).slc.stack.length ≤ Config.stackSlots := by
  have hstart : ∀ (m : Link) (g : Frame), m.slc.inbound = l.slc.inbound → m.slc.stack.length ≤ Config.stackSlots →
      (m.startBlock g).slc.inbound = l.slc.inbound ∧ (m.startBlock g).slc.stack.length ≤ Config.stackSlots :=
    fun m g hi hs => ⟨hi, hs⟩
  unfold Link.arbitrateMore
  split
  · rename_i g _
    split
    · rename_i hroom
      obtain ⟨⟨-, -, -, -, hi, -⟩, hs⟩ := Link.startPending_settings
        (Link.bump { l with slc := { l.slc with stack := f :: l.slc.stack } } Ctr.preemptions) g
      refine ⟨hi, ?_⟩
      rw [hs]
      simpa using hroom.2
    · exact hstart l f rfl h
  · exact hstart l f rfl h

/-- The arbitration behind the end of a frame takes from the stack (R155). -/
theorem Link.arbitrateEnd_stores (l : Link) : l.arbitrateEnd.slc.inbound = l.slc.inbound
    ∧ l.arbitrateEnd.slc.stack.length ≤ l.slc.stack.length := by
  have hpending : ∀ g, (l.startPending g).slc.inbound = l.slc.inbound
      ∧ (l.startPending g).slc.stack.length ≤ l.slc.stack.length := fun g => by
    obtain ⟨⟨-, -, -, -, hi, -⟩, hs⟩ := l.startPending_settings g
    exact ⟨hi, by rw [hs]⟩
  unfold Link.arbitrateEnd
  split
  · split
    · exact hpending _
    · exact ⟨rfl, le_refl _⟩
  · rename_i top below hstack
    have hbelow : below.length ≤ l.slc.stack.length := by simp [hstack]
    split
    · split
      · exact hpending _
      · exact ⟨rfl, hbelow⟩
    · exact ⟨rfl, hbelow⟩

theorem storesBounded_take (s : State) (b : InBlock) (rest : List InBlock) (hi : s.slc.inbound = b :: rest)
    (h : s.storesBounded) : (s.takeCommand b rest).storesBounded := by
  obtain ⟨hw, hbuf, hin, hst⟩ := s.takeCommand_stores b rest
  exact State.storesBounded_of_eq h hw (by simp [Rsp.occupancy, hbuf]) (by simp [hin, hi]) (by rw [hst])

theorem State.softResetEffect_storesBounded (s : State) : s.softResetEffect.storesBounded :=
  State.powerOn_storesBounded s.slc.rate

theorem State.blockCompletes_storesBounded (s : State) (h : s.storesBounded) : s.blockCompletes.storesBounded := by
  have hafter : ∀ (u : State) (a : AfterSend), u.storesBounded → (u.afterResponse a).storesBounded := by
    intro u a hu
    cases a with
    | nothing => exact hu
    | crcInject => exact hu
    | softReset => exact u.softResetEffect_storesBounded
  unfold State.blockCompletes
  split
  · exact h
  · rename_i f _
    dsimp only
    split
    · obtain ⟨hi, hs⟩ := (s.bump Ctr.blocksSent).link.arbitrateMore_stores { f with sent := f.sent + 1 } h.2.2.1
      exact ⟨h.1, by rw [State.withLink_slc, hi]; exact h.2.1, hs, h.2.2.2⟩
    · have hends : ∀ u : State, u.storesBounded → (u.frameEnds { f with sent := f.sent + 1 }).storesBounded := by
        intro u hu
        unfold State.frameEnds
        dsimp only
        refine State.takeLoop_induct (fun t b rest hi _ => storesBounded_take t b rest hi) _ (hafter _ _ ?_)
        have hattempt := fun m : Link => m.attemptIfPending_settings
        obtain ⟨⟨-, -, -, -, hi, -⟩, hs⟩ := hattempt _
        exact ⟨hu.1, by rw [State.withLink_slc, hi]; exact hu.2.1, by rw [State.withLink_slc, hs]; exact hu.2.2.1,
          hu.2.2.2⟩
      have hend := hends (s.bump Ctr.blocksSent) h
      have harb := fun m : Link => m.arbitrateEnd_stores
      exact State.storesBounded_of_eq hend rfl (le_refl _) (by rw [State.withLink_slc, (harb _).1]; exact le_refl _)
        (harb _).2

/-- The sizes of the stores as an invariant of the line. -/
theorem storesBounded_line : LineInvariant State.storesBounded where
  link {s m} hm h := by
    obtain ⟨⟨-, -, -, -, hi, -⟩, hs⟩ := hm.settings
    exact State.storesBounded_of_eq h rfl (le_refl _) (by rw [State.withLink_slc, hi]; exact le_refl _)
      (by rw [State.withLink_slc, hs]; exact le_refl _)
  listen {s l} hl h := by
    obtain ⟨hi, -, -, -, hs, -⟩ := hl
    exact State.storesBounded_of_eq h rfl (le_refl _) (by rw [State.withSlc_slc, hi])
      (by rw [State.withSlc_slc, hs])
  arrive s b hlen h := by
    refine ⟨h.1, ?_, h.2.2.1, h.2.2.2⟩
    simp only [State.withSlc_slc, List.length_append, List.length_cons, List.length_nil]
    omega
  take s b rest hi _ h := storesBounded_take s b rest hi h
  completes := State.blockCompletes_storesBounded
  powerOn _ rate _ := State.powerOn_storesBounded rate

theorem State.Quiet.storesBounded {s t : State} (h : s.Quiet t) (hs : s.storesBounded) : t.storesBounded := by
  obtain ⟨⟨-, -, -, -, hi, -⟩, hst⟩ := h.link.settings
  rw [State.link_slc, State.link_slc] at hi hst
  exact State.storesBounded_of_eq hs h.window h.words (by rw [hi]) (by rw [hst])

theorem State.wordArrives_storesBounded (s : State) (w : Word) (h : s.storesBounded) :
    (s.wordArrives w).storesBounded := by
  have hstore : s.rsp.occupancy < Config.bufferWords → (s.withRsp (s.rsp.store w)).storesBounded := fun hroom => by
    refine ⟨?_, h.2.1, h.2.2.1, h.2.2.2⟩
    simpa [Rsp.occupancy, Rsp.store, List.filter_cons, BufItem.isWord] using hroom
  unfold State.wordArrives
  split
  · split
    · split
      · exact hstore ‹_›
      · exact h
    · exact hstore ‹_›
  · split
    · exact h
    · refine State.Quiet.storesBounded (((State.Quiet.refl (s.withRsp { s.rsp with
        buffer := s.rsp.buffer ++ [.slip], slipSpell := true })).bump Ctr.slippedWords).raise .slip) ?_
      refine ⟨?_, h.2.1, h.2.2.1, h.2.2.2⟩
      simpa [Rsp.occupancy, BufItem.isWord] using h.1

theorem State.enterCharge_storesBounded {s : State} (n : Nat) (h : s.storesBounded) :
    (s.enterCharge n).storesBounded := by
  obtain ⟨hwords, hin, hst, hwindow⟩ := h
  refine ⟨hwords, hin, hst, ?_⟩
  simp only [State.enterCharge_fcu, List.length_cons, List.length_take, hwindow]
  rfl

/-! ### The counters -/

theorem Counters.bounded.clear {v : Counters} (h : v.bounded) (first n : Nat) : (v.clear first n).bounded := by
  intro c
  rw [Fin.getElem_fin, Counters.clear, Vector.getElem_ofFn]
  split
  · exact Nat.zero_le _
  · exact h c

theorem State.execute_bounded (s : State) (b : InBlock) (h : s.ctrs.bounded) : (s.execute b).st.ctrs.bounded := by
  obtain h1 | ⟨c, h1⟩ := s.execute_st b <;> rw [h1]
  · exact h
  · obtain ⟨l, -, hreach⟩ | ⟨first, n, l, -, heq⟩ := s.command_line b.payload c
    · exact hreach.bounded h
    · have hctrs := congrArg Link.ctrs heq
      rw [State.link_ctrs] at hctrs
      rw [hctrs]
      exact h.clear first n

theorem State.takeCommand_bounded (s : State) (b : InBlock) (rest : List InBlock) (h : s.ctrs.bounded) :
    (s.takeCommand b rest).ctrs.bounded := by
  have hrun := ((s.withSlc { s.slc with inbound := rest }).bump Ctr.commandsTaken).execute_bounded b (h.add _ _)
  unfold State.takeCommand
  dsimp only
  refine Link.kick_bounded _ ?_
  rw [State.link_ctrs]
  unfold State.bumpIf
  split
  · exact hrun.add _ _
  · exact hrun

theorem State.blockCompletes_bounded (s : State) (h : s.ctrs.bounded) : s.blockCompletes.ctrs.bounded := by
  have hafter : ∀ (u : State) (a : AfterSend), u.ctrs.bounded → (u.afterResponse a).ctrs.bounded := by
    intro u a hu
    cases a with
    | nothing => exact hu
    | crcInject => exact hu
    | softReset => exact hu.add _ _
  have hmore : ∀ (l : Link) (f : Frame), l.ctrs.bounded → (l.arbitrateMore f).ctrs.bounded := by
    intro l f hl
    unfold Link.arbitrateMore
    split
    · split
      · exact Link.startPending_bounded _ _ (hl.add _ _)
      · exact l.startBlock_bounded f hl
    · exact l.startBlock_bounded f hl
  have hend : ∀ l : Link, l.ctrs.bounded → l.arbitrateEnd.ctrs.bounded := by
    intro l hl
    unfold Link.arbitrateEnd
    split
    · split
      · exact l.startPending_bounded _ hl
      · exact hl
    · split
      · split
        · exact l.startPending_bounded _ hl
        · exact Link.startBlock_bounded _ _ hl
      · exact Link.startBlock_bounded _ _ hl
  unfold State.blockCompletes
  split
  · exact h
  · dsimp only
    split
    · exact hmore _ _ (h.add _ _)
    · refine hend _ ?_
      unfold State.frameEnds
      dsimp only
      refine State.takeLoop_induct (Q := fun t => t.ctrs.bounded)
        (fun t b rest _ _ => t.takeCommand_bounded b rest) _ (hafter _ _ ?_)
      exact Link.attemptIfPending_bounded _ ((h.add _ _).add _ _)

/-- The bound of the counters as an invariant of the line. -/
theorem bounded_line : LineInvariant fun s => s.ctrs.bounded where
  link hm h := hm.bounded h
  listen _ h := h
  arrive _ _ _ h := h
  take s b rest _ _ h := s.takeCommand_bounded b rest h
  completes := State.blockCompletes_bounded
  powerOn s rate _ := fun c => by
    rw [Fin.getElem_fin, State.powerOnReset, State.powerOn, Vector.getElem_replicate]
    exact Nat.zero_le _

theorem State.wordArrives_bounded (s : State) (w : Word) (h : s.ctrs.bounded) : (s.wordArrives w).ctrs.bounded := by
  unfold State.wordArrives
  split
  · split
    · split
      · exact h
      · exact h.add _ _
    · exact h
  · split
    · exact h.add _ _
    · exact Link.raise_bounded _ _ (h.add _ _)

/-- Settles O58: the tables as a block invariant, the stores and the counters as invariants of the line; a slot
time is quiet but for its charge. -/
theorem tablesAndStoresKept : Obligations.TablesAndStoresKept := by
  intro c s t he
  obtain ⟨u, n, hu, hslot⟩ := s.slot_quiet
  have hmove := s.slot.quiet_moveProfiles
  refine ⟨fun h => tablesWf_invariant.exec h (fun _ => s.gathers_slot.moveProfiles_tablesWf h) he, fun h => ?_,
    fun h => ?_⟩
  · refine storesBounded_line.exec h (fun hq => hq.storesBounded h) (fun hc => ?_) (fun w hc => ?_) he
    · subst hc
      cases he
      exact hmove.storesBounded (hslot ▸ State.enterCharge_storesBounded n (hu.storesBounded h))
    · subst hc
      cases he
      exact s.wordArrives_storesBounded w h
  · refine bounded_line.exec h (fun hq => hq.link.bounded h) (fun hc => ?_) (fun w hc => ?_) he
    · subst hc
      cases he
      exact hmove.link.bounded (hslot ▸ hu.link.bounded h)
    · subst hc
      cases he
      exact s.wordArrives_bounded w h

end Sys2Proof.Machine
end

section
/-! What bounds the payload of a response: the candidates of a detection, the tracks of the table, the lengths
of the status sections (R101, R112, R168 to R170, R177, R178). -/

namespace Sys2Proof.Machine

/-! ### The candidate list (R98, R101) -/

/-- The list keeps within its eight places, a drop means that it is full, and a layer begun is dropped exactly
where it was full (R101). -/
def Scan.roomy (k : Scan) (inside : Option Layer) : Prop :=
  k.cands.length ≤ Config.candMax ∧ (0 < k.drops → k.cands.length = Config.candMax)
    ∧ ∀ l, inside = some l → (l.dropped = true ↔ k.cands.length = Config.candMax)

theorem Scan.record_roomy {k : Scan} {l : Layer} (ended : Bool) (h : k.roomy (some l)) :
    (k.record l ended).roomy none := by
  obtain ⟨hlen, hdrop, hlayer⟩ := h
  have hfull := hlayer l rfl
  unfold Scan.record
  split
  · exact ⟨hlen, fun _ => hfull.1 ‹_›, by simp⟩
  · rename_i hkeep
    have hroom : k.cands.length < Config.candMax := lt_of_le_of_ne hlen fun he => hkeep (hfull.2 he)
    refine ⟨by simpa using hroom, fun hd => ?_, by simp⟩
    exact absurd (hdrop hd) (by omega)

theorem scan_roomy (gs : List ScanGate) (atStart : Bool) (inside : Option Layer) (k : Scan) (h : k.roomy inside) :
    (scan gs atStart inside k).roomy none := by
  induction gs generalizing atStart inside k with
  | nil =>
    cases inside with
    | none => exact h
    | some l => exact Scan.record_roomy false h
  | cons g r ih =>
    cases inside with
    | none =>
      unfold scan
      split
      · refine ih _ _ _ ⟨h.1, h.2.1, ?_⟩
        rintro l hl
        cases hl
        have hlen := h.1
        simp only [Layer.begin, decide_eq_true_eq]
        omega
      · exact ih _ _ _ h
    | some l =>
      unfold scan
      split
      · exact ih _ _ _ (Scan.record_roomy true h)
      · refine ih _ _ _ ⟨h.1, h.2.1, ?_⟩
        rintro l' hl'
        cases hl'
        exact h.2.2 l rfl

theorem scanFrom_roomy (gs : List ScanGate) : (scanFrom gs).roomy none :=
  scan_roomy gs true none _ ⟨Nat.zero_le _, fun h => absurd h (Nat.lt_irrefl 0), by simp⟩

/-! ### The track table and the last detection -/

/-- At most ten tracks, and at most eight candidates kept (R101, R112). -/
def State.reportable (s : State) : Prop :=
  s.ltu.tracks.length ≤ Config.trackMax ∧ ∀ d, s.ldu.last = some d → d.cands.length ≤ Config.candMax

theorem State.reportable_of_eq {s t : State} (h : s.reportable) (hl : t.ltu = s.ltu) (hd : t.ldu = s.ldu) :
    t.reportable := by rwa [State.reportable, hl, hd]

theorem State.Gathers.reportable {s t : State} (h : s.Gathers t) (hs : s.reportable) : t.reportable :=
  State.reportable_of_eq hs h.ltu h.choose_spec.ldu

theorem State.detFinish_reportable {s : State} (j : LduJob) (h : s.reportable) : (s.detFinish j).reportable := by
  obtain ⟨-, h1⟩ | ⟨-, d, v, hd, hrest⟩ := s.detFinish_path j
  · rw [h1]
    exact h
  · have hlast : ∀ e, (s.detFinish j).ldu.last = some e → e = d := fun e he => by
      rw [hd] at he
      exact (Option.some.inj he).symm
    obtain ⟨hnil, hl⟩ | ⟨-, ⟨gs, hgs⟩, x, hl⟩ := hrest
    · refine ⟨by rw [hl]; exact h.1, fun e he => ?_⟩
      rw [hlast e he, hnil]
      exact Nat.zero_le _
    · refine ⟨by rw [hl]; exact Ltu.update_length _ x h.1, fun e he => ?_⟩
      obtain hgs | hgs := hgs <;> rw [hlast e he, hgs]
      · exact Nat.zero_le _
      · exact (scanFrom_roomy gs).1

theorem State.detBegin_reportable (s : State) (k : Fin 2) (h : s.reportable) : (s.detBegin k).reportable := by
  have htaken : ∀ on, (s.detTaken k on).reportable := fun _ => ⟨h.1, fun d hd => by cases hd⟩
  obtain ⟨on, h1⟩ | h1 := s.detBegin_cases k <;> rw [h1]
  · exact htaken _
  · exact State.detFinish_reportable _ (htaken none)

theorem State.moveProfiles_reportable (s : State) (h : s.reportable) : s.moveProfiles.reportable :=
  State.moveProfiles_rel (R := fun u t => u.reportable → t.reportable) (fun _ => id) (fun h k => k ∘ h)
    (fun _ _ _ h => State.reportable_of_eq h (by simp) (by simp)) State.detBegin_reportable
    (fun _ h => State.reportable_of_eq h (by simp) (by simp)) s h

theorem State.command_reportable (s : State) (b : List Byte) (c : Command) (h : s.reportable) :
    (c.run s b).st.reportable := by
  cases c <;> simp only [Command.run, State.resetTracks, State.injectCrc, State.readTracks, State.softReset]
  case setProgram => obtain h1 | ⟨-, _, _, h1⟩ := s.setProgram_st b <;> rw [h1] <;> exact h
  case setFiring => obtain h1 | ⟨_, h1⟩ := s.setFiring_st b <;> rw [h1] <;> exact h
  case setSchedule => obtain h1 | ⟨_, h1⟩ := s.setSchedule_st b <;> rw [h1] <;> exact h
  case start => obtain h1 | ⟨-, h1⟩ := s.start_st <;> rw [h1] <;> exact h
  case stop =>
    obtain h1 | ⟨-, h1⟩ := s.stop_st <;> rw [h1]
    · exact h
    · exact s.closes_ceaseFire.gathers.reportable h
  case clearTrip => obtain h1 | ⟨-, h1⟩ := s.clearTrip_st <;> rw [h1] <;> exact h
  case loadGates => obtain h1 | ⟨_, _, h1⟩ := s.loadGates_st b <;> rw [h1] <;> exact h
  case loadCorrection => obtain h1 | h1 | ⟨_, _, h1⟩ := s.loadCorrection_st b <;> rw [h1] <;> exact h
  case loadThresholds => obtain h1 | h1 | ⟨_, _, h1⟩ := s.loadThresholds_st b <;> rw [h1] <;> exact h
  case setTracking =>
    obtain h1 | ⟨q, h1⟩ := s.setTracking_st b <;> rw [h1]
    · exact h
    · exact ⟨by simpa using h.1, h.2⟩
  case resetTracks => exact ⟨by simp, by simpa using h.2⟩
  case setSky => obtain h1 | ⟨_, h1⟩ := s.setSky_st b <;> rw [h1] <;> exact h
  case setCapture => obtain h1 | ⟨_, h1⟩ := s.setCapture_st b <;> rw [h1] <;> exact h
  case injectEcho => obtain h1 | ⟨_, h1 | h1⟩ := s.injectEcho_st b <;> rw [h1] <;> exact h
  case pathCheck => obtain h1 | ⟨-, _, -, h1⟩ := s.pathCheck_st b <;> rw [h1] <;> exact h
  case setReporting => obtain ⟨_, h1⟩ := s.setReporting_st b; rw [h1]; exact h
  case timeMark => obtain ⟨_, h1⟩ := s.timeMark_st b; rw [h1]; exact h
  case readStatus => rwa [s.readStatus_st b]
  case readCounters => obtain ⟨_, h1⟩ := s.readCounters_st b; rw [h1]; exact h
  all_goals exact h

theorem State.powerOn_reportable (rate : BitVec 2) : (State.powerOn rate).reportable :=
  ⟨Nat.zero_le _, fun d hd => by cases hd⟩

/-- The bounds of what can be reported as a block invariant. -/
theorem reportable_invariant : BlockInvariant State.reportable where
  line _ _ h := h
  command := State.command_reportable
  softReset s _ := State.powerOn_reportable s.slc.rate
  powerOn _ rate _ := State.powerOn_reportable rate
  opens s h := s.closes_interlockOpens.gathers.reportable h
  closes _ h := h
  timeout s h := State.moveProfiles_reportable _ (s.gathers_timeoutExpires.reportable h)
  word s w h := State.reportable_of_eq h (by simp) (by simp)
  parser s h := State.moveProfiles_reportable _ (s.gathers_parserTakes.reportable h)
  truncation s h := State.moveProfiles_reportable _ (s.gathers_truncate.reportable h)
  commit s h := s.closes_commitEnds.gathers.reportable h
  condBegins s h := by
    unfold State.beginConditioning
    split
    · exact State.moveProfiles_reportable _ (State.reportable_of_eq h (by simp) (by simp))
    · exact h
  condCompletes s h := by
    unfold State.completeConditioning
    split
    · exact State.moveProfiles_reportable _ (State.reportable_of_eq h (by simp) (by simp))
    · exact h
  detBegins s h := by
    unfold State.beginDetection
    split
    · exact State.moveProfiles_reportable _ (s.detBegin_reportable _ h)
    · exact h
  detCompletes s h := by
    unfold State.completeDetection
    split
    · exact State.moveProfiles_reportable _ (State.detFinish_reportable _ h)
    · exact h

/-! ### Lengths (R175, R177, R178) -/

@[simp] theorem be_length (n v : Nat) : (be n v).length = n := by
  induction n with
  | zero => rfl
  | succ n ih => simp [be, ih]

@[simp] theorem beInt_length (n : Nat) (v : Int) : (beInt n v).length = n := be_length _ _

@[simp] theorem timeBytes_length (t : Stamp) : (timeBytes t).length = 8 := by simp [timeBytes]

@[simp] theorem rangeBytes_length (r : Nat) : (rangeBytes r).length = 4 := by simp [rangeBytes]

@[simp] theorem optRangeBytes_length (r : Option Nat) : (optRangeBytes r).length = 4 := by
  cases r <;> simp [optRangeBytes]

/-- Records of one length each, one after the other. -/
theorem length_flatMap_const {α β : Type} (l : List α) (f : α → List β) (n : Nat) (h : ∀ a ∈ l, (f a).length = n) :
    (l.flatMap f).length = n * l.length := by
  induction l with
  | nil => simp
  | cons a l ih =>
    rw [List.flatMap_cons, List.length_append, h a List.mem_cons_self, ih fun b hb => h b (List.mem_cons_of_mem a hb),
      List.length_cons]
    ring

@[simp] theorem shotBytes_length (o : Option Shot) : (shotBytes o).length = 5 := by
  cases o <;> simp [shotBytes]

@[simp] theorem tripBytes_length (o : Option TripRecord) : (tripBytes o).length = 13 := by
  cases o <;> simp [tripBytes]

theorem statusFcu_length (s : State) : (statusFcu s).length = 46 := by
  have hservos := length_flatMap_const s.fcu.servos.toList (fun v => v.mode.code :: be 1 v.drive) 2
    (fun v _ => by simp)
  rw [List.flatMap_def] at hservos
  simp [statusFcu, hservos]

theorem statusRsp_length (s : State) : (statusRsp s).length = 25 := by simp [statusRsp]

@[simp] theorem bankBytes_length (k : Bank) : (bankBytes k).length = 11 := by
  unfold bankBytes
  split <;> simp

theorem queueBytes_length {q : List (Fin 6)} (h : q.length ≤ 6) : (queueBytes q).length = 7 := by
  have hplaces := length_flatMap_const (q.map Fin.val ++ List.replicate (6 - q.length) 0) (be 1) 1
    (fun v _ => be_length 1 v)
  rw [queueBytes, List.length_append, hplaces]
  simp
  omega

theorem statusGau_length {s : State} (h : s.gau.queue.length ≤ 6) : (statusGau s).length = 81 := by
  have hbanks := length_flatMap_const s.gau.banks.toList bankBytes 11 (fun k _ => bankBytes_length k)
  have hseqs := length_flatMap_const s.gau.nextSeq.toList (be 2) 2 (fun v _ => be_length 2 v)
  rw [statusGau, List.length_append, List.length_append, hbanks, hseqs, queueBytes_length h]
  simp

theorem jobBytes_length (s : State) : (jobBytes s).length = 5 := by
  unfold jobBytes
  split <;> simp

theorem bufBytes_length (b : ResultBuf) : (bufBytes b).length = 4 := by
  unfold bufBytes
  cases b.record <;> simp

theorem heldBytes_length (o : Option HeldRec) : (heldBytes o).length = 5 := by cases o <;> simp [heldBytes]

theorem injBytes_length (o : Option Injection) : (injBytes o).length = 7 := by cases o <;> simp [injBytes]

theorem statusPcu_length (s : State) : (statusPcu s).length = 61 := by
  have hbufs := length_flatMap_const s.pcu.bufs.toList bufBytes 4 (fun b _ => bufBytes_length b)
  have hheld := length_flatMap_const s.pcu.held.toList heldBytes 5 (fun o _ => heldBytes_length o)
  have hinj := length_flatMap_const s.pcu.pendingInj.toList injBytes 7 (fun o _ => injBytes_length o)
  rw [statusPcu, List.length_append, List.length_append, List.length_append, hbufs, hheld, hinj, jobBytes_length]
  simp

theorem detectingBytes_length (s : State) : (detectingBytes s).length = 5 := by
  unfold detectingBytes
  split
  · split <;> simp
  · simp

theorem candBytes_length (c : Candidate) : (candBytes c).length = 16 := by simp [candBytes]

/-- How many candidates the last detection kept, none where it is emptied (R178). -/
def Ldu.kept (k : Ldu) : Nat := match k.last with | some d => d.cands.length | none => 0

theorem statusLdu_length (s : State) : (statusLdu s).length = 18 + 16 * s.ldu.kept := by
  have hcounts := length_flatMap_const s.ldu.frameCount.toList (be 1) 1 (fun v _ => be_length 1 v)
  have hlast : (lastBytes s.ldu.last).length = 9 + 16 * s.ldu.kept := by
    unfold Ldu.kept lastBytes
    cases s.ldu.last with
    | none => simp
    | some d =>
      have hcands := length_flatMap_const d.cands candBytes 16 (fun c _ => candBytes_length c)
      simp [hcands]
      omega
  rw [statusLdu, List.length_append, List.length_append, hcounts, hlast, detectingBytes_length]
  simp
  omega

theorem trackingBytes_length (t : TrackParams) : (trackingBytes t).length = 8 := by simp [trackingBytes]

theorem captureBytes_length (e : CaptureEntry) : (captureBytes e).length = 5 := by
  unfold captureBytes
  split <;> simp

theorem statusSky_length (s : State) : (statusSky s).length = 50 := by
  have hcaptures := length_flatMap_const s.sku.captures.toList captureBytes 5 (fun e _ => captureBytes_length e)
  simp [statusSky, trackingBytes_length, hcaptures]

theorem programBytes_length (p : Prog) (r : ProgramRec) : (programBytes p r).length = 29 := by
  simp [programBytes]

theorem currentBytes_length (o : Option Frame) : (currentBytes o).length = 3 := by
  cases o <;> simp [currentBytes]

theorem reportingBytes_length (r : Reporting) : (reportingBytes r).length = 10 := by simp [reportingBytes]

theorem statusSlc_length (s : State) : (statusSlc s).length = 147 := by
  have hprogs := length_flatMap_const allProgs (fun p => programBytes p s.progs[p]) 29
    (fun p _ => programBytes_length p _)
  simp only [statusSlc, List.length_append, hprogs, be_length, currentBytes_length, reportingBytes_length,
    timeBytes_length]
  rfl

theorem trackBytes_length (t : Track) : (trackBytes t).length = 23 := by simp [trackBytes]

theorem tracksPayload_length (k : Ltu) : (tracksPayload k).length = 10 + 23 * k.tracks.length := by
  have htracks := length_flatMap_const k.tracks trackBytes 23 (fun t _ => trackBytes_length t)
  simp [tracksPayload, trackingBytes_length, htracks]
  omega

theorem counterBytes_length (v : Counters) (first count : Nat) :
    (counterBytes v first count).length = 2 + 4 * count := by
  have hvalues := length_flatMap_const (List.range count) (fun k => be 4 (v.value (first + k))) 4
    (fun _ _ => be_length 4 _)
  simp [counterBytes, hvalues]
  omega

/-- The sections of READ_STATUS are as long as R178 gives them. -/
theorem statusSection_length {s : State} {n : Nat} {p : List Byte} (hq : s.gau.queue.length ≤ 6)
    (h : statusSection s n = some p) :
    n ≤ 6 ∧ p.length = [46, 25, 81, 61, 18 + 16 * s.ldu.kept, 50, 147].getD n 0 := by
  match n with
  | 0 => obtain rfl : statusFcu s = p := Option.some.inj h; exact ⟨by omega, statusFcu_length s⟩
  | 1 => obtain rfl : statusRsp s = p := Option.some.inj h; exact ⟨by omega, statusRsp_length s⟩
  | 2 => obtain rfl : statusGau s = p := Option.some.inj h; exact ⟨by omega, statusGau_length hq⟩
  | 3 => obtain rfl : statusPcu s = p := Option.some.inj h; exact ⟨by omega, statusPcu_length s⟩
  | 4 => obtain rfl : statusLdu s = p := Option.some.inj h; exact ⟨by omega, statusLdu_length s⟩
  | 5 => obtain rfl : statusSky s = p := Option.some.inj h; exact ⟨by omega, statusSky_length s⟩
  | 6 => obtain rfl : statusSlc s = p := Option.some.inj h; exact ⟨by omega, statusSlc_length s⟩
  | n + 7 => simp [statusSection] at h

end Sys2Proof.Machine
end

section
/-! The outbound stores never overflow (R153, R154): every response is one block, and the line works within its
stores through commands and completed blocks. -/

namespace Sys2Proof.Machine

/-! ### Every response is one block -/

/-- What a command adds to its response leaves room for the kind and the result in one block (R177). -/
theorem Command.run_extra_length (s : State) (b : List Byte) (c : Command) (hq : s.gau.queue.length ≤ 6)
    (hr : s.reportable) : (c.run s b).extra.length ≤ 254 := by
  cases c <;> simp only [Command.run]
  case setProgram => simp only [State.setProgram]; (repeat' split) <;> simp [State.ok, State.refuse]
  case setFiring => simp only [State.setFiring]; (repeat' split) <;> simp [State.ok, State.refuse]
  case setSchedule => simp only [State.setSchedule]; (repeat' split) <;> simp [State.ok, State.refuse]
  case start => simp only [State.start]; (repeat' split) <;> simp [State.ok, State.refuse]
  case stop => simp only [State.stop]; (repeat' split) <;> simp [State.ok]
  case clearTrip => simp only [State.clearTrip]; (repeat' split) <;> simp [State.ok, State.refuse]
  case loadGates => simp only [State.loadGates]; (repeat' split) <;> simp [State.ok, State.refuse]
  case loadCorrection => simp only [State.loadCorrection]; (repeat' split) <;> simp [State.ok, State.refuse]
  case loadThresholds => simp only [State.loadThresholds]; (repeat' split) <;> simp [State.ok, State.refuse]
  case setTracking => simp only [State.setTracking]; (repeat' split) <;> simp [State.ok, State.refuse]
  case resetTracks => simp [State.resetTracks]
  case setSky => simp only [State.setSky]; (repeat' split) <;> simp [State.ok, State.refuse]
  case setCapture => simp only [State.setCapture]; (repeat' split) <;> simp [State.ok, State.refuse]
  case injectEcho =>
    simp only [State.injectEcho, State.inject]
    (repeat' split) <;> simp [State.ok, State.refuse]
  case injectCrc => simp [State.injectCrc]
  case pathCheck => simp only [State.pathCheck]; (repeat' split) <;> simp [State.ok, State.refuse]
  case setReporting => simp only [State.setReporting]; (repeat' split) <;> simp [State.ok, State.refuse]
  case timeMark => simp only [State.timeMark]; (repeat' split) <;> simp [State.refuse]
  case readStatus =>
    unfold State.readStatus
    split
    · simp [State.refuse]
    · rename_i p hp
      obtain ⟨hn, hlen⟩ := statusSection_length hq hp
      have hkept : s.ldu.kept ≤ 8 := by
        unfold Ldu.kept
        split
        · exact hr.2 _ ‹_›
        · exact Nat.zero_le _
      dsimp only
      rw [hlen]
      interval_cases field b 0 1 <;> simp
      omega
  case readCounters =>
    unfold State.readCounters
    split
    · simp [State.refuse]
    · rename_i first n clear hrange
      have hn : n ≤ 63 := by
        unfold readCounterRange at hrange
        dsimp only at hrange
        split at hrange
        · rename_i hok
          cases hrange
          simp only [Bool.and_eq_true, decide_eq_true_eq] at hok
          omega
        · cases hrange
      dsimp only
      rw [counterBytes_length]
      omega
  case readTracks =>
    have := hr.1
    simp only [State.readTracks, tracksPayload_length]
    simp only [Config.trackMax] at this
    omega
  case softReset => simp [State.softReset]

theorem State.execute_extra_length (s : State) (b : InBlock) (hq : s.gau.queue.length ≤ 6) (hr : s.reportable) :
    (s.execute b).extra.length ≤ 254 := by
  unfold State.execute
  split
  · split
    · simp [State.refuse]
    · split
      · exact Command.run_extra_length s _ _ hq hr
      · simp [State.refuse]
  · simp [State.refuse]

/-! ### Commands taken (R163, R164) -/

theorem Slc.stored.of_sameStores {l m : Slc} (h : l.stored) (hs : m.sameStores l) : m.stored := by
  obtain ⟨-, hq, hr, hc, hst, hp⟩ := hs
  refine h.of_sizes (by rw [hp, hc]; exact h.current) (by rw [hr]; exact h.responses) (by rw [hq]; exact h.queue)
    hst ?_ ?_
  · rw [Slc.described, Slc.described, hq, hc, hst]
  · rw [Slc.held, Slc.held, hr, hc]

/-- Settings changed on a line keep its stores. -/
theorem Link.holds_of_sameStores {l m : Link} (h : l.slc.stored) (hs : m.slc.sameStores l.slc) : l.Holds m := by
  refine ⟨h.of_sameStores hs, fun _ => hs.2.2.2.2.2, fun hi => by rw [hs.2.2.2.2.2, hi]; decide, ?_⟩
  rw [Slc.held, Slc.held, hs.2.2.1, hs.2.2.2.1]

/-- A command holds the line. -/
theorem State.execute_holds (s : State) (b : InBlock) (h : s.slc.stored) : s.link.Holds (s.execute b).st.link := by
  obtain h1 | ⟨c, h1⟩ := s.execute_st b <;> rw [h1]
  · exact .refl h
  · obtain ⟨l, hl, hreach⟩ | ⟨first, n, l, hl, heq⟩ := s.command_line b.payload c
    · have hset := Link.holds_of_sameStores (l := s.link) (m := ⟨l, s.ctrs⟩) h hl
      exact hset.trans (hreach.holds hset.stored)
    · rw [heq]
      exact Link.holds_of_sameStores (l := s.link) (m := ⟨l, s.ctrs.clear first n⟩) h hl

/-- A response of one block put on a line with a free Response Queue entry (R164). -/
theorem Link.putResponse_stored (l : Link) (t : Byte) (p : List Byte) (a : AfterSend) (h : l.slc.stored)
    (hroom : l.slc.responsesUsed < Config.responseSlots) (hp : p.length ≤ Config.blockBytes) :
    (l.putResponse t p a).slc.stored ∧ (l.slc.phase ≠ .idle → (l.putResponse t p a).slc.phase = l.slc.phase)
      ∧ (l.slc.phase = .idle → (l.putResponse t p a).slc.phase ≠ .boundary) := by
  have hput : ({ l.slc with responses := l.slc.responses
      ++ [⟨.response, l.slc.levels.response, t, p.length, p, 0, a⟩] } : Slc).stored := by
    refine ⟨h.current, ?_, h.queue, h.stack, h.bytes, h.descriptors, ?_, ?_⟩
    · intro f hf
      obtain hf | hf := List.mem_append.1 hf
      · exact h.responses f hf
      · rw [List.mem_singleton.1 hf]
    · simp only [Slc.responsesUsed, List.length_append, List.length_singleton] at hroom ⊢
      omega
    · intro f hf
      rw [Slc.held, List.append_assoc, List.mem_append, List.mem_append, List.mem_singleton] at hf
      obtain hf | rfl | hf := hf
      · exact h.blocks f (List.mem_append_left _ hf)
      · exact hp
      · exact h.blocks f (List.mem_append_right _ hf)
  have hkick := Link.holds_kick (l := { l with slc := { l.slc with responses := l.slc.responses
      ++ [⟨.response, l.slc.levels.response, t, p.length, p, 0, a⟩] } }) hput
  exact ⟨hkick.stored, hkick.busy, hkick.idle⟩

/-- What a part holds at which commands can be taken within an event. -/
structure State.Taking (s : State) : Prop where
  stored : s.slc.stored
  path : s.pathKept
  report : s.reportable

theorem State.pathKept.queue_length {s : State} (h : s.pathKept) : s.gau.queue.length ≤ 6 := by
  have := h.1.1.length_le_card
  rwa [Fintype.card_fin] at this

/-- Taking a command keeps the stores of the line; a busy or held line stays as it is (R163, R164). -/
theorem State.takeCommand_taking {s : State} (b : InBlock) (rest : List InBlock) (hcan : s.canTake = true)
    (h : s.Taking) : (s.takeCommand b rest).Taking
      ∧ (s.slc.phase ≠ .idle → (s.takeCommand b rest).slc.phase = s.slc.phase)
      ∧ (s.slc.phase = .idle → (s.takeCommand b rest).slc.phase ≠ .boundary) := by
  obtain ⟨hstored, hpath, hreport⟩ := h
  let u := (s.withSlc { s.slc with inbound := rest }).bump Ctr.commandsTaken
  have hpathU : u.pathKept := pathKept_invariant.bump _ (pathKept_invariant.slc _ hpath)
  have hreportU : u.reportable := hreport
  have hu : u.slc.stored := ⟨hstored.current, hstored.responses, hstored.queue, hstored.stack, hstored.bytes,
    hstored.descriptors, hstored.slots, hstored.blocks⟩
  have hrun := u.execute_holds b hu
  have hroom : s.slc.responsesUsed < Config.responseSlots := by
    simp only [State.canTake, Bool.and_eq_true, decide_eq_true_eq] at hcan
    exact hcan.2
  let v := (u.execute b).st.bumpIf (u.execute b).result.refusal Ctr.commandsRefused
  have hv : v.slc = (u.execute b).st.slc := by simp [v]
  have hvroom : v.slc.responsesUsed < Config.responseSlots := by
    have hlen := hrun.held.length_eq
    rw [State.link_slc, State.link_slc, ← Slc.responsesUsed_eq, ← Slc.responsesUsed_eq] at hlen
    rw [hv, hlen]
    exact hroom
  have hlen : ([b.kind, (u.execute b).result.code] ++ (u.execute b).extra).length ≤ Config.blockBytes := by
    have := u.execute_extra_length b hpathU.queue_length hreportU
    simp only [List.length_append, List.length_cons, List.length_nil, Config.blockBytes]
    omega
  obtain ⟨hput, hbusy, hidle⟩ := Link.putResponse_stored v.link b.tag
    ([b.kind, (u.execute b).result.code] ++ (u.execute b).extra) (u.execute b).after
    (by rw [State.link_slc, hv]; exact hrun.stored) hvroom hlen
  have hphase : v.link.slc.phase = (u.execute b).st.link.slc.phase := by rw [State.link_slc, hv]; rfl
  refine ⟨⟨hput, pathKept_invariant.respond _ (pathKept_invariant.execute _ hpathU),
    reportable_invariant.respond _ (reportable_invariant.execute _ hreportU)⟩, fun hs => ?_, fun hs => ?_⟩
  · have hrunphase : (u.execute b).st.link.slc.phase = s.slc.phase := hrun.busy hs
    exact (hbusy (by rw [hphase, hrunphase]; exact hs)).trans (hphase.trans hrunphase)
  · by_cases hi : v.link.slc.phase = .idle
    · exact hidle hi
    · rw [show (s.takeCommand b rest).slc.phase = _ from hbusy hi, hphase]
      exact hrun.idle hs

/-! ### Completed blocks (R155) -/

/-- A frame whose next block starts takes the place that CURRENT had for it. -/
theorem Link.startBlock_stored (l : Link) (f : Frame)
    (h : ({ l.slc with current := some f, phase := .sending } : Slc).stored) : (l.startBlock f).slc.stored := by
  refine h.of_sizes (fun hp => absurd rfl hp) h.responses h.queue rfl ?_ ?_
  · simp only [Slc.described, Link.startBlock, Option.toList, List.filter_cons, List.filter_nil, Slc.filled_kind]
    split <;> simp [Slc.filled_size]
  · simp only [Slc.held, Link.startBlock, Option.toList, List.filter_cons, List.filter_nil, Slc.filled_kind]
    split
    · rename_i hk
      rw [Slc.filled_response _ _ (by simpa using hk)]
    · exact .refl _

/-- Starting a pending frame overwrites CURRENT and the phase. -/
theorem Link.startPending_over (l : Link) (g : Frame) (c : Option Frame) (p : LinePhase) :
    Link.startPending { l with slc := { l.slc with current := c, phase := p } } g = l.startPending g := by
  unfold Link.startPending Link.startBlock Slc.without
  split <;> rfl

/-- A response is complete at its first block. -/
theorem Slc.stored.response_done {l : Slc} (h : l.stored) {f : Frame} (hf : l.current = some f)
    (hk : f.kind = .response) : ({ f with sent := f.sent + 1 } : Frame).blocks ≤ f.sent + 1 := by
  have hsize : f.size ≤ Config.blockBytes := h.blocks f (by simp [Slc.held, hf, hk])
  simp only [Config.blockBytes] at hsize
  simp only [Frame.blocks, Config.blockBytes]
  omega

/-- The arbitration between two blocks keeps the stores: the frame that goes on stays CURRENT, the one that is
preempted is SUSPENDED (R155). -/
theorem Link.arbitrateMore_stored (l : Link) (f : Frame) (h : l.slc.stored) (hf : l.slc.current = some f)
    (hmore : ({ f with sent := f.sent + 1 } : Frame).sent < ({ f with sent := f.sent + 1 } : Frame).blocks) :
    (l.arbitrateMore { f with sent := f.sent + 1 }).slc.stored
      ∧ (l.arbitrateMore { f with sent := f.sent + 1 }).slc.phase = .sending := by
  have hkind : f.kind ≠ .response := fun hk => by
    have hdone := h.response_done hf hk
    simp only at hmore
    omega
  have hon : (l.startBlock { f with sent := f.sent + 1 }).slc.stored := by
    refine l.startBlock_stored _ (h.of_sizes (fun hp => absurd rfl hp) h.responses h.queue rfl ?_ ?_)
    · simp [Slc.described, hf, hkind]
    · simp [Slc.held, hf, hkind]
  unfold Link.arbitrateMore
  split
  · rename_i g hg
    split
    · refine ⟨?_, rfl⟩
      rw [← Link.startPending_over _ g none .boundary]
      refine Link.startPending_stored _ g ?_ rfl hg
      refine ⟨fun _ => rfl, h.responses, h.queue, ?_, ?_, ?_, ?_, ?_⟩
      · intro x hx
        obtain rfl | hx := List.mem_cons.1 hx
        · exact hkind
        · exact h.stack x hx
      · have := h.bytes
        simp only [Slc.bytesUsed, Slc.described, hf] at this ⊢
        simp [hkind] at this ⊢
        omega
      · have := h.descriptors
        simp only [Slc.descUsed, Slc.described, hf] at this ⊢
        simp [hkind] at this ⊢
        omega
      · have := h.slots
        simp only [Slc.responsesUsed, hf] at this ⊢
        simp [hkind] at this ⊢
        omega
      · intro x hx
        refine h.blocks x ?_
        simp only [Slc.held, hf] at hx ⊢
        simpa [hkind] using hx
    · exact ⟨hon, rfl⟩
  · exact ⟨hon, rfl⟩

/-- The arbitration behind the end of a frame keeps the stores (R155). -/
theorem Link.arbitrateEnd_stored (l : Link) (h : l.slc.stored) (hc : l.slc.current = none) :
    l.arbitrateEnd.slc.stored ∧ l.arbitrateEnd.slc.phase ≠ .boundary := by
  have hpending : ∀ g, l.slc.highest = some g →
      (l.startPending g).slc.stored ∧ (l.startPending g).slc.phase ≠ .boundary := fun g hg =>
    ⟨l.startPending_stored g h hc hg, by simp [Link.startPending, Link.startBlock]⟩
  have hresume : ∀ top below, l.slc.stack = top :: below →
      (Link.startBlock { l with slc := { l.slc with stack := below } } top).slc.stored
        ∧ (Link.startBlock { l with slc := { l.slc with stack := below } } top).slc.phase ≠ .boundary := by
    intro top below hstack
    have htop : top.kind ≠ .response := h.stack top (by simp [hstack])
    refine ⟨Link.startBlock_stored _ _ ?_, by simp [Link.startBlock]⟩
    refine ⟨fun hp => absurd rfl hp, h.responses, h.queue, fun x hx => h.stack x (by simp [hstack, hx]), ?_, ?_, ?_,
      ?_⟩
    · have := h.bytes
      simp only [Slc.bytesUsed, Slc.described, hc, hstack] at this ⊢
      simp [htop] at this ⊢
      omega
    · have := h.descriptors
      simp only [Slc.descUsed, Slc.described, hc, hstack] at this ⊢
      simp [htop] at this ⊢
      omega
    · have := h.slots
      simp only [Slc.responsesUsed, hc] at this ⊢
      simp [htop] at this ⊢
      omega
    · intro x hx
      refine h.blocks x ?_
      simp only [Slc.held, hc] at hx ⊢
      simpa [htop] using hx
  unfold Link.arbitrateEnd
  split
  · split
    · exact hpending _ ‹_›
    · refine ⟨⟨fun _ => rfl, h.responses, h.queue, h.stack, ?_, ?_, ?_, ?_⟩, by simp⟩
      · have := h.bytes
        rwa [Slc.bytesUsed, Slc.described, hc] at this
      · have := h.descriptors
        rwa [Slc.descUsed, Slc.described, hc] at this
      · have := h.slots
        rwa [Slc.responsesUsed, hc] at this
      · have := h.blocks
        rwa [Slc.held, hc] at this
  · split
    · split
      · exact hpending _ ‹_›
      · exact hresume _ _ ‹_›
    · exact hresume _ _ ‹_›

/-- The line as a frame that has ended leaves it. -/
theorem Slc.stored.ended {l : Slc} (h : l.stored) :
    ({ l with current := none, phase := .boundary, txBlock := [] } : Slc).stored := by
  refine ⟨fun _ => rfl, h.responses, h.queue, h.stack, ?_, ?_, ?_, ?_⟩
  · have := h.bytes
    simp only [Slc.bytesUsed, Slc.described, Option.toList, List.filter_nil, List.append_nil, List.map_append,
      List.sum_append] at this ⊢
    omega
  · have := h.descriptors
    simp only [Slc.descUsed, Slc.described, Option.toList, List.filter_nil, List.append_nil,
      List.length_append] at this ⊢
    omega
  · have := h.slots
    simp only [Slc.responsesUsed, Option.toList, List.filter_nil, List.length_nil] at this ⊢
    omega
  · intro f hf
    refine h.blocks f (List.mem_append_left _ ?_)
    simpa [Slc.held] using hf

theorem State.powerOn_stored (rate : BitVec 2) : (State.powerOn rate).slc.stored := by
  refine ⟨fun _ => rfl, ?_, ?_, ?_, ?_, ?_, ?_, ?_⟩ <;> simp [State.powerOn, Slc.reset, Slc.bytesUsed, Slc.descUsed,
    Slc.responsesUsed, Slc.described, Slc.held]

/-- A soft reset leaves empty stores, and no command to be taken. -/
theorem State.softReset_serve_stored (s : State) :
    s.softResetEffect.serve.slc.stored ∧ s.softResetEffect.serve.slc.current = none :=
  ⟨(State.powerOn_stored s.slc.rate).of_sameStores
    (m := s.softResetEffect.slc) ⟨rfl, rfl, rfl, rfl, rfl, rfl⟩, rfl⟩

/-- The end of a frame, with what it sets off and the commands taken at it, leaves no CURRENT frame (R155). -/
theorem State.frameEnds_stored (s : State) (f : Frame) (h : s.Taking) :
    (s.frameEnds f).slc.stored ∧ (s.frameEnds f).slc.current = none := by
  let u := ((s.withSlc { s.slc with current := none, phase := .boundary, txBlock := [] }).bump Ctr.framesSent)
  have hu : u.slc.stored := h.stored.ended
  have hattempt := Link.holds_attemptIfPending (l := u.link) hu
  have hphase : u.link.attemptIfPending.slc.phase = .boundary := hattempt.busy (by simp [u])
  have hserve : ∀ v : State, v.Taking → v.slc.phase = .boundary →
      v.serve.slc.stored ∧ v.serve.slc.current = none := by
    intro v hv hp
    have hkept : v.serve.Taking ∧ v.serve.slc.phase = .boundary :=
      State.takeLoop_induct (Q := fun t => t.Taking ∧ t.slc.phase = .boundary) (fun t b rest _ hcan ht => by
        obtain ⟨htake, hbusy, -⟩ := State.takeCommand_taking b rest hcan ht.1
        exact ⟨htake, (hbusy (by simp [ht.2])).trans ht.2⟩) _ ⟨hv, hp⟩
    exact ⟨hkept.1.stored, hkept.1.stored.current (by simp [hkept.2])⟩
  have hpath : (u.withLink u.link.attemptIfPending).pathKept :=
    pathKept_invariant.line _ _ (pathKept_invariant.bump _ (pathKept_invariant.slc _ h.path))
  unfold State.frameEnds
  cases hafter : f.after with
  | nothing => exact hserve _ ⟨hattempt.stored, hpath, h.report⟩ hphase
  | crcInject =>
    refine hserve _ ⟨?_, pathKept_invariant.slc _ hpath, h.report⟩ hphase
    exact hattempt.stored.of_sameStores ⟨rfl, rfl, rfl, rfl, rfl, rfl⟩
  | softReset =>
    exact State.softReset_serve_stored _

/-- What a part holds between events: within an event, and no moment of choice is open on the line. -/
def State.outbound (s : State) : Prop := s.Taking ∧ s.slc.phase ≠ .boundary

theorem State.blockCompletes_outbound (s : State) (h : s.outbound) : s.blockCompletes.outbound := by
  obtain ⟨⟨hstored, hpath, hreport⟩, hphase⟩ := h
  have hpathT := pathKept_invariant.blockCompletes hpath
  have hreportT := reportable_invariant.blockCompletes hreport
  suffices hline : s.blockCompletes.slc.stored ∧ s.blockCompletes.slc.phase ≠ .boundary from
    ⟨⟨hline.1, hpathT, hreportT⟩, hline.2⟩
  unfold State.blockCompletes
  split
  · exact ⟨hstored, hphase⟩
  · rename_i f hf
    dsimp only
    split
    · obtain ⟨hmore, hsending⟩ := Link.arbitrateMore_stored (s.bump Ctr.blocksSent).link f hstored hf ‹_›
      exact ⟨hmore, by rw [State.withLink_slc, hsending]; decide⟩
    · obtain ⟨hends, hnone⟩ := (s.bump Ctr.blocksSent).frameEnds_stored { f with sent := f.sent + 1 }
        ⟨hstored, pathKept_invariant.bump _ hpath, hreport⟩
      exact Link.arbitrateEnd_stored _ hends hnone

/-! ### The invariant -/

theorem State.outbound_of_holds {s : State} {m : Link} (hm : s.link.Holds m) (h : s.outbound) :
    (s.withLink m).outbound := by
  obtain ⟨⟨hstored, hpath, hreport⟩, hphase⟩ := h
  refine ⟨⟨hm.stored, pathKept_invariant.line _ _ hpath, hreport⟩, ?_⟩
  by_cases hi : s.slc.phase = .idle
  · exact hm.idle hi
  · rw [State.withLink_slc, hm.busy hi]
    exact hphase

/-- The outbound stores as an invariant of the line. -/
theorem outbound_line : LineInvariant State.outbound where
  link hm h := State.outbound_of_holds (hm.holds h.1.stored) h
  listen {s l} hl h := State.outbound_of_holds (m := ⟨l, s.ctrs⟩) (Link.holds_of_sameStores h.1.stored hl) h
  arrive s b _ h := by
    obtain ⟨⟨hstored, hpath, hreport⟩, hphase⟩ := h
    exact ⟨⟨⟨hstored.current, hstored.responses, hstored.queue, hstored.stack, hstored.bytes, hstored.descriptors,
      hstored.slots, hstored.blocks⟩, pathKept_invariant.slc _ hpath, hreport⟩, hphase⟩
  take s b rest _ hcan h := by
    obtain ⟨htake, hbusy, hidle⟩ := State.takeCommand_taking b rest hcan h.1
    refine ⟨htake, ?_⟩
    by_cases hi : s.slc.phase = .idle
    · exact hidle hi
    · rw [hbusy hi]
      exact h.2
  completes := State.blockCompletes_outbound
  powerOn s rate _ := by
    refine ⟨⟨?_, pathKept_invariant.powerOn s rate ?_, State.powerOn_reportable rate⟩, by
      simp [State.powerOnReset, State.powerOn, Slc.reset]⟩
    · exact State.powerOn_stored rate
    · exact ‹s.outbound›.1.path

theorem State.outboundSound_iff (s : State) :
    s.outboundSound ↔ s.slc.stored ∧ s.slc.phase ≠ .boundary ∧ s.reportable := by
  constructor
  · rintro ⟨hbytes, hdesc, hslots, ⟨hidle, hphase, hresp, hqueue, hstack⟩, hblocks, htracks, hlast⟩
    refine ⟨⟨fun hp => ?_, hresp, hqueue, hstack, hbytes, hdesc, hslots, hblocks⟩, hphase, htracks, hlast⟩
    cases h : s.slc.phase with
    | idle => exact hidle h
    | sending => exact absurd h hp
    | boundary => exact absurd h hphase
  · rintro ⟨hstored, hphase, htracks, hlast⟩
    exact ⟨hstored.bytes, hstored.descriptors, hstored.slots, ⟨fun hi => hstored.current (by simp [hi]), hphase,
      hstored.responses, hstored.queue, hstored.stack⟩, hstored.blocks, htracks, hlast⟩

/-- Settles O60, by the outbound stores as an invariant of the line; the other events are quiet on it. -/
theorem outboundStoresNeverOverflow : Obligations.OutboundStoresNeverOverflow := by
  intro c s t hsound hsettled hout he
  obtain ⟨hstored, hphase, hreport⟩ := s.outboundSound_iff.1 hout
  have hpath : t.pathKept := pathKept_invariant.exec ⟨hsound, hsettled⟩
    (fun _ => s.gathers_slot.moveProfiles_pathKept ⟨hsound, hsettled⟩) he
  have hreportT : t.reportable := reportable_invariant.exec hreport
    (fun _ => State.moveProfiles_reportable _ (s.gathers_slot.reportable hreport)) he
  have hbefore : s.outbound := ⟨⟨hstored, ⟨hsound, hsettled⟩, hreport⟩, hphase⟩
  have hreach : s.link.Reaches t.link → t.outbound := fun h => by
    obtain ⟨⟨ht, -, -⟩, hp⟩ := State.outbound_of_holds (h.holds hstored) hbefore
    exact ⟨⟨ht, hpath, hreportT⟩, hp⟩
  have hafter : t.outbound := by
    refine outbound_line.exec hbefore (fun hq => hreach hq.link) (fun hc => ?_) (fun w hc => ?_) he
    · subst hc
      cases he
      obtain ⟨u, n, hu, hslot⟩ := s.slot_quiet
      have hlink : s.link.Reaches s.slot.link := hslot ▸ hu.link
      exact hreach (hlink.trans s.slot.quiet_moveProfiles.link)
    · subst hc
      cases he
      refine hreach ?_
      unfold State.wordArrives
      split
      · split
        · split
          · exact .refl _
          · exact .bumpBy _ _ 1
        · exact .refl _
      · split
        · exact .bumpBy _ _ 1
        · exact (Link.Reaches.bumpBy s.link Ctr.slippedWords 1).trans (.raise _ _)
  exact t.outboundSound_iff.2 ⟨hafter.1.stored, hafter.2, hreportT⟩

end Sys2Proof.Machine
end

section
/-! A refused command changes nothing (R164): the responses that a command's own raises keep held, and the one
response that answers it. -/

namespace Sys2Proof.Machine

/-! ### The responses held through raises -/

/-- A line that is not sending has no CURRENT frame, and pending frames stand in their own stores. -/
structure Slc.orderly (l : Slc) : Prop where
  current : l.phase ≠ .sending → l.current = none
  sorted : l.sorted

/-- `m` follows from `l` on an orderly line: the phase of a busy or held line stays, an idle line stays idle or
sends, and the responses held stay as a collection. -/
structure Link.Orders (l m : Link) : Prop where
  orderly : m.slc.orderly
  busy : l.slc.phase ≠ .idle → m.slc.phase = l.slc.phase
  idle : l.slc.phase = .idle → m.slc.phase ≠ .boundary
  held : m.slc.held.Perm l.slc.held

theorem Link.Orders.refl {l : Link} (h : l.slc.orderly) : l.Orders l :=
  ⟨h, fun _ => rfl, fun hi => by simp [hi], .refl _⟩

theorem Link.Orders.trans {l m n : Link} (h : l.Orders m) (k : m.Orders n) : l.Orders n := by
  refine ⟨k.orderly, fun hl => ?_, fun hl => ?_, k.held.trans h.held⟩
  · have hm := h.busy hl
    exact (k.busy (by rwa [hm])).trans hm
  · by_cases hm : m.slc.phase = .idle
    · exact k.idle hm
    · rw [k.busy hm]
      exact h.idle hl

theorem Link.orders_kick {l : Link} (h : l.slc.orderly) : l.Orders l.kick := by
  by_cases hidle : l.slc.phase = .idle
  · have hheld := l.kick_held h.sorted fun _ => h.current (by simp [hidle])
    refine ⟨?_, fun hl => absurd hidle hl, fun _ => ?_, hheld⟩ <;> unfold Link.kick <;> rw [if_pos hidle] <;> split
    · exact ⟨fun hp => absurd rfl hp, Slc.without_kinds h.sorted _⟩
    · exact h
    · simp [Link.startPending, Link.startBlock]
    · simp [hidle]
  · rw [l.kick_of_not_idle hidle]
    exact .refl h

/-- A placement keeps the QUEUED frames of the report kinds. -/
theorem Link.placeLoop_sorted (n : Nat) (l : Link) (f : Frame) (b : Bool) (hf : f.kind ≠ .response)
    (h : l.slc.sorted) : (Link.placeLoop n l f b).link.slc.sorted := by
  induction n generalizing l b with
  | zero => exact h
  | succ n ih =>
    unfold Link.placeLoop
    split
    · refine ⟨h.1, fun g hg => ?_⟩
      obtain hg | hg := List.mem_append.1 hg
      · exact h.2 g hg
      · rw [List.mem_singleton.1 hg]
        exact hf
    · split
      · exact ih _ _ ⟨h.1, fun g hg => h.2 g (List.mem_of_mem_erase hg)⟩
      · exact h

theorem Link.orders_place {l : Link} (h : l.slc.orderly) (f : Frame) (hf : f.kind ≠ .response) :
    l.Orders (l.place f).link := by
  obtain ⟨hphase, hcurrent, hresponses⟩ := Link.placeLoop_line (l.slc.queue.length + 1) l f false
  refine ⟨⟨fun hp => ?_, Link.placeLoop_sorted _ l f false hf h.sorted⟩, fun _ => hphase, fun hl => ?_, ?_⟩
  · rw [Link.place, hcurrent]
    exact h.current (by rwa [Link.place, hphase] at hp)
  · rw [Link.place, hphase, hl]
    decide
  · rw [Slc.held, Link.place, hresponses, hcurrent]
    exact .refl _

theorem Link.orders_setFlag {l : Link} (h : l.slc.orderly) (k : NoticeKind) : l.Orders (l.setFlag k) :=
  ⟨⟨h.current, h.sorted⟩, fun _ => rfl, fun hi => by simp [Link.setFlag, hi], .refl _⟩

theorem Link.orders_noticeAttempt {l : Link} (h : l.slc.orderly) : l.Orders l.noticeAttempt := by
  unfold Link.noticeAttempt
  split
  · exact .refl h
  · have hplace := Link.orders_place h l.slc.noticeFrame (by simp [Slc.noticeFrame])
    dsimp only
    split
    · have hflag := Link.orders_setFlag hplace.orderly .reportDrop
      exact (hplace.trans hflag).trans (Link.orders_kick hflag.orderly)
    · exact hplace.trans (Link.orders_kick hplace.orderly)

theorem Link.orders_raise {l : Link} (h : l.slc.orderly) (k : NoticeKind) : l.Orders (l.raise k) := by
  have hflag := Link.orders_setFlag h k
  unfold Link.raise
  split
  · exact hflag
  · exact hflag.trans (Link.orders_noticeAttempt hflag.orderly)

theorem Link.orders_attemptIfPending {l : Link} (h : l.slc.orderly) : l.Orders l.attemptIfPending := by
  unfold Link.attemptIfPending
  split
  · exact Link.orders_noticeAttempt h
  · exact .refl h

theorem Link.orders_offer {l : Link} (h : l.slc.orderly) {k : FrameKind} (p : List Byte) (hk : k ≠ .response) :
    l.Orders (l.offer k p).1 := by
  have hplace := Link.orders_place h ⟨k, l.slc.levels.of k, 0, p.length, p, 0, .nothing⟩ hk
  have hkick := hplace.trans (Link.orders_kick hplace.orderly)
  unfold Link.offer
  dsimp only
  split
  · exact hkick.trans (Link.orders_raise hkick.orderly _)
  · exact hkick

/-- An idle line that is held and released is orderly throughout. -/
theorem Link.Reaches.orders {l m : Link} (h : l.Reaches m) (hl : l.slc.orderly) : l.Orders m := by
  induction h with
  | refl l => exact .refl hl
  | trans _ _ ihl ihm => exact (ihl hl).trans (ihm (ihl hl).orderly)
  | bumpBy l c n => exact ⟨hl, fun _ => rfl, fun hi => by simp [hi], .refl _⟩
  | raise l k => exact Link.orders_raise hl k
  | attempt l => exact Link.orders_attemptIfPending hl
  | offer l p hk => exact Link.orders_offer hl p hk
  | @held l m hm ih =>
    by_cases hidle : l.slc.phase = .idle
    · have hhold : l.hold = { l with slc := { l.slc with phase := .boundary } } := if_pos hidle
      have hrelease : m.release l.slc.phase = Link.kick { m with slc := { m.slc with phase := .idle } } :=
        if_pos hidle
      have hnone := hl.current (by simp [hidle])
      rw [hhold] at ih
      have hm := ih ⟨fun _ => hnone, hl.sorted⟩
      have hphase : m.slc.phase = .boundary := hm.busy (by simp)
      have hkick := Link.orders_kick (l := { m with slc := { m.slc with phase := .idle } })
        ⟨fun _ => hm.orderly.current (by simp [hphase]), hm.orderly.sorted⟩
      rw [hrelease]
      exact ⟨hkick.orderly, fun h => absurd hidle h, fun _ => hkick.idle rfl, hkick.held.trans hm.held⟩
    · have hhold : l.hold = l := if_neg hidle
      have hrelease : m.release l.slc.phase = m := if_neg hidle
      rw [hrelease]
      rw [hhold] at ih
      exact ih hl

theorem Slc.lineSound.orderly {l : Slc} (h : l.lineSound) : l.orderly := by
  obtain ⟨hidle, hphase, hresp, hqueue, -⟩ := h
  refine ⟨fun hp => ?_, hresp, hqueue⟩
  cases hl : l.phase with
  | idle => exact hidle hl
  | sending => exact absurd hl hp
  | boundary => exact absurd hl hphase

theorem Link.Reaches.lineSound {l m : Link} (h : l.Reaches m) (hl : l.slc.lineSound) : m.slc.lineSound := by
  have hm := h.orders hl.orderly
  obtain ⟨-, hphase, -, -, hstack⟩ := hl
  refine ⟨fun hi => hm.orderly.current (by simp [hi]), ?_, hm.orderly.sorted.1, hm.orderly.sorted.2, ?_⟩
  · by_cases hidle : l.slc.phase = .idle
    · exact hm.idle hidle
    · rw [hm.busy hidle]
      exact hphase
  · rw [h.settings.2]
    exact hstack

/-! ### A command executed -/

theorem Slc.lineSound.of_sameStores {l m : Slc} (h : l.lineSound) (hs : m.sameStores l) : m.lineSound := by
  obtain ⟨-, hq, hr, hc, hst, hp⟩ := hs
  unfold Slc.lineSound
  rwa [hq, hr, hc, hst, hp]

theorem Slc.sameStores.held {l m : Slc} (hs : m.sameStores l) : m.held = l.held := by
  obtain ⟨-, -, hr, hc, -⟩ := hs
  rw [Slc.held, Slc.held, hr, hc]

/-- A command executed keeps the line sound and the responses held. -/
theorem State.execute_lineSound (s : State) (b : InBlock) (h : s.slc.lineSound) :
    (s.execute b).st.slc.lineSound ∧ (s.execute b).st.slc.held.Perm s.slc.held := by
  obtain h1 | ⟨c, h1⟩ := s.execute_st b <;> rw [h1]
  · exact ⟨h, .refl _⟩
  · obtain ⟨l, hl, hreach⟩ | ⟨first, n, l, hl, heq⟩ := s.command_line b.payload c
    · have hset : l.lineSound := h.of_sameStores hl
      have hheld := (hreach.orders hset.orderly).held
      exact ⟨hreach.lineSound hset, hheld.trans (by rw [hl.held])⟩
    · have hslc : (c.run s b.payload).st.slc = l := congrArg Link.slc heq
      rw [hslc]
      exact ⟨h.of_sameStores hl, by rw [hl.held]⟩

/-- A refusal leaves the part as it is, but for the refusal counter of a table in use. -/
def State.refusedAs (s t : State) : Prop :=
  t = s ∨ t = s.bump Ctr.correctionBusy ∨ t = s.bump Ctr.thresholdBusy

theorem Command.run_refusal (s : State) (b : List Byte) (c : Command) :
    (c.run s b).result.refusal = true → s.refusedAs (c.run s b).st := by
  cases c <;> simp only [Command.run, State.setProgram, State.setFiring, State.setSchedule, State.start, State.stop,
    State.clearTrip, State.loadGates, State.loadCorrection, State.loadThresholds, State.setTracking,
    State.resetTracks, State.setSky, State.setCapture, State.injectEcho, State.inject, State.injectCrc,
    State.pathCheck, State.setReporting, State.timeMark, State.readStatus, State.readCounters, State.readTracks,
    State.softReset]
  all_goals (repeat' split) <;> simp [State.refusedAs, State.ok, State.refuse, Result.refusal]

theorem State.execute_refusal (s : State) (b : InBlock) :
    (s.execute b).result.refusal = true → s.refusedAs (s.execute b).st := by
  unfold State.execute
  split
  · split
    · exact fun _ => .inl rfl
    · split
      · exact Command.run_refusal s _ _
      · exact fun _ => .inl rfl
  · exact fun _ => .inl rfl

theorem Result.refusal_of_code {r : Result} (h0 : r.code ≠ 0) (h1 : r.code ≠ 1) : r.refusal = true := by
  cases r <;> simp_all [Result.code, Result.refusal]

/-- Settles O55: the one response added is the answer's, so its result is the executed command's, and a refusal
leaves the part but for its own counter. -/
theorem refusalChangesNothing : Obligations.RefusalChangesNothing := by
  intro s t i b f hready hrow hexec hheld h0 h1
  rw [exec_commandRow s hrow, State.deliver_ready s b hready] at hexec
  cases hexec
  have hline : s.taken.slc.lineSound := by
    obtain ⟨-, -, -, hline⟩ := hready
    simpa using hline
  obtain ⟨hrun, hrunHeld⟩ := s.taken.execute_lineSound b hline
  obtain ⟨hresp, -, -⟩ := Answer.respond_spec _ b hrun
  have hslc : s.taken.slc = s.slc := by simp
  rw [hslc] at hrunHeld
  have hone := (hheld.symm.trans hresp).trans (hrunHeld.cons _)
  obtain rfl := List.singleton_perm_singleton.1 ((List.perm_append_right_iff s.slc.held).1 hone)
  have hrefused : (s.taken.execute b).result.refusal = true :=
    Result.refusal_of_code (by simpa using h0) (by simpa using h1)
  have hst := s.taken.execute_refusal b hrefused
  have hsend := (s.taken.execute b).respond_ctrsKept b
  rw [hrefused] at hsend
  have hbusy : ctrsKept [Ctr.correctionBusy, Ctr.thresholdBusy] s.taken (s.taken.execute b).st := by
    obtain hst | hst | hst := hst <;> rw [hst]
    · exact ctrsKept_refl _ _
    · exact ctrsKept_bump _ (by decide)
    · exact ctrsKept_bump _ (by decide)
  refine ⟨rfl, rfl, ?_, ?_, ?_⟩
  · refine Answer.respond_sameButLine _ b hready (u := s) rfl ?_ ?_ <;> obtain hst | hst | hst := hst <;> simp [hst]
  · have hcounted := counted_bump (s.taken.execute b).st Ctr.commandsRefused
    exact counted_after_kept (ctrsKept_trans (ctrsKept_mono s.taken_ctrsKept (ds := [Ctr.inboundGood,
      Ctr.commandsTaken, Ctr.correctionBusy, Ctr.thresholdBusy]) (by decide)) (ctrsKept_mono hbusy (by decide)))
      (by decide) (counted_before_kept hcounted hsend (by decide))
  · refine ctrsKept_trans (ctrsKept_mono s.taken_ctrsKept (by decide)) ?_
    refine ctrsKept_trans (ctrsKept_mono hbusy (by decide)) ?_
    exact ctrsKept_trans (ctrsKept_bump _ (by decide)) (ctrsKept_mono hsend (by decide))

end Sys2Proof.Machine
end

section
/-! Reset values (R3, R17, R51, R89, R116, R153) and the slot times that fire nothing (R2 to R4, R7, R44). -/

namespace Sys2Proof.Machine

/-! ### Reset -/

theorem State.powerOn_fcuSafe (rate : BitVec 2) : (State.powerOn rate).fcuSafe := by
  simp [State.fcuSafe, State.powerOn, Fcu.reset, Rsp.reset, PathCheck.reset]

theorem State.powerOn_ctrs (rate : BitVec 2) (c : Ctr) : (State.powerOn rate).ctrs[c] = 0 := by
  rw [Fin.getElem_fin, State.powerOn, Vector.getElem_replicate]

theorem State.powerOn_phase (rate : BitVec 2) : (State.powerOn rate).slc.phase = .idle := rfl

theorem State.reset_outboundSound : State.reset.outboundSound :=
  State.reset.outboundSound_iff.2 ⟨State.powerOn_stored 0, by rw [State.reset, State.powerOn_phase]; decide,
    State.powerOn_reportable 0⟩

theorem State.reset_ready : State.reset.ready := by
  have hline := State.reset.outboundSound_iff.1 State.reset_outboundSound
  obtain ⟨hstored, hphase, -⟩ := hline
  exact ⟨rfl, rfl, by decide, fun _ => rfl, hphase, hstored.responses, hstored.queue, hstored.stack⟩

theorem Vector.getElem_fin_replicate {α : Type} {n : Nat} (i : Fin n) (a : α) : (Vector.replicate n a)[i] = a := by
  rw [Fin.getElem_fin, Vector.getElem_replicate]

/-- Settles O3, by the definition of the reset state; the invariants hold there by their own reset lemmas. -/
theorem resetValues : Obligations.ResetValues := by
  have hpath := State.powerOn_pathKept 0
  refine ⟨fun p => Vector.getElem_fin_replicate p _, rfl, fun i => Vector.getElem_fin_replicate i _, rfl, rfl, rfl,
    rfl, rfl, rfl, rfl, rfl, rfl, rfl, rfl, rfl, rfl, rfl, fun _ => rfl, rfl, ?_, rfl, fun _ => rfl, rfl, ?_, ?_,
    fun _ => rfl, rfl, rfl, rfl, rfl, rfl, rfl, rfl, rfl, rfl, rfl, rfl, rfl, rfl, rfl, rfl, rfl, rfl, rfl, rfl,
    State.powerOn_ctrs 0, State.powerOn_fcuSafe 0, ⟨rfl, rfl, rfl⟩, State.powerOn_storesBounded 0, ?_,
    Ltu.reset_sound, hpath.1, hpath.2, State.reset_outboundSound, State.reset_ready⟩
  · intro b
    rw [State.reset, State.powerOn, Gau.reset, Vector.getElem_fin_replicate]
    rfl
  · intro k
    rw [State.reset, State.powerOn, Pcu.reset, Vector.getElem_fin_replicate]
    rfl
  · intro p
    rw [State.reset, State.powerOn, Pcu.reset, Vector.getElem_fin_replicate]
  · intro c
    rw [State.reset, State.powerOn_ctrs]
    exact Nat.zero_le _

/-- Settles O4: the reset state, with the level of the INTERLOCK pin carried over. -/
theorem powerOnResetFromAnyState : Obligations.PowerOnResetFromAnyState := by
  intro s rate
  refine ⟨s.powerOnReset rate, rfl, rfl, rfl, rfl, rfl, rfl, rfl, rfl, rfl, rfl, rfl, State.powerOn_ctrs rate, ?_, ?_⟩
  · exact (State.pathKept_of_eq (t := s.powerOnReset rate) (State.powerOn_pathKept rate) rfl rfl rfl rfl rfl rfl).2
  · simp [State.fcuSafe, State.powerOnReset, State.powerOn, Fcu.reset, Rsp.reset, PathCheck.reset]

/-! ### Slot times outside RUNNING (R4, R44) -/

/-- A slot time outside RUNNING leaves a settled profile path settled. -/
theorem exec_slotTime_of_settled {s : State} (h : s.slot.settled) : exec .slotTime s = .next s.slot :=
  congrArg Host.Outcome.next h.moveProfiles

/-- A profile path stays settled where no bank closes and the PCU and the LDU stay as they are. -/
theorem State.settled_of_banks {s t : State} (h : s.settled) (hq : t.gau.queue = s.gau.queue)
    (hb : ∀ b : Fin 6, t.gau.banks[b].state = .closed → t.gau.banks[b] = s.gau.banks[b])
    (hp : t.pcu = s.pcu) (hd : t.ldu = s.ldu) : t.settled := by
  obtain ⟨hcond, hdet, hwait⟩ := h
  refine ⟨?_, (State.detReady_of_eq (by rw [hp]) (by rw [hd])).trans hdet, ?_⟩
  · by_contra hne
    obtain ⟨⟨b, k⟩, ht⟩ := Option.ne_none_iff_exists'.1 hne
    obtain ⟨hjob, hhead, hfree, hclosed⟩ := State.condReady_eq_some.1 ht
    have hready : s.condReady = some (b, k) := State.condReady_eq_some.2
      ⟨hp ▸ hjob, hq ▸ hhead, hp ▸ hfree, hb b hclosed ▸ hclosed⟩
    rw [hcond] at hready
    cases hready
  · rw [State.waitSettled_iff] at hwait ⊢
    rintro b ⟨hhead, hclosed, hfree, hcounted⟩
    exact hwait b ⟨hq ▸ hhead, hb b hclosed ▸ hclosed, hp ▸ hfree, hb b hclosed ▸ hcounted⟩

theorem State.settled_of_gau {s t : State} (h : s.settled) (hg : t.gau = s.gau) (hp : t.pcu = s.pcu)
    (hd : t.ldu = s.ldu) : t.settled :=
  State.settled_of_banks h (by rw [hg]) (fun b _ => by rw [hg]) hp hd

theorem State.pathSlot_of_quiet (s : State) (h : s.rsp.path.running = true → s.rsp.path.capture = none →
    ¬ s.rsp.path.issued < s.rsp.path.n) : s.pathSlot = s := by
  unfold State.pathSlot
  exact if_neg fun ⟨hrun, hcap, hn⟩ => h hrun hcap hn

/-- A slot time of an FCU that is not RUNNING, where no path check has a capture to issue. -/
theorem State.slot_of_no_capture (s : State) (hrun : s.fcu.state ≠ .running)
    (h : s.rsp.path.running = true → s.rsp.path.capture = none → ¬ s.rsp.path.issued < s.rsp.path.n) :
    s.slot = s.withFcu s.fcu.quietSlot := by
  have hquiet : (s.withFcu s.fcu.slotBegun).pathSlot = s.withFcu s.fcu.slotBegun :=
    State.pathSlot_of_quiet (s.withFcu s.fcu.slotBegun) h
  rw [s.slot_of_idle hrun, State.slotIdle, hquiet, ite_self]
  rfl

/-- A slot time at which a path check issues a capture (R44). -/
theorem State.slot_of_capture (s : State) (hhalt : s.fcu.state = .halted) (hrun : s.rsp.path.running = true)
    (hcap : s.rsp.path.capture = none) (hn : s.rsp.path.issued < s.rsp.path.n) :
    s.slot = (s.withRsp { s.rsp with path := { s.rsp.path with
        issued := s.rsp.path.issued + 1
        capture := some ⟨s.fcu.shotTag + 1, s.fcu.firing.recordLen, false⟩ } }).withFcu
      (s.fcu.captureSlot ⟨false, true, true⟩ 0) := by
  have hissue : (s.withFcu s.fcu.slotBegun).pathSlot = _ :=
    if_pos (show s.rsp.path.running = true ∧ s.rsp.path.capture = none ∧ s.rsp.path.issued < s.rsp.path.n from
      ⟨hrun, hcap, hn⟩)
  have hhalted : (s.withFcu s.fcu.slotBegun).fcu.state = .halted := hhalt
  rw [s.slot_of_idle (by simp [hhalt]), State.slotIdle, if_pos hhalted, hissue]
  rfl

/-- Settles O5, by the slot of an FCU that is not RUNNING; with no path check it issues nothing. -/
theorem slotOutsideRunning : Obligations.SlotOutsideRunning := by
  intro s hs hrun hpath
  have hslot := s.slot_of_no_capture hrun (fun h => absurd (hpath.symm.trans h) (by decide))
  have hsettled : s.slot.settled := State.settled_of_gau hs (by rw [hslot]; rfl) (by rw [hslot]; rfl)
    (by rw [hslot]; rfl)
  rw [exec_slotTime_of_settled hsettled, hslot]
  rfl

/-- Settles O6, by whether the path check has a capture to issue. -/
theorem slotOfPathCheck : Obligations.SlotOfPathCheck := by
  intro s hs hhalt hrun
  have hidle : s.fcu.state ≠ .running := by simp [hhalt]
  by_cases hissue : s.rsp.path.capture = none ∧ s.rsp.path.issued < s.rsp.path.n
  · obtain ⟨hcap, hn⟩ := hissue
    have hslot := s.slot_of_capture hhalt hrun hcap hn
    have hsettled : s.slot.settled := State.settled_of_gau hs (by rw [hslot]; rfl) (by rw [hslot]; rfl)
      (by rw [hslot]; rfl)
    refine ⟨s.slot, exec_slotTime_of_settled hsettled, ?_⟩
    rw [hslot]
    exact ⟨rfl, rfl, rfl, rfl, fun _ _ => ⟨rfl, rfl, rfl, rfl⟩, fun h => by simp [hcap] at h, rfl, rfl, rfl, rfl, rfl,
      rfl, rfl, rfl, rfl⟩
  · have hslot := s.slot_of_no_capture hidle fun _ hcap hn => hissue ⟨hcap, hn⟩
    have hsettled : s.slot.settled := State.settled_of_gau hs (by rw [hslot]; rfl) (by rw [hslot]; rfl)
      (by rw [hslot]; rfl)
    refine ⟨s.slot, exec_slotTime_of_settled hsettled, ?_⟩
    rw [hslot]
    exact ⟨rfl, rfl, rfl, rfl, fun hcap hn => absurd ⟨hcap, hn⟩ hissue, fun _ => ⟨rfl, rfl, rfl⟩, rfl, rfl, rfl, rfl,
      rfl, rfl, rfl, rfl, rfl⟩

/-! ### The request for a bank (R58) -/

theorem mem_allBanks (b : Fin 6) : b ∈ allBanks := by
  fin_cases b <;> decide

theorem allBanks_sorted : allBanks.Pairwise (· < ·) := by decide

theorem Gau.accBank_of_unique {g : Gau} {p : Prog} {b : Fin 6} (hs : g.banks[b].state = .accumulating)
    (hp : g.banks[b].prog = p)
    (hu : ∀ k : Fin 6, k ≠ b → ¬ (g.banks[k].state = .accumulating ∧ g.banks[k].prog = p)) :
    g.accBank p = some b := by
  unfold Gau.accBank
  cases h : allBanks.find? fun b => g.banks[b].state = .accumulating && g.banks[b].prog = p with
  | none =>
    have := List.find?_eq_none.1 h b (mem_allBanks b)
    simp_all
  | some c =>
    by_cases hc : c = b
    · rw [hc]
    · have := List.find?_some h
      exact absurd (by simpa using this) (hu c hc)

theorem Gau.accBank_eq_none {g : Gau} {p : Prog} (h : g.accBank p = none) (k : Fin 6) :
    ¬ (g.banks[k].state = .accumulating ∧ g.banks[k].prog = p) := by
  have := List.find?_eq_none.1 h k (mem_allBanks k)
  simpa using this

theorem Gau.freeBank_eq_none {g : Gau} (h : ∀ k : Fin 6, g.banks[k].state ≠ .free) : g.freeBank = none := by
  refine List.find?_eq_none.2 fun k _ => ?_
  simpa using h k

/-- The free bank granted is the lowest-numbered one (R58). -/
theorem Gau.freeBank_lowest {g : Gau} {b : Fin 6} (h : g.freeBank = some b) (k : Fin 6) (hk : k < b) :
    g.banks[k].state ≠ .free := by
  obtain ⟨-, as, bs, hsplit, has⟩ := List.find?_eq_some_iff_append.1 h
  have hmem : k ∈ as := by
    have hall := mem_allBanks k
    have hsorted := allBanks_sorted
    rw [hsplit] at hall hsorted
    obtain hk' | hk' := List.mem_append.1 hall
    · exact hk'
    · obtain rfl | hk' := List.mem_cons.1 hk'
      · exact absurd hk (lt_irrefl _)
      · have hlt := (List.pairwise_cons.1 (List.pairwise_append.1 hsorted).2.1).1 k hk'
        exact absurd hk (lt_asymm hlt)
  simpa using has k hmem

theorem State.bankRequest_of_acc {s : State} {p : Prog} {b : Fin 6} (h : s.gau.accBank p = some b) :
    s.bankRequest p = (s, some b) := by rw [State.bankRequest, h]

theorem State.bankRequest_of_free {s : State} {p : Prog} {b : Fin 6} (h : s.gau.accBank p = none)
    (hf : s.gau.freeBank = some b) : s.bankRequest p = (s.openBank p b, some b) := by rw [State.bankRequest, h, hf]

theorem State.bankRequest_of_none {s : State} {p : Prog} (h : s.gau.accBank p = none) (hf : s.gau.freeBank = none) :
    s.bankRequest p = (s.starve p, none) := by rw [State.bankRequest, h, hf]

theorem State.openBank_bank (s : State) (p : Prog) (b k : Fin 6) : (s.openBank p b).gau.banks[k]
    = if k = b then Bank.opened p s.progs[p] s.gau.nextSeq[p] s.slc.time else s.gau.banks[k] :=
  Gau.setBank_get s.gau b k _

/-- Settles O7, by the three answers to the request. -/
theorem bankRequestAnswers : Obligations.BankRequestAnswers := by
  intro s p
  refine ⟨fun b h => State.bankRequest_of_acc h, fun b hacc hfree => ?_, fun hnone hacc => ?_⟩
  · rw [State.bankRequest_of_free hacc hfree]
    have hopened := s.openBank_bank p b b
    rw [if_pos rfl] at hopened
    have hother : ∀ k : Fin 6, k ≠ b → (s.openBank p b).gau.banks[k] = s.gau.banks[k] := fun k hk => by
      rw [s.openBank_bank p b k, if_neg hk]
    refine ⟨rfl, Gau.freeBank_lowest hfree, ?_, hopened, hother, ?_, ?_, counted_bump (s.withGau _) _⟩
    · refine Gau.accBank_of_unique (by rw [hopened]; rfl) (by rw [hopened]; rfl) fun k hk => ?_
      rw [hother k hk]
      exact Gau.accBank_eq_none hacc k
    · exact Vector.getElem_set_self _
    · exact Vector.getElem_set_self _
  · rw [State.bankRequest_of_none hacc (Gau.freeBank_eq_none hnone)]

end Sys2Proof.Machine
end

section
/-! Slot times in RUNNING: a fired shot, a dark capture, a withheld slot (R5 to R7, R10, R11, R58 to R63). -/

namespace Sys2Proof.Machine

/-! ### The bank granted -/

/-- A request that grants a bank changes at most that bank, which it opens; no bank closes (R58). -/
theorem State.bankRequest_granted {s s1 : State} {p : Prog} {b : Fin 6} (h : s.bankRequest p = (s1, some b)) :
    s1.gau.queue = s.gau.queue ∧ (∀ k : Fin 6, k ≠ b → s1.gau.banks[k] = s.gau.banks[k])
      ∧ s1.slc = s.slc ∧ ctrsKept [Ctr.profilesOpened] s s1 := by
  cases hacc : s.gau.accBank p with
  | some c =>
    rw [State.bankRequest_of_acc hacc] at h
    cases h
    exact ⟨rfl, fun _ _ => rfl, rfl, ctrsKept_refl _ _⟩
  | none =>
    cases hfree : s.gau.freeBank with
    | none =>
      rw [State.bankRequest_of_none hacc hfree] at h
      cases h
    | some c =>
      rw [State.bankRequest_of_free hacc hfree] at h
      cases h
      exact ⟨rfl, fun k hk => by rw [s.openBank_bank p b k, if_neg hk], rfl,
        ctrsKept_bump (s.withGau _) (by decide)⟩

/-- A profile path stays settled where the bank granted at a slot time is written and does not close. -/
theorem State.settled_of_grantedBank {s s1 t : State} {p : Prog} {b : Fin 6} {k : Bank} (hs : s.settled)
    (h : s.bankRequest p = (s1, some b)) (hk : k.state ≠ .closed) (hg : t.gau = s1.gau.setBank b k)
    (hp : t.pcu = s.pcu) (hd : t.ldu = s.ldu) : t.settled := by
  obtain ⟨hqueue, hbanks, -, -⟩ := State.bankRequest_granted h
  refine State.settled_of_banks hs (by rw [hg]; exact hqueue) (fun c hc => ?_) hp hd
  rw [hg, Gau.setBank_get] at hc ⊢
  split at hc
  · exact absurd hc hk
  · rename_i hcb
    rw [if_neg hcb, hbanks c hcb]

/-- A fired shot marks its bank, and counts the slot while the window is open (R60). -/
theorem State.countSlot_fired (s : State) (b : Fin 6) (t : Fin 32) :
    (s.countSlot b (some t)).gau = s.gau.setBank b { s.gau.banks[b] with
        elapsed := if s.gau.banks[b].elapsed < s.gau.banks[b].copy.nTarget then s.gau.banks[b].elapsed + 1
          else s.gau.banks[b].elapsed
        ownShot := some t }
      ∧ ctrsKept [Ctr.slotsPastWindow] s (s.countSlot b (some t)) := by
  unfold State.countSlot
  dsimp only
  split
  · exact ⟨by simp, ctrsKept_refl _ _⟩
  · exact ⟨by simp, ctrsKept_bump (s.withGau _) (by decide)⟩

/-- Settles O8, by the decision of a granted slot; the bank written does not close. -/
theorem slotFiresShot : Obligations.SlotFiresShot := by
  intro s s1 p b hs hrun hslot hen hreq hshot hbudget
  let u := s.slotGranted p
  have hgranted : s.slot = ((u.fireShot p).countSlot b (some s.fcu.pointer)).enterCharge s.progs[p].eRef := by
    rw [s.slot_fire p hrun hslot hen, hreq]
    have hu : u.fcu = s.fcu.slotBegun := by simp [u]
    have hprogs : u.progs = s.progs := by simp [u]
    have hfires := u.fireSlot_fires p b (by rw [hu]; exact hshot) (by rw [hu, hprogs]; exact hbudget)
    rw [hprogs, hu] at hfires
    exact hfires
  obtain ⟨hbank, hcounted⟩ := (u.fireShot p).countSlot_fired b s.fcu.pointer
  have hgau : (u.fireShot p).gau = s1.gau := by simp [u, State.fireShot, State.setShot, State.pulse, hreq]
  rw [hgau] at hbank
  have hstate := State.bankRequest_state hreq
  have hgauSlot : s.slot.gau = s1.gau.setBank b { s1.gau.banks[b] with
          elapsed := if s1.gau.banks[b].elapsed < s1.gau.banks[b].copy.nTarget
                     then s1.gau.banks[b].elapsed + 1 else s1.gau.banks[b].elapsed
          ownShot := some s.fcu.pointer } := by rw [hgranted]; exact hbank
  obtain ⟨-, -, hslc, hopened⟩ := State.bankRequest_granted hreq
  have hopenedU : ctrsKept [Ctr.profilesOpened] s u := fun c hc => by
    have := hopened c hc
    simpa [u, hreq] using this
  have hfired : ctrsKept [Ctr.slotsPastWindow] (u.fireShot p) s.slot := by rw [hgranted]; exact hcounted
  have hsettled : s.slot.settled := State.settled_of_grantedBank hs hreq (by rw [hstate]; decide) hgauSlot
    (by simp) (by simp)
  refine ⟨s.slot, exec_slotTime_of_settled hsettled, ?_, hgauSlot, ?_, ?_, ?_⟩
  · rw [hgranted]
    simp [State.fireShot, State.setShot, State.pulse, u, Fcu.slotBegun]
  · exact counted_after_kept hopenedU (by decide) (counted_before_kept
      (counted_bump (((u.withFcu _).pulse true false).setShot .fire p) _) hfired (by decide))
  · refine ctrsKept_trans (ctrsKept_mono hopenedU (by decide)) ?_
    exact ctrsKept_trans (ctrsKept_bump (((u.withFcu _).pulse true false).setShot .fire p) (by decide))
      (ctrsKept_mono hfired (by decide))
  · rw [hgranted]
    simp [State.fireShot, State.setShot, State.pulse, u, hreq, hslc]

/-- Settles O9, by the decision of a DARK slot with no shot in flight. -/
theorem slotTakesDarkCapture : Obligations.SlotTakesDarkCapture := by
  intro s p hs hrun hslot hen hshot
  have hdark : s.slot = ((s.withFcu s.fcu.slotBegun).fireDark p).enterCharge 0 := by
    rw [s.slot_dark p hrun hslot hen, if_neg (by simp [hshot])]
  have hsettled : s.slot.settled := State.settled_of_gau hs (by rw [hdark]; rfl) (by rw [hdark]; rfl)
    (by rw [hdark]; rfl)
  refine ⟨s.slot, exec_slotTime_of_settled hsettled, ?_⟩
  rw [hdark]
  have hcount : counted Ctr.darkCaptures s _ := counted_bump
    (((s.withFcu s.fcu.slotBegun).pulse false false).setShot .dark p) Ctr.darkCaptures
  exact ⟨rfl, hcount, ctrsKept_bump (s.withFcu _) (by decide), rfl, rfl, rfl, rfl, rfl, rfl, rfl, rfl, rfl⟩

/-! ### Withheld slots (R5, R10, R11, R59, R60) -/

/-- The profile path keeps what a starved program is (R59). -/
theorem State.moveProfiles_starved (s : State) : s.moveProfiles.gau.starved = s.gau.starved :=
  State.moveProfiles_rel (R := fun s t => t.gau.starved = s.gau.starved) (fun _ => rfl) (fun h k => k.trans h)
    (fun s b k => by
      by_cases h : s.gau.banks[b].outcome.getD .void = .void
      · rw [s.condBegin_of_void k h, s.passVoid_gau]; rfl
      · rw [s.condBegin_of_not_void k h]; rfl)
    (fun s k => by simp)
    (fun s => by unfold State.countWait; split; · rfl
                 · dsimp only; split <;> rfl) s

/-- A slot time with what it sets off in the profile path. -/
theorem State.slot_moved {s : State} {c : Ctr} (h : counted c s s.slot) (hc : c ∉ pathCtrs) :
    counted c s s.slot.moveProfiles := counted_before_kept h (State.moveProfiles_ctrsKept _) hc

theorem State.starve_starved (s : State) (p : Prog) : (s.starve p).gau.starved[p] = true := by
  cases h : s.gau.starved[p] with
  | true => rw [s.starve_of_starved p h]; exact h
  | false =>
    rw [s.starve_of_fed p h]
    simp

theorem State.starve_counted (s : State) (p : Prog) : counted Ctr.withheldNoBank s (s.starve p) := by
  cases h : s.gau.starved[p] with
  | true => rw [s.starve_of_starved p h]; exact counted_bump _ _
  | false =>
    rw [s.starve_of_fed p h]
    refine counted_before_kept (counted_bump s _) (ctrsKept_trans (ctrsKept_bump (cs :=
      Ctr.starvationSpells :: raiseCtrs) (State.withGau _ _) (by decide))
      (ctrsKept_mono (State.raise_ctrsKept _ _) (by simp +contextual))) (by decide)

/-- The two reasons to withhold a granted slot (R5, R10). -/
def State.withholds (s : State) (p : Prog) : Prop :=
  s.fcu.shot.isSome = true ∨ s.fcu.budgetOk s.progs[p].eRef = false

/-- The counters of a withheld slot, the slot counted past its window apart (R10, R11). -/
def withheldCtrs : List Ctr := [Ctr.withheldBusy, Ctr.withheldBudget] ++ raiseCtrs

theorem State.holdBudget_ctrs (s : State) : counted Ctr.withheldBudget s s.holdBudget
    ∧ ctrsKept withheldCtrs s s.holdBudget := by
  unfold State.holdBudget
  dsimp only
  split
  · exact ⟨counted_bump _ _, ctrsKept_bump _ (by decide)⟩
  · have hraise := State.raise_ctrsKept ((s.bump Ctr.withheldBudget).withFcu
      { (s.bump Ctr.withheldBudget).fcu with budgetHold := true }) .budgetHold
    exact ⟨counted_before_kept (counted_bump s _) hraise (by decide),
      ctrsKept_trans (ctrsKept_bump s (by decide)) (ctrsKept_mono hraise (by decide))⟩

/-- A granted slot that is withheld is counted against its bank, and a charge of 0 enters the window: BUSY
before BUDGET (R5, R10, R11, R60). -/
theorem State.slot_withheld (s : State) (p : Prog) {b : Fin 6} (hrun : s.fcu.state = .running)
    (hslot : s.fcu.schedule[s.fcu.pointer] = .fire p) (hen : s.progs[p].enabled = true)
    (hreq : (s.bankRequest p).2 = some b) (hw : s.withholds p) :
    ∃ u : State, s.slot = (u.countSlot b none).enterCharge 0 ∧ u.gau = (s.bankRequest p).1.gau ∧ u.rsp = s.rsp
      ∧ u.pcu = s.pcu ∧ u.ldu = s.ldu ∧ u.progs = s.progs ∧ ctrsKept withheldCtrs (s.slotGranted p) u
      ∧ (s.fcu.shot.isSome = true → u.fcu = s.fcu.slotBegun ∧ counted Ctr.withheldBusy (s.slotGranted p) u)
      ∧ (s.fcu.shot = none → u.fcu = { s.fcu.slotBegun with budgetHold := true }
          ∧ counted Ctr.withheldBudget (s.slotGranted p) u) := by
  have hfire := s.slot_fire p hrun hslot hen
  rw [hreq] at hfire
  have hfcu : (s.slotGranted p).fcu = s.fcu.slotBegun := by simp
  by_cases hshot : s.fcu.shot = none
  · have hbudget : s.fcu.budgetOk s.progs[p].eRef = false := by
      obtain hbusy | hbudget := hw
      · simp [hshot] at hbusy
      · exact hbudget
    obtain ⟨hcounted, hkept⟩ := (s.slotGranted p).holdBudget_ctrs
    refine ⟨(s.slotGranted p).holdBudget, ?_, by simp, by simp, by simp, by simp, by simp, hkept,
      fun h => by simp [hshot] at h, fun _ => ⟨by simp, hcounted⟩⟩
    rw [hfire]
    have hprogs : (s.slotGranted p).progs = s.progs := by simp
    exact State.fireSlot_overBudget _ p b (by rw [hfcu]; exact hshot) (by rw [hfcu, hprogs]; exact hbudget)
  · refine ⟨(s.slotGranted p).bump Ctr.withheldBusy, ?_, by simp, by simp, by simp, by simp, by simp,
      ctrsKept_bump _ (by decide), fun _ => ⟨by simp, counted_bump _ _⟩, fun h => absurd h hshot⟩
    rw [hfire]
    exact State.fireSlot_busy _ p b (by rw [hfcu]; exact Option.isSome_iff_ne_none.2 hshot)

/-- The counters of a slot counted against its bank (R60, R63). -/
def countSlotCtrs : List Ctr := Ctr.slotsPastWindow :: outcomeCtrs

theorem State.countSlot_ctrsKept (s : State) (b : Fin 6) : ctrsKept countSlotCtrs s (s.countSlot b none) := by
  unfold State.countSlot
  dsimp only
  split
  · exact ctrsKept_mono (State.closeIfDone_ctrsKept (s.withGau _) b) (by decide)
  · exact ctrsKept_bump (s.withGau _) (by decide)

theorem State.slotGranted_ctrsKept (s : State) (p : Prog) {b : Fin 6} (h : (s.bankRequest p).2 = some b) :
    ctrsKept [Ctr.profilesOpened] s (s.slotGranted p) := by
  obtain ⟨-, -, -, hkept⟩ := State.bankRequest_granted (s := s) (s1 := (s.bankRequest p).1) (b := b) (p := p)
    (by rw [← h])
  exact fun c hc => by simpa using hkept c hc

/-- Settles O10, reason by reason; the profile path leaves the FCU, the RSP and the starvation marks alone. -/
theorem slotWithheld : Obligations.SlotWithheld := by
  intro s p hrun hen
  have hgranted : ∀ b, (s.bankRequest p).2 = some b → ∀ {c : Ctr} {u : State},
      s.slot = (u.countSlot b none).enterCharge 0 → counted c (s.slotGranted p) u →
      c ∉ Ctr.profilesOpened :: countSlotCtrs ++ pathCtrs → counted c s s.slot.moveProfiles := by
    intro b hb c u hslot hcount hc
    simp only [List.cons_append, List.mem_cons, List.mem_append, not_or] at hc
    obtain ⟨hopened, hwindow, hpath⟩ := hc
    have hbank := counted_after_kept (s.slotGranted_ctrsKept p hb) (by simpa using hopened) hcount
    have hslotCount : counted c s s.slot := by
      rw [hslot]
      exact counted_before_kept hbank (u.countSlot_ctrsKept b) hwindow
    exact s.slot_moved hslotCount hpath
  refine ⟨fun hslot hshot => ?_, fun hslot hnone => ?_, fun hslot hsome hshot => ?_, fun hslot hsome hshot hover => ?_⟩
    <;> refine ⟨s.slot.moveProfiles, rfl, ?_⟩
  · have hdark := s.slot_dark p hrun hslot hen
    rw [if_pos hshot] at hdark
    refine ⟨?_, s.slot_moved (by rw [hdark]; exact counted_bump (s.withFcu _) _) (by decide), ?_⟩ <;>
      simp [hdark, Fcu.slotBegun]
  · have hfire := s.slot_fire p hrun hslot hen
    rw [hnone] at hfire
    have hstarve : (s.bankRequest p).1 = s.starve p := by
      cases hacc : s.gau.accBank p with
      | some b => rw [State.bankRequest_of_acc hacc] at hnone; cases hnone
      | none =>
        cases hfree : s.gau.freeBank with
        | some b => rw [State.bankRequest_of_free hacc hfree] at hnone; cases hnone
        | none => rw [State.bankRequest_of_none hacc hfree]
    refine ⟨by simp [hfire, Fcu.slotBegun], s.slot_moved ?_ (by decide), by simp [hfire], ?_⟩
    · rw [hfire]
      have := s.starve_counted p
      simpa [counted, State.enterCharge, hstarve] using this
    · rw [State.moveProfiles_starved, hfire]
      have := s.starve_starved p
      simpa [State.enterCharge, hstarve] using this
  · obtain ⟨b, hb⟩ := Option.isSome_iff_exists.1 hsome
    obtain ⟨u, heq, -, hrsp, -, -, -, -, hbusy, -⟩ := s.slot_withheld p hrun hslot hen hb (.inl hshot)
    obtain ⟨hfcu, hcount⟩ := hbusy hshot
    refine ⟨?_, hgranted b hb heq hcount (by decide), ?_⟩
    · simp [heq, hfcu, Fcu.slotBegun]
    · simp [heq, hrsp]
  · obtain ⟨b, hb⟩ := Option.isSome_iff_exists.1 hsome
    obtain ⟨u, heq, -, hrsp, -, -, -, -, -, hbudget⟩ := s.slot_withheld p hrun hslot hen hb (.inr hover)
    obtain ⟨hfcu, hcount⟩ := hbudget hshot
    refine ⟨?_, hgranted b hb heq hcount (by decide), ?_⟩
    · simp [heq, hfcu, Fcu.slotBegun]
    · simp [heq, hrsp]

/-! ### Slots counted against their bank (R60, R62, R63) -/

theorem outcomeOf_eq (n t : Nat) :
    outcomeOf n t = if t ≤ 2 * n then .complete else if n = 0 then .void else .degraded := by
  cases n <;> simp [outcomeOf]

/-- A bank as it closes (R62, R63, R90). -/
def Bank.closedAs (k : Bank) : Bank :=
  { k with state := .closed, outcome := some (outcomeOf k.nAcc k.copy.nTarget), waitCounted := false }

theorem State.closeBank_gau (s : State) (b : Fin 6) : (s.closeBank b).gau
    = { s.gau.setBank b (s.gau.banks[b]).closedAs with queue := s.gau.queue ++ [b] } := rfl

theorem Gau.setBank_setBank (g : Gau) (b : Fin 6) (k m : Bank) : (g.setBank b k).setBank b m = g.setBank b m := by
  simp [Gau.setBank]

/-- A withheld slot that completes the window with no own shot in flight closes the bank (R62). -/
theorem State.countSlot_closes (s : State) (b : Fin 6)
    (hlast : s.gau.banks[b].elapsed + 1 = s.gau.banks[b].copy.nTarget) (hown : s.gau.banks[b].ownShot = none) :
    (s.countSlot b none).gau = { s.gau.setBank b ({ s.gau.banks[b] with
        elapsed := s.gau.banks[b].copy.nTarget } : Bank).closedAs with queue := s.gau.queue ++ [b] } := by
  have hlt : s.gau.banks[b].elapsed < s.gau.banks[b].copy.nTarget := by omega
  have hget := Gau.setBank_get s.gau b b { s.gau.banks[b] with elapsed := s.gau.banks[b].elapsed + 1 }
  rw [if_pos rfl] at hget
  have hopen : s.countSlot b none
      = (s.withGau (s.gau.setBank b { s.gau.banks[b] with elapsed := s.gau.banks[b].elapsed + 1 })).closeIfDone b :=
    if_pos hlt
  have hdone : (s.withGau (s.gau.setBank b { s.gau.banks[b] with
      elapsed := s.gau.banks[b].elapsed + 1 })).closeIfDone b = State.closeBank _ b :=
    if_pos (by
      rw [State.withGau_gau, hget]
      exact ⟨hlast, hown⟩)
  rw [hopen, hdone, State.closeBank_gau, State.withGau_gau, hget, Gau.setBank_setBank, ← hlast]
  rfl

/-- A withheld slot that leaves the window open, or a shot in flight, is counted alone (R60). -/
theorem State.countSlot_counts (s : State) (b : Fin 6)
    (hlt : s.gau.banks[b].elapsed < s.gau.banks[b].copy.nTarget)
    (hopen : s.gau.banks[b].elapsed + 1 < s.gau.banks[b].copy.nTarget ∨ s.gau.banks[b].ownShot.isSome = true) :
    s.countSlot b none
      = s.withGau (s.gau.setBank b { s.gau.banks[b] with elapsed := s.gau.banks[b].elapsed + 1 }) := by
  have hget := Gau.setBank_get s.gau b b { s.gau.banks[b] with elapsed := s.gau.banks[b].elapsed + 1 }
  rw [if_pos rfl] at hget
  have hcount : s.countSlot b none
      = (s.withGau (s.gau.setBank b { s.gau.banks[b] with elapsed := s.gau.banks[b].elapsed + 1 })).closeIfDone b :=
    if_pos hlt
  rw [hcount]
  refine if_neg ?_
  rw [State.withGau_gau, hget]
  rintro ⟨hdone, hown⟩
  obtain hopen | hopen := hopen
  · simp only at hdone
    omega
  · exact absurd hopen (by rw [show s.gau.banks[b].ownShot = none from hown]; decide)

theorem State.countSlot_past (s : State) (b : Fin 6)
    (hpast : s.gau.banks[b].copy.nTarget ≤ s.gau.banks[b].elapsed) :
    (s.countSlot b none).gau = s.gau ∧ counted Ctr.slotsPastWindow s (s.countSlot b none) := by
  have hcount : s.countSlot b none = (s.withGau (s.gau.setBank b s.gau.banks[b])).bump Ctr.slotsPastWindow :=
    if_neg (by omega)
  rw [hcount]
  refine ⟨?_, counted_bump (s.withGau _) _⟩
  simp [Gau.setBank]

/-- Settles O11, by what a withheld slot makes of its bank; the closing bank joins behind the queue's head. -/
theorem withheldSlotClosesBank : Obligations.WithheldSlotClosesBank := by
  have hwithholds : ∀ (s : State) (p : Prog), (s.fcu.shot.isSome = true
      ∨ s.fcu.firing.budgetLimit < (s.fcu.window.take 1023).sum + s.progs[p].eRef) → s.withholds p := fun s p h =>
    h.imp_right fun hb => decide_eq_false (Nat.not_le.2 hb)
  refine ⟨fun s p b hrun hen hslot hacc hw hlast hown hpcu hldu hqueue hfresh hwait => ?_,
    fun s s1 p b hs hrun hen hslot hreq hw => ?_⟩
  · have hreq := State.bankRequest_of_acc hacc
    obtain ⟨u, heq, hgau, -, hpcuU, hlduU, -, -, hbusy, hbudget⟩ :=
      s.slot_withheld p hrun hslot hen (b := b) (by rw [hreq]) (hwithholds s p hw)
    rw [hreq] at hgau
    have hclosed : s.slot.gau = { s.gau.setBank b ({ s.gau.banks[b] with
        elapsed := s.gau.banks[b].copy.nTarget } : Bank).closedAs with queue := s.gau.queue ++ [b] } := by
      rw [heq, ← hgau]
      exact u.countSlot_closes b (by rw [hgau]; exact hlast) (by rw [hgau]; exact hown)
    have hpcuSlot : s.slot.pcu = s.pcu := by simp
    have hlduSlot : s.slot.ldu = s.ldu := by simp
    have hbank : ∀ k : Fin 6, s.slot.gau.banks[k] = if k = b then
        ({ s.gau.banks[b] with elapsed := s.gau.banks[b].copy.nTarget } : Bank).closedAs else s.gau.banks[k] := by
      intro k
      rw [hclosed]
      exact Gau.setBank_get s.gau b k _
    have hmoved : s.slot.moveProfiles = s.slot := by
      rw [State.moveProfiles_of_nothing (State.condReady_none_of_job (by rw [hpcuSlot]; exact hpcu))
        (State.detReady_none_of_job (by rw [hlduSlot]; exact hldu))]
      refine State.countWait_of_not_waits fun k ⟨hhead, hstate, hfree, hcounted⟩ => ?_
      obtain ⟨c, cs, hcs⟩ := List.exists_cons_of_ne_nil hqueue
      rw [hclosed, hcs] at hhead
      obtain rfl : c = k := Option.some.inj hhead
      have hck : c ≠ b := fun h => hfresh (by rw [hcs, h]; exact List.mem_cons_self)
      rw [hbank, if_neg hck] at hstate hcounted
      exact State.waitSettled_iff.1 hwait c ⟨by rw [hcs]; rfl, hstate, hpcuSlot ▸ hfree, hcounted⟩
    refine ⟨s.slot, congrArg Host.Outcome.next hmoved, by rw [hclosed], ?_, fun k hk => by rw [hbank, if_neg hk],
      hpcuSlot, hlduSlot, ?_⟩
    · rw [hbank, if_pos rfl]
      have houtcome : outcomeOf s.gau.banks[b].nAcc s.gau.banks[b].copy.nTarget
          = if s.gau.banks[b].copy.nTarget ≤ 2 * s.gau.banks[b].nAcc then .complete
            else if s.gau.banks[b].nAcc = 0 then .void else .degraded := outcomeOf_eq _ _
      rw [← houtcome]
      rfl
    · have hfcu : u.fcu.shot = s.fcu.shot ∧ u.fcu.pulses = Pulses.quiet := by
        by_cases hshot : s.fcu.shot = none
        · simp [(hbudget hshot).1, Fcu.slotBegun]
        · simp [(hbusy (Option.isSome_iff_ne_none.2 hshot)).1, Fcu.slotBegun]
      simpa [heq] using hfcu
  · have hreq2 : (s.bankRequest p).2 = some b := by rw [hreq]
    obtain ⟨u, heq, hgau, -, -, -, -, hkept, -⟩ := s.slot_withheld p hrun hslot hen hreq2 (hwithholds s p hw)
    rw [hreq] at hgau
    have hstate := State.bankRequest_state hreq
    have hctr : ctrsKept (Ctr.profilesOpened :: withheldCtrs) s u :=
      ctrsKept_trans (ctrsKept_mono (s.slotGranted_ctrsKept p hreq2) (by simp))
        (ctrsKept_mono hkept (by simp +contextual))
    refine ⟨fun hlt hopen => ?_, fun hpast => ?_⟩
    · have hcount := u.countSlot_counts b (by rw [hgau]; exact hlt) (by rw [hgau]; exact hopen)
      have hslotGau : s.slot.gau = s1.gau.setBank b { s1.gau.banks[b] with elapsed := s1.gau.banks[b].elapsed + 1 } := by
        rw [heq, hcount, ← hgau]
        rfl
      refine ⟨s.slot, exec_slotTime_of_settled (State.settled_of_grantedBank hs hreq ?_ hslotGau (by simp) (by simp)),
        hslotGau, ?_, by simp, by simp⟩
      · simp only
        rw [hstate]
        decide
      · rw [heq, hcount]
        exact hctr _ (by decide)
    · obtain ⟨hkeep, hcount⟩ := u.countSlot_past b (by rw [hgau]; exact hpast)
      have hslotGau : s.slot.gau = s1.gau := by rw [heq, ← hgau]; exact hkeep
      have hsame : s1.gau = s1.gau.setBank b s1.gau.banks[b] := by simp [Gau.setBank]
      refine ⟨s.slot, exec_slotTime_of_settled (State.settled_of_grantedBank hs hreq (by rw [hstate]; decide)
        (hslotGau.trans hsame) (by simp) (by simp)), hslotGau, ?_, by simp, by simp⟩
      rw [heq]
      exact counted_after_kept hctr (by decide) hcount

end Sys2Proof.Machine
end

section
/-! The burst timeout, the opening of INTERLOCK, and the servo of a program (R9, R15, R17 to R20, R22, R45). -/

namespace Sys2Proof.Machine

/-! ### The burst timeout (R9, R15, R45, R48) -/

theorem State.timeoutExpires_of_path (s : State) {tm : BurstTimer} (h : s.fcu.burstTimer = some tm)
    (hp : s.pathExpiring tm.tag = true) : s.timeoutExpires
      = ((s.withFcu { s.fcu with burstTimer := none }).bump Ctr.pathLost).settlePath := by
  rw [State.timeoutExpires, h]
  exact if_pos hp

theorem State.timeoutExpires_of_shot (s : State) {tm : BurstTimer} {sh : Shot} (h : s.fcu.burstTimer = some tm)
    (hp : s.pathExpiring tm.tag = false) (hs : s.shotExpiring tm.tag = some sh) :
    s.timeoutExpires = (s.withFcu { s.fcu with burstTimer := none }).loseShot sh := by
  have hp' : (s.withFcu { s.fcu with burstTimer := none }).pathExpiring tm.tag = false := hp
  have hs' : (s.withFcu { s.fcu with burstTimer := none }).shotExpiring tm.tag = some sh := hs
  rw [State.timeoutExpires, h]
  simp only [hp', hs', Bool.false_eq_true, if_false]

theorem State.timeoutExpires_of_stale (s : State) {tm : BurstTimer} (h : s.fcu.burstTimer = some tm)
    (hp : s.pathExpiring tm.tag = false) (hs : s.shotExpiring tm.tag = none) :
    s.timeoutExpires = s.withFcu { s.fcu with burstTimer := none } := by
  have hp' : (s.withFcu { s.fcu with burstTimer := none }).pathExpiring tm.tag = false := hp
  have hs' : (s.withFcu { s.fcu with burstTimer := none }).shotExpiring tm.tag = none := hs
  rw [State.timeoutExpires, h]
  simp only [hp', hs', Bool.false_eq_true, if_false]

/-- A path-check capture that is not outstanding under the tag, or has its header, does not expire. -/
theorem State.pathExpiring_of_stale (s : State) (tag : Byte)
    (h : ∀ c : PathCapture, s.rsp.path.capture = some c → c.tag ≠ tag ∨ c.headerTaken = true) :
    s.pathExpiring tag = false := by
  unfold State.pathExpiring
  split
  · rename_i c hc
    obtain hc | hc := h c hc <;> simp [hc]
  · rfl

theorem State.shotExpiring_of_stale (s : State) (tag : Byte)
    (h : ∀ sh : Shot, s.fcu.shot = some sh → sh.tag ≠ tag ∨ sh.headerTaken = true) : s.shotExpiring tag = none := by
  unfold State.shotExpiring
  split
  · rename_i sh hsh
    obtain hsh | hsh := h sh hsh <;> simp [hsh]
  · rfl

/-- What losing a shot makes of the FCU before a trip: the shot is settled and the lost run advances (R15). -/
theorem State.loseShot_eq (s : State) (sh : Shot) : ∃ u : State,
    s.loseShot sh = (if 8 ≤ s.fcu.lostRun + 1 then u.tripFcu .noReceiver sh.slot else u)
      ∧ u.fcu = { s.fcu with shot := none, lostRun := s.fcu.lostRun + 1 } ∧ u.rsp = s.rsp ∧ u.slc = s.slc
      ∧ counted Ctr.lostCaptures s u ∧ ctrsKept (Ctr.lostCaptures :: outcomeCtrs) s u := by
  let u := ((s.settleShot sh .lost).bump Ctr.lostCaptures).withFcu
    { (s.settleShot sh .lost).fcu with lostRun := s.fcu.lostRun + 1 }
  have hrun : (s.settleShot sh .lost).fcu.lostRun = s.fcu.lostRun := by rw [s.settleShot_fcu]
  have hkept := s.settleShot_ctrsKept sh .lost
  refine ⟨u, ?_, by simp [u, s.settleShot_fcu], by simp [u], by simp [u], ?_, ?_⟩
  · simp only [State.loseShot, State.bump_fcu, hrun]
    rfl
  · exact counted_after_kept hkept (by decide) (counted_bump (s.settleShot sh .lost) _)
  · exact ctrsKept_trans (ctrsKept_mono hkept (by decide)) (ctrsKept_bump (s.settleShot sh .lost) (by decide))

/-- A settled path-check capture; with the last of n settled the check ends (R45, R48). -/
theorem State.settlePath_rsp {s : State} (h : s.rsp.path.running = true) : s.settlePath.rsp
    = { s.rsp with path := { s.rsp.path with
        capture := none
        settled := s.rsp.path.settled + 1
        running := decide (s.rsp.path.issued ≠ s.rsp.path.n) } } := by
  have hend : (s.rsp.path.running && !decide (s.rsp.path.issued = s.rsp.path.n))
      = decide (s.rsp.path.issued ≠ s.rsp.path.n) := by
    rw [h, Bool.true_and, decide_not]
  rw [← hend]
  rfl

/-- Settles O13, by what the timer's tag finds outstanding: a shot, a path-check capture, or neither. -/
theorem burstTimeoutLosesCapture : Obligations.BurstTimeoutLosesCapture := by
  intro s tm htimer
  refine ⟨fun sh hstale hshot htag hheader => ?_, fun c hs hcap htag hheader hrun => ?_, fun hs hstale hother => ?_⟩
  · have hexp : s.shotExpiring tm.tag = some sh := by simp [State.shotExpiring, hshot, htag, hheader]
    have heq := s.timeoutExpires_of_shot htimer (s.pathExpiring_of_stale _ hstale) hexp
    obtain ⟨u, hlose, hfcu, hrsp, hslc, hcounted, hkept⟩ :=
      (s.withFcu { s.fcu with burstTimer := none }).loseShot_eq sh
    rw [← heq] at hlose
    have hlost : counted Ctr.lostCaptures s u := hcounted
    have htripped : ctrsKept (ceaseCtrs ++ TripCause.noReceiver.ctr :: raiseCtrs) u (u.tripFcu .noReceiver sh.slot) :=
      ctrsKept_trans (ctrsKept_mono u.ceaseFire_ctrsKept (by simp +contextual))
        (ctrsKept_trans (ctrsKept_bump (State.withFcu _ _) (by simp))
          (ctrsKept_mono (State.raise_ctrsKept _ .trip) (by simp +contextual)))
    refine ⟨s.timeoutExpires.moveProfiles, rfl, ?_, fun hfew => ?_, fun hseven => ?_⟩
    · refine counted_before_kept ?_ (State.moveProfiles_ctrsKept _) (by decide)
      rw [hlose]
      split
      · exact counted_before_kept hlost htripped (by decide)
      · exact hlost
    · have hnot : ¬ 8 ≤ (s.withFcu { s.fcu with burstTimer := none }).fcu.lostRun + 1 := by
        simp only [State.withFcu_fcu]
        omega
      rw [if_neg hnot] at hlose
      simp [hlose, hfcu, hrsp]
    · have hpos : 8 ≤ (s.withFcu { s.fcu with burstTimer := none }).fcu.lostRun + 1 := by
        simp only [State.withFcu_fcu]
        omega
      rw [if_pos hpos] at hlose
      have hcause : counted TripCause.noReceiver.ctr s s.timeoutExpires.moveProfiles := by
        rw [hlose]
        refine counted_before_kept ?_ (State.moveProfiles_ctrsKept _) (by decide)
        have hbefore : ctrsKept (Ctr.lostCaptures :: outcomeCtrs) s u := hkept
        exact counted_after_kept hbefore (by decide) (u.tripFcu_counted _ _)
      refine ⟨?_, ?_⟩
      · rw [hlose] at hcause ⊢
        simp [State.tripsTo, hcause, State.tripFcu_fcu, hfcu, hslc]
      · simp [hlose, State.tripFcu_fcu, hfcu]
  · have hexp : s.pathExpiring tm.tag = true := by simp [State.pathExpiring, hcap, htag, hheader]
    have heq := s.timeoutExpires_of_path htimer hexp
    have hsettled : s.timeoutExpires.settled := State.settled_of_gau hs (by rw [heq]; rfl) (by rw [heq]; rfl)
      (by rw [heq]; rfl)
    refine ⟨s.timeoutExpires, congrArg Host.Outcome.next hsettled.moveProfiles, ?_⟩
    rw [heq]
    have hcount : counted Ctr.pathLost s _ := counted_bump (s.withFcu { s.fcu with burstTimer := none }) Ctr.pathLost
    refine ⟨rfl, ?_, hcount, ctrsKept_bump (s.withFcu _) (by decide), rfl, rfl⟩
    exact State.settlePath_rsp hrun
  · have heq := s.timeoutExpires_of_stale htimer (s.pathExpiring_of_stale _ hstale) (s.shotExpiring_of_stale _ hother)
    have hsettled : s.timeoutExpires.settled := State.settled_of_gau hs (by rw [heq]; rfl) (by rw [heq]; rfl)
      (by rw [heq]; rfl)
    exact (congrArg Host.Outcome.next hsettled.moveProfiles).trans (by rw [heq]; rfl)

/-! ### INTERLOCK opens (R21, R22) -/

theorem State.tripFcu_settings (s : State) (cause : TripCause) (slot : Fin 32) :
    (s.tripFcu cause slot).slc.sameSettings s.slc := by
  have hcease : s.ceaseFire.slc = s.slc := by simp
  rw [← hcease]
  exact (Link.raise_settings _ .trip).1

/-- Settles O14, by the state in which the FCU finds the pin open. -/
theorem interlockOpening : Obligations.InterlockOpening := by
  intro s hclosed
  refine ⟨s.interlockOpens, rfl, ?_⟩
  have hopen : s.interlockOpens = match s.fcu.state with
      | .running => (s.withFcu { s.fcu with interlockClosed := false }).tripFcu .interlock s.fcu.lastSlot
      | .tripped => (((s.withFcu { s.fcu with interlockClosed := false }).withFcu
          { (s.withFcu { s.fcu with interlockClosed := false }).fcu with
            trip := s.fcu.trip.map fun r => { r with additionalInterlock := true } }).bump Ctr.tripsInterlock).raise .trip
      | .halted => (s.withFcu { s.fcu with interlockClosed := false }).bump Ctr.interlockOpenings := if_pos hclosed
  have hraise := fun u : State => (Link.raise_settings u.link .trip).1
  cases hstate : s.fcu.state with
  | halted =>
    rw [hstate] at hopen
    rw [hopen]
    have hcount : counted Ctr.interlockOpenings s _ :=
      counted_bump (s.withFcu { s.fcu with interlockClosed := false }) Ctr.interlockOpenings
    exact ⟨rfl, rfl, rfl, rfl, rfl, rfl, Slc.sameSettings_refl _, nofun, nofun, fun _ => ⟨rfl, hcount,
      ctrsKept_bump (s.withFcu _) (by decide), rfl, rfl, rfl, rfl⟩⟩
  | tripped =>
    rw [hstate] at hopen
    rw [hopen]
    refine ⟨by simp, by simp, by simp, by simp, by simp, by simp, hraise _, nofun, fun _ => ⟨by simp, ?_, by simp,
      by simp, by simp⟩, nofun⟩
    exact counted_before_kept (counted_bump (State.withFcu (s.withFcu { s.fcu with interlockClosed := false }) _) _)
      (State.raise_ctrsKept _ .trip) (by decide)
  | running =>
    rw [hstate] at hopen
    rw [hopen]
    have hcount := (s.withFcu { s.fcu with interlockClosed := false }).tripFcu_counted .interlock s.fcu.lastSlot
    refine ⟨by simp [State.tripFcu_fcu], by simp, by simp, by simp, by simp, by simp, ?_, fun _ => ⟨?_, ?_, ?_, ?_⟩,
      nofun, nofun⟩
    · exact State.tripFcu_settings (s.withFcu { s.fcu with interlockClosed := false }) _ _
    · refine ⟨?_, ?_, ?_, ?_, ?_, ?_, ?_, ?_, ?_, ?_, ?_, hcount⟩ <;> simp [State.tripFcu_fcu, Fcu.lastSlot]
    · simp [State.tripFcu_fcu]
    · simp [State.tripFcu]
    · simp [State.tripFcu]

end Sys2Proof.Machine
end

section
/-! What a reading does to a servo record (R17 to R20). -/

namespace Sys2Proof.Machine

theorem clampInt_eq {lo hi : Int} (h : lo ≤ hi) (a : Int) : clampInt lo hi a = max lo (min hi a) := by
  unfold clampInt
  split
  · omega
  · split <;> omega

theorem driveBy_eq (d m : Nat) (x : Int) : driveBy d x m = (max 0 (min (m : Int) (d + x))).toNat := by
  rw [driveBy, clampInt_eq (by omega)]

theorem driveBy_le (d m : Nat) (x : Int) : driveBy d x m ≤ m := by
  rw [driveBy_eq]
  omega

/-- A drive within its range moves no further than the step. -/
theorem dist_driveBy {d m n : Nat} {x : Int} (hd : d ≤ m) (hx : x.natAbs ≤ n) : dist (driveBy d x m) d ≤ n := by
  rw [driveBy_eq, dist]
  omega

/-- The lock run that a reading would leave (R18). -/
def Servo.runAfter (v : Servo) (r : ProgramRec) (e : Int) : Nat :=
  if e.natAbs ≤ r.eRef / 16 then v.lockRun + 1 else 0

theorem Servo.feed_manual {v : Servo} (h : v.mode = .manual) (r : ProgramRec) (e : Int) : v.feed r e = v := by
  rw [Servo.feed, h]

theorem Servo.feed_acquire {v : Servo} (h : v.mode = .acquire) (r : ProgramRec) (e : Int) : v.feed r e = { v with
    drive := driveBy v.drive (max (-16) (min 16 (roundDiv e 64))) r.driveMax
    lockRun := min (v.runAfter r e) 8
    mode := if 8 ≤ v.runAfter r e then .track else .acquire
    groupSum := if 8 ≤ v.runAfter r e then 0 else v.groupSum
    groupCount := if 8 ≤ v.runAfter r e then 0 else v.groupCount } := by
  rw [Servo.feed, h]
  simp only [Servo.feedAcquire, clampInt_eq (show (-16 : Int) ≤ 16 by decide)]
  by_cases hrun : 8 ≤ v.runAfter r e
  · rw [if_pos (by exact hrun), if_pos hrun, if_pos hrun, if_pos hrun, Nat.min_eq_right hrun]
  · rw [if_neg (by exact hrun), if_neg hrun, if_neg hrun, if_neg hrun, Nat.min_eq_left (by omega), ← h]
    rfl

theorem Servo.feed_track_within {v : Servo} (h : v.mode = .track) (hg : v.groupCount < 15) (r : ProgramRec)
    (e : Int) : v.feed r e = { v with groupSum := v.groupSum + e, groupCount := v.groupCount + 1 } := by
  simp only [Servo.feed, h, Servo.feedTrack]
  rw [if_neg (by omega)]

theorem Servo.feed_track_end {v : Servo} (h : v.mode = .track) (hg : v.groupCount = 15) (r : ProgramRec)
    (e : Int) : v.feed r e = v.endGroup r (v.groupSum + e) := by
  simp only [Servo.feed, h, Servo.feedTrack]
  rw [if_pos (by omega)]

theorem Servo.endGroup_eq {v : Servo} (h : v.mode = .track) (r : ProgramRec) (sum : Int) :
    v.endGroup r sum = { v with
      groupSum := 0
      groupCount := 0
      mode := if r.eRef / 8 < (roundDiv sum 16).natAbs then .acquire else .track
      lockRun := if r.eRef / 8 < (roundDiv sum 16).natAbs then 0 else v.lockRun
      drive := if (roundDiv sum 16).natAbs ≤ r.eRef / 8 ∧ r.eRef / 32 < (roundDiv sum 16).natAbs
        then driveBy v.drive (roundDiv sum 16).sign r.driveMax else v.drive } := by
  unfold Servo.endGroup
  by_cases hlost : r.eRef / 8 < (roundDiv sum 16).natAbs
  · simp only [hlost, if_true]
    rw [if_neg (by omega)]
  · simp only [hlost, if_false, Nat.not_lt.1 hlost, true_and]
    split <;> rw [← h]

theorem Servo.atLimit_iff (v : Servo) (r : ProgramRec) (e : Int) :
    v.atLimit r e = true ↔ 0 < e ∧ v.drive = r.driveMax ∧ v.armed = true := by
  simp [Servo.atLimit, and_assoc]

theorem Servo.rearm_eq (v : Servo) (r : ProgramRec) (e : Int) : v.rearm r e = { v with armed :=
    if 0 < e ∧ v.drive = r.driveMax ∧ v.armed = true then false
    else if v.drive < r.driveMax then true else v.armed } := by
  unfold Servo.rearm
  simp only [v.atLimit_iff]
  split
  · rfl
  · split <;> rfl

theorem Servo.feed_armed (v : Servo) (r : ProgramRec) (e : Int) : (v.feed r e).armed = v.armed := by
  cases h : v.mode with
  | manual => rw [Servo.feed_manual h]
  | acquire => rw [Servo.feed_acquire h]
  | track =>
    rw [Servo.feed, h]
    unfold Servo.feedTrack Servo.endGroup
    dsimp only
    (repeat' split) <;> rfl

/-- The ranges of a servo record that a feeding keeps (R17 to R19). -/
theorem Servo.feed_range (v : Servo) (r : ProgramRec) (e : Int) (hd : v.drive ≤ r.driveMax) (hl : v.lockRun ≤ 8)
    (hg : v.groupCount < 16) :
    (v.feed r e).drive ≤ r.driveMax ∧ (v.feed r e).lockRun ≤ 8 ∧ (v.feed r e).groupCount < 16 := by
  have hdrive := driveBy_le v.drive r.driveMax
  cases h : v.mode with
  | manual => rw [Servo.feed_manual h]; exact ⟨hd, hl, hg⟩
  | acquire =>
    rw [Servo.feed_acquire h]
    refine ⟨hdrive _, Nat.min_le_right _ _, ?_⟩
    dsimp only
    split <;> omega
  | track =>
    by_cases hgroup : v.groupCount = 15
    · rw [Servo.feed_track_end h hgroup, Servo.endGroup_eq h]
      refine ⟨?_, ?_, by simp⟩ <;> dsimp only <;> split
      · exact hdrive _
      · exact hd
      · exact Nat.zero_le 8
      · exact hl
    · rw [Servo.feed_track_within h (by omega)]
      exact ⟨hd, hl, by dsimp only; omega⟩

/-- How far a feeding moves the drive (R18, R19). -/
theorem Servo.feed_dist (v : Servo) (r : ProgramRec) (e : Int) (hd : v.drive ≤ r.driveMax) :
    (v.mode = .acquire → dist (v.feed r e).drive v.drive ≤ 16)
      ∧ (v.mode = .track → v.groupCount < 16 → dist (v.feed r e).drive v.drive ≤ 1) := by
  refine ⟨fun h => ?_, fun h hg => ?_⟩
  · rw [Servo.feed_acquire h]
    exact dist_driveBy hd (by omega)
  · have hsame : dist v.drive v.drive ≤ 1 := by simp [dist]
    by_cases hgroup : v.groupCount = 15
    · rw [Servo.feed_track_end h hgroup, Servo.endGroup_eq h]
      dsimp only
      split
      · refine dist_driveBy hd ?_
        obtain hs | hs | hs := Int.sign_trichotomy (roundDiv (v.groupSum + e) 16) <;> simp [hs]
      · exact hsame
    · rwa [Servo.feed_track_within h (by omega)]

/-- Settles O17, by the effect of a feeding in each mode; re-arming touches the armed flag alone. -/
theorem servoStaysInRange : Obligations.ServoStaysInRange := by
  intro v r e hd hl hg
  dsimp only
  obtain ⟨hdrive, hlock, hgroup⟩ := v.feed_range r ((r.eRef : Int) - e) hd hl hg
  obtain ⟨hacq, htrack⟩ := v.feed_dist r ((r.eRef : Int) - e) hd
  have harm := Servo.rearm_eq (v.feed r ((r.eRef : Int) - e)) r ((r.eRef : Int) - e)
  rw [v.feed_armed] at harm
  have hlimit := Servo.atLimit_iff (v.feed r ((r.eRef : Int) - e)) r ((r.eRef : Int) - e)
  rw [v.feed_armed] at hlimit
  rw [harm]
  refine ⟨hdrive, hlock, hgroup, fun h => ?_, hacq, fun h => htrack h hg, fun h hn => ?_, fun h => ?_,
    fun h => Servo.feed_manual h r _, fun h => ?_, fun h hn => Servo.feed_track_within h hn r _, fun h hn => ?_, rfl,
    hlimit⟩
  · rw [Servo.feed_manual h]
    exact ⟨rfl, h⟩
  · rw [Servo.feed_track_within h hn]
    exact ⟨rfl, h, rfl⟩
  · rw [Servo.feed_acquire h]
    simp only [Servo.runAfter]
    split <;> simp <;> omega
  · rw [Servo.feed_acquire h, driveBy_eq]
    rfl
  · rw [Servo.feed_track_end h hn, Servo.endGroup_eq h, driveBy_eq]

end Sys2Proof.Machine
end

section
/-! The operands of commands as bytes (R175, R177): a field read at the offset of a field written. -/

namespace Sys2Proof.Machine

/-! ### One field (R175) -/

theorem foldl_be (n v acc : Nat) :
    (be n v).foldl (fun a (b : Byte) => a * 256 + b.toNat) acc = acc * 256 ^ n + v % 256 ^ n := by
  induction n generalizing acc with
  | zero => simp [be, Nat.mod_one]
  | succ n ih =>
    have hsplit : v % 256 ^ (n + 1) = v % 256 ^ n + 256 ^ n * (v / 256 ^ n % 256) := Nat.mod_pow_succ
    rw [be, List.foldl_cons, ih, BitVec.toNat_ofNat, hsplit]
    ring

/-- A field reads its bytes alone. -/
theorem field_append (a r : List Byte) {n : Nat} (h : a.length = n) :
    field (a ++ r) 0 n = a.foldl (fun c (b : Byte) => c * 256 + b.toNat) 0 := by
  rw [field, List.drop_zero, List.take_left' h]

@[simp] theorem field_be_append (n v : Nat) (r : List Byte) : field (be n v ++ r) 0 n = v % 256 ^ n := by
  rw [field_append _ _ (be_length n v), foldl_be, Nat.zero_mul, Nat.zero_add]

@[simp] theorem field_be (n v : Nat) : field (be n v) 0 n = v % 256 ^ n := by
  have := field_be_append n v []
  rwa [List.append_nil] at this

@[simp] theorem field_cons_one (x : Byte) (r : List Byte) : field (x :: r) 0 1 = x.toNat := by
  simp [field]

/-- A field beyond a part of the payload is found behind it. -/
theorem field_behind (a r : List Byte) {off : Nat} (n : Nat) (h : a.length ≤ off) :
    field (a ++ r) off n = field r (off - a.length) n := by
  rw [field, field, List.drop_append, List.drop_eq_nil_of_le h, List.nil_append]

theorem field_be_behind (m v : Nat) (r : List Byte) {off : Nat} (n : Nat) (h : m ≤ off) :
    field (be m v ++ r) off n = field r (off - m) n := by
  have := field_behind (be m v) r (off := off) n (by rwa [be_length])
  rwa [be_length] at this

theorem field_cons_behind (x : Byte) (r : List Byte) {off : Nat} (n : Nat) (h : 1 ≤ off) :
    field (x :: r) off n = field r (off - 1) n := field_behind [x] r n h

/-! ### Codes (R177) -/

@[simp] theorem progOf_val (p : Prog) : progOf p.val = some p := by simp [progOf]

@[simp] theorem boolCode_bit1 (b : Bool) : boolCode (bit1 b).toNat = some b := by cases b <;> rfl

@[simp] theorem yesCode_yesByte (b : Bool) : yesCode (yesByte b).toNat = some b := by cases b <;> rfl

@[simp] theorem bgOf_code (m : BgMethod) : bgOf m.code.toNat = some m := by cases m <;> rfl

@[simp] theorem condOf_code (c : CaptureCond) : condOf c.code.toNat = some c := by cases c <;> rfl

@[simp] theorem slotOf_code (e : SlotEntry) : slotOf e.code.toNat = some e := by
  cases e with
  | skip => rfl
  | fire p => fin_cases p <;> rfl
  | dark p => fin_cases p <;> rfl

/-! ### Records (R177) -/

theorem readFiring_firingBytes {f : Firing} (h : f.valid = true) : readFiring (firingBytes f) = some f := by
  have hv := h
  simp only [Firing.valid, Bool.and_eq_true, decide_eq_true_eq] at hv
  simp only [readFiring, firingBytes, List.append_assoc, field_be_append, field_be, field_be_behind, Nat.reduceLeDiff,
    Nat.reduceSub]
  simp (disch := omega) only [Nat.mod_eq_of_lt, h, if_true]

theorem readTracking_trackingBytes {q : TrackParams} (h : q.valid = true) :
    readTracking (trackingBytes q) = some q := by
  have hv := h
  simp only [TrackParams.valid, Bool.and_eq_true, decide_eq_true_eq] at hv
  simp only [readTracking, trackingBytes, List.append_assoc, field_be_append, field_be, field_be_behind,
    Nat.reduceLeDiff, Nat.reduceSub]
  simp (disch := omega) only [Nat.mod_eq_of_lt, h, if_true]

theorem readProgram_programBytes (p : Prog) {r : ProgramRec} (h : r.valid = true) :
    readProgram (programBytes p r) = some (p, r) := by
  have hv := h
  simp only [ProgramRec.valid, Bool.and_eq_true, decide_eq_true_eq] at hv
  have hp := p.isLt
  simp only [readProgram, programBytes, List.append_assoc, field_be_append, field_be, field_be_behind,
    List.cons_append, List.nil_append, field_cons_one, field_cons_behind, Nat.reduceLeDiff, Nat.reduceSub]
  simp (disch := omega) only [Nat.mod_eq_of_lt, progOf_val, yesCode_yesByte, boolCode_bit1, bgOf_code, h, if_true]

theorem readSchedule_scheduleBytes (v : Vector SlotEntry 32) : readSchedule (scheduleBytes v) = some v := by
  have hfield : ∀ i : Fin 32, slotOf (field (scheduleBytes v) i.val 1) = some v[i] := by
    intro i
    have hlen : (scheduleBytes v).length = 32 := by simp [scheduleBytes]
    have hget : (scheduleBytes v).drop i.val = v[i].code :: (scheduleBytes v).drop (i.val + 1) := by
      rw [List.drop_eq_getElem_cons (by omega)]
      simp [scheduleBytes]
    rw [field, hget]
    simp
  have hall : ((List.range 32).all fun i => (slotOf (field (scheduleBytes v) i 1)).isSome) = true := by
    rw [List.all_eq_true]
    intro i hi
    rw [hfield ⟨i, List.mem_range.1 hi⟩]
    rfl
  rw [readSchedule, if_pos hall]
  refine congrArg some (Vector.ext fun i hi => ?_)
  have hi' := congrArg (Option.getD · SlotEntry.skip) (hfield ⟨i, hi⟩)
  rw [Vector.getElem_ofFn]
  exact hi'

theorem readReporting_reportingBytes {r : Reporting} (h0 : r.levels.response ≤ 3) (h1 : r.levels.notice ≤ 3)
    (h2 : r.levels.layer ≤ 3) (h3 : r.levels.interval ≤ 3) (h4 : r.levels.profile ≤ 3) (hp : r.period ≤ 3600)
    (ht : 1 ≤ r.timeout) (ht' : r.timeout ≤ 255) : readReporting (reportingBytes r) = some r := by
  have hmask := r.mask.isLt
  simp only [readReporting, reportingBytes, List.append_assoc, field_be_append, field_be, field_be_behind,
    Nat.reduceLeDiff, Nat.reduceSub]
  simp (disch := omega) only [Nat.mod_eq_of_lt]
  simp [h0, h1, h2, h3, h4, hp, ht]

/-! ### Table loads (R51, R89, R109) -/

/-- A load whose fields are within their ranges is read entry by entry. -/
theorem readLoad_eq {α : Type} {most : Nat} {entry : List Byte → Nat → α} {ok : α → Bool} {p : List Byte}
    {start : Nat} {es : List α} (hstart : field p 0 2 = start) (hcount : field p 2 1 = es.length)
    (hentry : ∀ (k : Nat) (hk : k < es.length), entry p (3 + 3 * k) = es[k]) (hone : 1 ≤ es.length)
    (hmost : es.length ≤ most) (hend : start + es.length ≤ 2048) (hok : ∀ e ∈ es, ok e = true) :
    readLoad most entry ok p = some ⟨start, es⟩ := by
  have hes : ((List.range es.length).map fun k => entry p (3 + 3 * k)) = es :=
    List.ext_getElem (by simp) fun k hk _ => by
      rw [List.getElem_map, List.getElem_range]
      exact hentry k (by simpa using hk)
  have hall : es.all ok = true := List.all_eq_true.2 hok
  simp only [readLoad, hstart, hcount, hes]
  rw [if_pos (by simp [hall, hone, hmost, Config.tableSize, hend])]

theorem flatMap_drop {α : Type} {enc : α → List Byte} (h3 : ∀ e, (enc e).length = 3) (es : List α) (k : Nat) :
    (es.flatMap enc).drop (3 * k) = (es.drop k).flatMap enc := by
  induction k generalizing es with
  | zero => rfl
  | succ k ih =>
    cases es with
    | nil => simp
    | cons e es =>
      rw [List.flatMap_cons, show 3 * (k + 1) = (enc e).length + 3 * k by rw [h3]; ring, List.drop_append,
        List.drop_eq_nil_of_le (by omega), List.nil_append, Nat.add_sub_cancel_left, ih, List.drop_succ_cons]

/-- A field of entry `k` of a load. -/
theorem field_entry {α : Type} {enc : α → List Byte} (h3 : ∀ e, (enc e).length = 3) (start m : Nat) (es : List α)
    (k i n : Nat) (hk : k < es.length) :
    field (be 2 start ++ be 1 m ++ es.flatMap enc) (3 + 3 * k + i) n
      = field (enc es[k] ++ (es.drop (k + 1)).flatMap enc) i n := by
  rw [field_behind _ _ _ (by simp; omega)]
  have hoff : 3 + 3 * k + i - (be 2 start ++ be 1 m).length = 3 * k + i := by simp; omega
  rw [hoff, field, ← List.drop_drop, flatMap_drop h3, List.drop_eq_getElem_cons hk, List.flatMap_cons, field]

theorem readGates_bytes {start : Nat} {es : List GateEntry} (hone : 1 ≤ es.length) (hmost : es.length ≤ 63)
    (hend : start + es.length ≤ 2048) (hok : ∀ g ∈ es, 1 ≤ g.width ∧ g.width ≤ 64 ∧ g.first + g.width ≤ 4096) :
    readGates (be 2 start ++ be 1 es.length ++ es.flatMap fun g => be 2 g.first ++ be 1 g.width)
      = some ⟨start, es⟩ := by
  have h3 : ∀ g : GateEntry, (be 2 g.first ++ be 1 g.width).length = 3 := by simp
  refine readLoad_eq ?_ ?_ (fun k hk => ?_) hone hmost hend fun g hg => by simpa [and_assoc] using hok g hg
  · rw [List.append_assoc, field_be_append, Nat.mod_eq_of_lt (by omega)]
  · rw [List.append_assoc, field_be_behind _ _ _ _ (by decide), field_be_append, Nat.mod_eq_of_lt (by omega)]
  · obtain ⟨-, hwidth, hlast⟩ := hok es[k] (List.getElem_mem hk)
    have hfirst := field_entry h3 start es.length es k 0 2 hk
    rw [Nat.add_zero] at hfirst
    rw [hfirst, field_entry h3 start es.length es k 2 1 hk, List.append_assoc, field_be_append,
      field_be_behind _ _ _ _ (by decide), field_be_append, Nat.mod_eq_of_lt (by omega), Nat.mod_eq_of_lt (by omega)]

theorem readCorrection_bytes {start : Nat} {es : List CorrEntry} (hone : 1 ≤ es.length) (hmost : es.length ≤ 84)
    (hend : start + es.length ≤ 2048) (hok : ∀ e ∈ es, e.mant ≤ 65535 ∧ e.exp ≤ 23) :
    readCorrection (be 2 start ++ be 1 es.length ++ es.flatMap fun e => be 2 e.mant ++ be 1 e.exp)
      = some ⟨start, es⟩ := by
  have h3 : ∀ e : CorrEntry, (be 2 e.mant ++ be 1 e.exp).length = 3 := by simp
  refine readLoad_eq ?_ ?_ (fun k hk => ?_) hone hmost hend fun e he => by simpa using (hok e he).2
  · rw [List.append_assoc, field_be_append, Nat.mod_eq_of_lt (by omega)]
  · rw [List.append_assoc, field_be_behind _ _ _ _ (by decide), field_be_append, Nat.mod_eq_of_lt (by omega)]
  · obtain ⟨hmant, hexp⟩ := hok es[k] (List.getElem_mem hk)
    have hfirst := field_entry h3 start es.length es k 0 2 hk
    rw [Nat.add_zero] at hfirst
    rw [hfirst, field_entry h3 start es.length es k 2 1 hk, List.append_assoc, field_be_append,
      field_be_behind _ _ _ _ (by decide), field_be_append, Nat.mod_eq_of_lt (by omega), Nat.mod_eq_of_lt (by omega)]

theorem readThresholds_bytes {start : Nat} {es : List Nat} (hone : 1 ≤ es.length) (hmost : es.length ≤ 84)
    (hend : start + es.length ≤ 2048) (hok : ∀ x ∈ es, x ≤ 8388607) :
    readThresholds (be 2 start ++ be 1 es.length ++ es.flatMap (be 3)) = some ⟨start, es⟩ := by
  refine readLoad_eq ?_ ?_ (fun k hk => ?_) hone hmost hend fun x hx => by
    rw [decide_eq_true_eq]
    exact hok x hx
  · rw [List.append_assoc, field_be_append, Nat.mod_eq_of_lt (by omega)]
  · rw [List.append_assoc, field_be_behind _ _ _ _ (by decide), field_be_append, Nat.mod_eq_of_lt (by omega)]
  · have hx := hok es[k] (List.getElem_mem hk)
    have hfirst := field_entry (be_length 3) start es.length es k 0 3 hk
    rw [Nat.add_zero] at hfirst
    rw [hfirst, field_be_append, Nat.mod_eq_of_lt (by omega)]

/-! ### Other operands -/

theorem signed_beInt {amp : Int} (hlo : -8388608 ≤ amp) (hhi : amp ≤ 8388607) :
    signed 3 ((amp % (256 ^ 3 : Nat)).toNat % 256 ^ 3) = amp := by
  simp only [signed]
  split <;> omega

theorem readEcho_bytes {p first count : Nat} {amp : Int} (hp : p ≤ 255) (hf : first ≤ 65535) (hc : count ≤ 255)
    (hlo : -8388608 ≤ amp) (hhi : amp ≤ 8388607) :
    readEcho (be 1 p ++ be 2 first ++ be 1 count ++ beInt 3 amp) = ⟨p, first, count, amp⟩ := by
  simp only [readEcho, beInt, List.append_assoc, field_be_append, field_be, field_be_behind, Nat.reduceLeDiff,
    Nat.reduceSub, signed_beInt hlo hhi]
  simp (disch := omega) only [Nat.mod_eq_of_lt]

theorem readSky_bytes {T H R : Nat} (hT : T ≤ 4095) (hH : H ≤ 4095) (hR : 1 ≤ R) (hR' : R ≤ 255) :
    readSky (be 2 T ++ be 2 H ++ be 1 R) = some ⟨T, H, R⟩ := by
  simp only [readSky, List.append_assoc, field_be_append, field_be, field_be_behind, Nat.reduceLeDiff, Nat.reduceSub]
  simp (disch := omega) only [Nat.mod_eq_of_lt]
  simp [hT, hH, hR]

theorem readCapture_bytes (e : Fin 4) (c : CaptureCond) {h : Nat} (p : Prog) (hh : h ≤ 4095) :
    readCapture (be 1 e.val ++ [c.code] ++ be 2 h ++ be 1 p.val) = some ⟨e, c, h, p⟩ := by
  have he := e.isLt
  have hp := p.isLt
  simp only [readCapture, List.append_assoc, field_be_append, field_be, field_be_behind,
    List.cons_append, List.nil_append, field_cons_one, field_cons_behind, Nat.reduceLeDiff, Nat.reduceSub]
  simp (disch := omega) only [Nat.mod_eq_of_lt, progOf_val, condOf_code]
  simp [hh]

theorem readTimeMark_bytes {sec usec : Nat} (hs : sec ≤ 4294967295) (hu : usec ≤ 999999) :
    readTimeMark (be 4 sec ++ be 4 usec) = some (sec, usec) := by
  simp only [readTimeMark, field_be_append, field_be, field_be_behind, Nat.reduceLeDiff, Nat.reduceSub]
  simp (disch := omega) only [Nat.mod_eq_of_lt]
  simp [hu]

theorem readCounterRange_bytes {first count : Nat} (clear : Bool) (hone : 1 ≤ count) (hmost : count ≤ 63)
    (hend : first + count ≤ 117) :
    readCounterRange (be 1 first ++ be 1 count ++ [bit1 clear]) = some (first, count, clear) := by
  have hclear : decide ((bit1 clear).toNat % 2 = 1) = clear := by cases clear <;> rfl
  simp only [readCounterRange, List.append_assoc, field_be_append, field_be_behind,
    field_cons_one, Nat.reduceLeDiff, Nat.reduceSub, hclear]
  simp (disch := omega) only [Nat.mod_eq_of_lt]
  simp [hone, hmost, Config.counterCount, hend]

/-- Settles O56, layout by layout. -/
theorem operandsReadBack : Obligations.OperandsReadBack := by
  refine ⟨fun p r h => ⟨programBytes_length p r, readProgram_programBytes p h⟩,
    fun f h => ⟨by simp [firingBytes], readFiring_firingBytes h⟩,
    fun v => ⟨by simp [scheduleBytes], readSchedule_scheduleBytes v⟩,
    fun q h => ⟨trackingBytes_length q, readTracking_trackingBytes h⟩,
    fun r h0 h1 h2 h3 h4 hp ht ht' => ⟨reportingBytes_length r, readReporting_reportingBytes h0 h1 h2 h3 h4 hp ht ht'⟩,
    fun _ _ h1 h2 h3 h4 => readGates_bytes h1 h2 h3 h4, fun _ _ h1 h2 h3 h4 => readCorrection_bytes h1 h2 h3 h4,
    fun _ _ h1 h2 h3 h4 => readThresholds_bytes h1 h2 h3 h4, fun _ _ _ h1 h2 h3 h4 => readSky_bytes h1 h2 h3 h4,
    fun e c _ p h => readCapture_bytes e c p h, fun _ _ _ _ h1 h2 h3 h4 h5 => readEcho_bytes h1 h2 h3 h4 h5,
    fun _ _ h1 h2 => readTimeMark_bytes h1 h2, fun n hn => ?_, fun n hn => ?_,
    fun _ _ clear h1 h2 h3 => readCounterRange_bytes clear h1 h2 h3⟩
  · rw [field_be, Nat.mod_eq_of_lt (by omega)]
  · rw [field_be, Nat.mod_eq_of_lt (by omega)]

end Sys2Proof.Machine
end

section
/-! Command rows at a ready part, answered in one step (R163 to R165); START, the gate runs, table loads, injected
echoes and path checks (R25, R26, R43, R51, R52, R54, R86, R89, R109). -/

namespace Sys2Proof.Machine

/-! ### Answers at a ready part (R164) -/

section
variable {s : State} {i : Instr} {kind : Byte} {b : CmdBlock} {c : Command}

/-- A command that its rule refuses. -/
theorem State.command_refused (h : s.ready) (hi : commandRow i = some (inBlock kind b)) (hb : b.single = true)
    (hc : commandOf kind = some c) (hl : b.payload.length = c.length b.payload)
    (r : Result) (extra : List Byte) (hr : r.refusal = true)
    (hrun : c.run s.taken b.payload = ⟨s.taken, r, extra, .nothing⟩) :
    ∃ t, exec i s = .next t ∧ s.refusedWith t kind b r extra [] := by
  refine ⟨_, exec_commandRow s hi, ?_⟩
  rw [State.deliver_command s kind b c h hb hc hl, hrun]
  exact State.refusedWith_respond kind b r extra h hr

/-- A command that its rule refuses with a counter of its own (R89, R109). -/
theorem State.command_refused_counted (h : s.ready) (hi : commandRow i = some (inBlock kind b)) (hb : b.single = true)
    (hc : commandOf kind = some c) (hl : b.payload.length = c.length b.payload)
    (r : Result) (d : Ctr) (hr : r.refusal = true)
    (hrun : c.run s.taken b.payload = (s.taken.bump d).refuse r)
    (hd : d ∉ [Ctr.commandsRefused, Ctr.inboundGood, Ctr.commandsTaken] ++ blockCtrs) :
    ∃ t, exec i s = .next t ∧ s.refusedWith t kind b r [] [d] := by
  simp only [List.cons_append, List.nil_append, List.mem_cons, not_or] at hd
  obtain ⟨hrefused, hgood, htaken, hblock⟩ := hd
  refine ⟨_, exec_commandRow s hi, ?_⟩
  rw [State.deliver_command s kind b c h hb hc hl, hrun]
  have hsend := Answer.respond_ctrsKept ((s.taken.bump d).refuse r) (inBlock kind b)
  have hkind : ((s.taken.bump d).refuse r).result.refusal = true := hr
  rw [hkind] at hsend
  have hbump : ctrsKept [d] s.taken (s.taken.bump d) := ctrsKept_bump _ (by simp)
  have hown : counted d s ((s.taken.bump d).bump Ctr.commandsRefused) :=
    counted_after_kept s.taken_ctrsKept (by simp [hgood, htaken]) (counted_before_kept (counted_bump s.taken d)
      (ctrsKept_bump (cs := [Ctr.commandsRefused]) _ (by simp)) (by simpa using hrefused))
  have hcount : counted Ctr.commandsRefused s ((s.taken.bump d).bump Ctr.commandsRefused) :=
    counted_after_kept (ctrsKept_trans (ctrsKept_mono s.taken_ctrsKept (ds := [Ctr.inboundGood,
      Ctr.commandsTaken, d]) (by simp)) (ctrsKept_mono hbump (by simp)))
      (by simpa [Ne.symm hrefused] using show Ctr.commandsRefused ∉ [Ctr.inboundGood, Ctr.commandsTaken] by decide)
      (counted_bump _ _)
  refine ⟨?_, counted_before_kept hcount hsend (by decide), ?_, ?_, ?_⟩
  · exact Answer.respond_answered _ kind b h (by simp [State.refuse]) hbump (by simpa using Ne.symm hgood)
      (by simpa using Ne.symm htaken)
  · intro e he
    rw [List.mem_singleton.1 he]
    exact counted_before_kept hown hsend hblock
  · exact Answer.respond_sameButLine _ _ h rfl (by simp [State.refuse]) (by simp [State.refuse])
  · refine ctrsKept_trans (ctrsKept_mono s.taken_ctrsKept (by simp [commandCtrs])) ?_
    refine ctrsKept_trans (ctrsKept_mono hbump (by simp)) ?_
    exact ctrsKept_trans (ctrsKept_bump _ (by simp)) (ctrsKept_mono hsend (by simp +contextual [commandCtrs]))

/-- A command that its rule carries out without touching the SLC. -/
theorem State.command_done (h : s.ready) (hi : commandRow i = some (inBlock kind b)) (hb : b.single = true)
    (hc : commandOf kind = some c) (hl : b.payload.length = c.length b.payload)
    {a : Answer} (hrun : c.run s.taken b.payload = a)
    (hr : a.result.refusal = false) (hslc : a.st.slc = s.slc) {cs : List Ctr} (hk : ctrsKept cs s.taken a.st)
    (hgood : Ctr.inboundGood ∉ cs) (htaken : Ctr.commandsTaken ∉ cs) :
    exec i s = .next (a.respond (inBlock kind b))
      ∧ s.answered (a.respond (inBlock kind b)) (responseTo s.slc kind b a.result a.extra a.after)
      ∧ ctrsKept (cs ++ commandCtrs) s (a.respond (inBlock kind b))
      ∧ (a.respond (inBlock kind b)).slc.sameSettings s.slc := by
  rw [exec_commandRow s hi, State.deliver_command s kind b c h hb hc hl, hrun]
  exact ⟨rfl, Answer.respond_answered a kind b h hslc hk hgood htaken, Answer.respond_ok_ctrsKept a _ hr hk,
    Answer.respond_sameSettings a _ h hslc⟩

/-- A command answered OK that touches neither the SLC nor a counter. -/
theorem State.command_ok (h : s.ready) (hi : commandRow i = some (inBlock kind b)) (hb : b.single = true)
    (hc : commandOf kind = some c) (hl : b.payload.length = c.length b.payload)
    {u : State} (hrun : c.run s.taken b.payload = u.ok)
    (hslc : u.slc = s.slc) (hctrs : u.ctrs = s.taken.ctrs) {v : State} (hv : v.slc = s.slc)
    (hst : v.progs = u.progs ∧ v.fcu = u.fcu ∧ v.rsp = u.rsp ∧ v.gau = u.gau ∧ v.pcu = u.pcu ∧ v.ldu = u.ldu
      ∧ v.ltu = u.ltu ∧ v.sku = u.sku ∧ v.mgu = u.mgu ∧ v.pending = u.pending) :
    ∃ t, exec i s = .next t
      ∧ s.answered t (responseTo s.slc kind b .ok [] .nothing) ∧ ctrsKept commandCtrs s t ∧ v.sameButLine t := by
  have hk : ctrsKept [] s.taken u.ok.st := fun d _ => by rw [State.ok, hctrs]
  obtain ⟨heq, hanswered, hkept, -⟩ := State.command_done h hi hb hc hl hrun rfl hslc hk (by simp) (by simp)
  exact ⟨_, heq, hanswered, hkept, Answer.respond_sameButLine _ _ h hv hslc hst⟩

end

/-! ### SET_FIRING and SET_SCHEDULE (R25) -/

theorem taken_not_running {s : State} (h : s.fcu.state ≠ .running) : s.taken.fcu.state ≠ .running := by simpa using h

/-- Settles O18: the operands are read back, and the settings are replaced. -/
theorem firingSettingsReplaced : Obligations.FiringSettingsReplaced := by
  intro s b hready hrun hb
  refine ⟨fun f hp hv => ?_, fun v hp => ?_⟩
  · have hread : s.taken.setFiring b.payload = (s.taken.withFcu { s.taken.fcu with firing := f }).ok := by
      rw [State.setFiring, if_neg (taken_not_running hrun), hp, readFiring_firingBytes hv]
    exact State.command_ok (c := .setFiring) hready rfl hb rfl (by simp [hp, firingBytes, Command.length]) hread (by simp)
      (by simp) rfl (by simp)
  · have hread : s.taken.setSchedule b.payload
        = (s.taken.withFcu { s.taken.fcu with schedule := v, pointer := 0 }).ok := by
      rw [State.setSchedule, if_neg (taken_not_running hrun), hp, readSchedule_scheduleBytes]
    exact State.command_ok (c := .setSchedule) hready rfl hb rfl (by simp [hp, scheduleBytes, Command.length]) hread
      (by simp) (by simp) rfl (by simp)

/-! ### START (R17, R26) -/

theorem State.startReady_iff (s : State) : s.startReady = true ↔ s.rsp.path.running = false
    ∧ ∃ (i : Fin 32) (p : Prog), s.fcu.schedule[i] = .fire p ∧ s.progs[p].enabled = true := by
  have hfires : ∀ e : SlotEntry, s.firesEnabled e = true ↔ ∃ p : Prog, e = .fire p ∧ s.progs[p].enabled = true := by
    intro e
    cases e <;> simp [State.firesEnabled]
  simp only [State.startReady, Bool.and_eq_true, Bool.not_eq_true', List.any_eq_true, hfires]
  refine and_congr_right fun _ => ⟨?_, ?_⟩
  · rintro ⟨e, he, p, rfl, hen⟩
    obtain ⟨i, hi, hget⟩ := List.mem_iff_getElem.1 he
    have hi' : i < 32 := by simpa using hi
    exact ⟨⟨i, hi'⟩, p, by simpa using hget, hen⟩
  · rintro ⟨i, p, hslot, hen⟩
    exact ⟨s.fcu.schedule[i], by simp [Vector.mem_toList_iff], p, hslot, hen⟩

/-- Settles O20, by the checks of START in their order. -/
theorem startRefusedInOrder : Obligations.StartRefusedInOrder := by
  intro s b hready hb hp
  have hlen : b.payload.length = Command.start.length b.payload := by simp [hp, Command.length]
  have hrefused : ∀ (r : Result) (extra : List Byte), r.refusal = true →
      s.taken.start = ⟨s.taken, r, extra, .nothing⟩ →
      ∃ t, exec (.start b) s = .next t ∧ s.refusedWith t 0x13 b r extra [] := fun r extra hr hrun =>
    State.command_refused (c := .start) hready rfl hb rfl hlen r extra hr hrun
  refine ⟨fun hnot => hrefused _ _ rfl ?_, fun hhalt hopen => hrefused _ _ rfl ?_,
    fun hhalt hclosed hnone => hrefused _ _ rfl ?_, fun p i hhalt hclosed hsr hfault => hrefused _ _ rfl ?_⟩
  · exact if_pos (by simpa using hnot)
  · rw [State.start, if_neg (by simpa using hhalt), if_pos (by simpa using hopen)]
    rfl
  · have hsr : s.startReady = false := by
      rw [← Bool.not_eq_true, s.startReady_iff]
      rintro ⟨hpath, j, p, hslot, hen⟩
      obtain hrun | hoff := hnone
      · simp [hpath] at hrun
      · exact absurd hen (by rw [hoff j p hslot]; decide)
    have hsr' : s.taken.startReady = false := hsr
    rw [State.start, if_neg (by simpa using hhalt), if_neg (by simpa using hclosed), if_pos hsr']
    rfl
  · have hsr' : s.taken.startReady = true := hsr
    have hfault' : s.taken.gateFault = some (p, i) := hfault
    rw [State.start, if_neg (by simpa using hhalt), if_neg (by simpa using hclosed), if_neg (by simp [hsr']), hfault']

theorem Servo.atStart_eq (v : Servo) (r : ProgramRec) : v.atStart r =
    if v.mode = .manual then { v with drive := r.startDrive }
    else { v with mode := .acquire, lockRun := 0, groupSum := 0, groupCount := 0 } := by
  unfold Servo.atStart
  split
  · rename_i h
    rw [if_pos h]
  · rename_i h
    rw [if_neg h]

/-- Settles O19: the checks of START pass, and the servos are as R17 sets them. -/
theorem startEntersRunning : Obligations.StartEntersRunning := by
  intro s b hready hb hp hhalt hclosed hpath hfire hfault
  have hsr' : s.taken.startReady = true := s.startReady_iff.2 ⟨hpath, hfire⟩
  have hfault' : s.taken.gateFault = none := hfault
  have hrun : s.taken.start = s.taken.run.ok := by
    rw [State.start, if_neg (by simpa using hhalt), if_neg (by simpa using hclosed), if_neg (by simp [hsr']), hfault']
  obtain ⟨heq, hanswered, hkept, hset⟩ := State.command_done (i := .start b) (cs := []) (c := .start) hready rfl hb rfl
    (by simp [hp, Command.length]) hrun rfl (by simp [State.run]) (ctrsKept_refl _ _) (by simp) (by simp)
  refine ⟨_, heq, hanswered, hkept, ?_⟩
  refine ⟨by simp [State.run], fun p => ?_, by simp [State.run], by simp [State.run], by simp [State.run],
    by simp [State.run], by simp [State.run], by simp [State.run], by simp [State.run], by simp [State.run], hset⟩
  rw [← Servo.atStart_eq]
  simp [State.run]

/-! ### Gate runs (R52, R54) -/

/-- Where the entry ahead of entry `i` of a run ends, `prev` ahead of the first one. -/
def endAhead (prev : Nat) (run : List GateEntry) : Nat → Nat
  | 0 => prev
  | j + 1 => (run[j]?.map fun h => h.first + h.width).getD 0

/-- Entry `i` of a run fails R52. -/
def badEntry (len prev : Nat) (run : List GateEntry) (i : Nat) : Prop :=
  ∃ g, run[i]? = some g ∧ (len < g.first + g.width ∨ g.first < endAhead prev run i)

theorem badEntry_cons_zero (len prev : Nat) (g : GateEntry) (r : List GateEntry) :
    badEntry len prev (g :: r) 0 ↔ len < g.first + g.width ∨ g.first < prev := by
  simp [badEntry, endAhead]

theorem badEntry_cons_succ (len prev : Nat) (g : GateEntry) (r : List GateEntry) (i : Nat) :
    badEntry len prev (g :: r) (i + 1) ↔ badEntry len (g.first + g.width) r i := by
  cases i <;> simp [badEntry, endAhead]

/-- The run check finds the first bad entry, and none exactly where there is none (R52). -/
theorem runFault_spec (len prev : Nat) (run : List GateEntry) :
    (∀ i, runFault len prev run = some i → badEntry len prev run i ∧ ∀ j, j < i → ¬ badEntry len prev run j)
      ∧ (runFault len prev run = none → ∀ i, ¬ badEntry len prev run i) := by
  induction run generalizing prev with
  | nil => exact ⟨fun i h => by simp [runFault] at h, fun _ i ⟨g, hg, _⟩ => by simp at hg⟩
  | cons g r ih =>
    obtain ⟨hsome, hnone⟩ := ih (g.first + g.width)
    unfold runFault
    split
    · rename_i hbad
      refine ⟨fun i h => ?_, fun h => by simp at h⟩
      obtain rfl : 0 = i := Option.some.inj h
      exact ⟨(badEntry_cons_zero ..).2 hbad, fun j hj => by omega⟩
    · rename_i hgood
      refine ⟨fun i h => ?_, fun h i => ?_⟩
      · obtain ⟨k, hk, rfl⟩ := Option.map_eq_some_iff.1 h
        obtain ⟨hbad, hfirst⟩ := hsome k hk
        refine ⟨(badEntry_cons_succ ..).2 hbad, fun j hj => ?_⟩
        cases j with
        | zero => rwa [badEntry_cons_zero]
        | succ j =>
          rw [badEntry_cons_succ]
          exact hfirst j (by omega)
      · cases i with
        | zero => rwa [badEntry_cons_zero]
        | succ i =>
          rw [badEntry_cons_succ]
          exact hnone (Option.map_eq_none_iff.1 h) i

theorem badEntry_iff (len : Nat) (run : List GateEntry) (i : Nat) : badEntry len 0 run i ↔ ∃ g, run[i]? = some g ∧
    (len < g.first + g.width ∨ ∃ (j : Nat) (h : GateEntry), i = j + 1 ∧ run[j]? = some h
      ∧ g.first < h.first + h.width) := by
  unfold badEntry
  refine exists_congr fun g => and_congr_right fun hg => or_congr_right ?_
  cases i with
  | zero => simp [endAhead]
  | succ j =>
    have hj : j < run.length := by
      have := (List.getElem?_eq_some_iff.1 hg).1
      omega
    simp [endAhead, List.getElem?_eq_getElem hj]

/-- A sample's gate covers it; there is none exactly where no gate of the run does (R54). -/
theorem gateOf_spec (run : List GateEntry) (k : Nat) :
    (∀ g, gateOf run k = some g → ∃ e, run[g]? = some e ∧ e.first ≤ k ∧ k ≤ e.lastIndex)
      ∧ (gateOf run k = none ↔ ∀ e ∈ run, 1 ≤ e.width → ¬ (e.first ≤ k ∧ k ≤ e.lastIndex)) := by
  induction run with
  | nil => simp [gateOf]
  | cons e r ih =>
    obtain ⟨hsome, hnone⟩ := ih
    unfold gateOf
    split
    · rename_i hin
      have hlast : k ≤ e.lastIndex := by unfold GateEntry.lastIndex; omega
      refine ⟨fun g h => ?_, fun h => by simp at h, fun h => ?_⟩
      · obtain rfl : 0 = g := Option.some.inj h
        exact ⟨e, rfl, hin.1, hlast⟩
      · exact absurd ⟨hin.1, hlast⟩ (h e List.mem_cons_self (by omega))
    · rename_i hout
      refine ⟨fun g h => ?_, ?_⟩
      · obtain ⟨j, hj, rfl⟩ := Option.map_eq_some_iff.1 h
        exact hsome j hj
      · rw [Option.map_eq_none_iff, hnone, List.forall_mem_cons]
        refine ⟨fun h => ⟨fun hw hin => hout ?_, h⟩, fun h => h.2⟩
        unfold GateEntry.lastIndex at hin
        omega

/-- Settles O21, by the run check and the gate of a sample, each by induction on the run. -/
theorem gateRunsCheckedAndUsed : Obligations.GateRunsCheckedAndUsed := by
  refine ⟨fun len run => ?_, gateOf_spec⟩
  simpa only [badEntry_iff] using runFault_spec len 0 run

end Sys2Proof.Machine
end

section
/-! Table loads, injected echoes and path checks as commands (R43, R51, R86, R89, R109). -/

namespace Sys2Proof.Machine

/-! ### Table loads (R51, R89, R109) -/

/-- A load beyond its table, of no or too many entries, or with an entry out of range is not read. -/
theorem readLoad_eq_none {α : Type} {most : Nat} {entry : List Byte → Nat → α} {ok : α → Bool} {p : List Byte}
    (h : 2048 < field p 0 2 + field p 2 1 ∨ field p 2 1 = 0 ∨ most < field p 2 1
      ∨ ∃ k, k < field p 2 1 ∧ ok (entry p (3 + 3 * k)) = false) : readLoad most entry ok p = none := by
  refine if_neg ?_
  simp only [Bool.and_eq_true, decide_eq_true_eq, List.all_eq_true, List.forall_mem_map, List.mem_range,
    Config.tableSize, not_and]
  rintro ⟨⟨hend, hone⟩, hmost⟩ hall
  have hend := of_decide_eq_true hend
  obtain h | h | h | ⟨k, hk, hbad⟩ := h
  · omega
  · omega
  · omega
  · exact absurd (hall k hk) (by rw [hbad]; decide)

theorem readGates_eq_none {p : List Byte} (h : 2048 < field p 0 2 + field p 2 1 ∨ field p 2 1 = 0 ∨ 63 < field p 2 1
    ∨ ∃ k, k < field p 2 1 ∧ (field p (5 + 3 * k) 1 = 0 ∨ 64 < field p (5 + 3 * k) 1
      ∨ 4096 < field p (3 + 3 * k) 2 + field p (5 + 3 * k) 1)) : readGates p = none := by
  refine readLoad_eq_none (h.imp_right (Or.imp_right (Or.imp_right fun ⟨k, hk, hbad⟩ => ⟨k, hk, ?_⟩)))
  have hoff : 3 + 3 * k + 2 = 5 + 3 * k := by omega
  simp only [hoff, Bool.and_eq_false_iff, decide_eq_false_iff_not]
  omega

theorem readCorrection_eq_none {p : List Byte} (h : 2048 < field p 0 2 + field p 2 1 ∨ field p 2 1 = 0
    ∨ 84 < field p 2 1 ∨ ∃ k, k < field p 2 1 ∧ 23 < field p (5 + 3 * k) 1) : readCorrection p = none := by
  refine readLoad_eq_none (h.imp_right (Or.imp_right (Or.imp_right fun ⟨k, hk, hbad⟩ => ⟨k, hk, ?_⟩)))
  have hoff : 3 + 3 * k + 2 = 5 + 3 * k := by omega
  simp only [hoff, decide_eq_false_iff_not]
  omega

theorem readThresholds_eq_none {p : List Byte} (h : 2048 < field p 0 2 + field p 2 1 ∨ field p 2 1 = 0
    ∨ 84 < field p 2 1 ∨ ∃ k, k < field p 2 1 ∧ 8388607 < field p (3 + 3 * k) 3) : readThresholds p = none := by
  refine readLoad_eq_none (h.imp_right (Or.imp_right (Or.imp_right fun ⟨k, hk, hbad⟩ => ⟨k, hk, ?_⟩)))
  rw [decide_eq_false_iff_not]
  exact Nat.not_le.2 hbad

/-- Settles O31: each load by its reading, then by who holds its run, then by what a run written reads as. -/
theorem tableLoadsWriteTheirRunOnly : Obligations.TableLoadsWriteTheirRunOnly := by
  intro s b hready hwf hb hlen
  obtain ⟨hgates, hcorr, hthr⟩ := hwf
  refine ⟨fun hbad => ?_, fun hbad => ?_, fun hbad => ?_, fun l hl => ⟨fun hheld => ?_, fun hfree hwait => ?_,
    fun hfree hwait => ?_⟩, fun l hl => ⟨fun hheld => ?_, fun hfree => ?_⟩, fun l hl => ⟨fun hheld => ?_, fun hfree => ?_⟩⟩
  · refine State.command_refused (c := .loadGates) hready rfl hb rfl hlen .badValue [] rfl ?_
    simp only [Command.run, State.loadGates, readGates_eq_none hbad]
    rfl
  · refine State.command_refused (c := .loadCorrection) hready rfl hb rfl hlen .badValue [] rfl ?_
    simp only [Command.run, State.loadCorrection, readCorrection_eq_none hbad]
    rfl
  · refine State.command_refused (c := .loadThresholds) hready rfl hb rfl hlen .badValue [] rfl ?_
    simp only [Command.run, State.loadThresholds, readThresholds_eq_none hbad]
    rfl
  · refine State.command_refused (c := .loadGates) hready rfl hb rfl hlen .inUse [] rfl ?_
    simp only [Command.run, State.loadGates, hl]
    exact if_pos hheld
  · refine State.command_refused (c := .loadGates) hready rfl hb rfl hlen .busy [] rfl ?_
    simp only [Command.run, State.loadGates, hl]
    exact (if_neg hfree).trans (if_pos hwait)
  · have hrun : s.taken.loadGates b.payload = (s.taken.withGau { s.taken.gau with
        gateMap := Tab.writeRun GateEntry.reset s.taken.gau.gateMap l.start l.entries }).ok := by
      simp only [State.loadGates, hl]
      exact (if_neg hfree).trans (if_neg (Bool.eq_false_iff.1 hwait))
    obtain ⟨t, ht, hanswered, hkept, hsame⟩ := State.command_ok (i := .loadGates b) (c := .loadGates) hready rfl hb rfl
      hlen hrun (by simp) (by simp) (v := { s with gau := { s.gau with
        gateMap := Tab.writeRun GateEntry.reset s.gau.gateMap l.start l.entries } }) rfl (by simp)
    obtain ⟨-, -, -, hgau, -⟩ := id hsame
    have hmap : t.gau.gateMap = Tab.writeRun GateEntry.reset s.gau.gateMap l.start l.entries := by rw [hgau]
    refine ⟨t, ht, hanswered, hkept, by rw [hmap]; exact hsame, fun i => ?_⟩
    rw [hmap, Tab.read_writeRun hgates]
  · refine State.command_refused_counted (c := .loadCorrection) hready rfl hb rfl hlen .busy _ rfl ?_ (by decide)
    simp only [Command.run, State.loadCorrection, hl]
    exact if_pos hheld
  · have hrun : s.taken.loadCorrection b.payload = (s.taken.withPcu { s.taken.pcu with
        corrTable := Tab.writeRun CorrEntry.reset s.taken.pcu.corrTable l.start l.entries }).ok := by
      simp only [State.loadCorrection, hl]
      exact if_neg (Bool.eq_false_iff.1 hfree)
    obtain ⟨t, ht, hanswered, hkept, hsame⟩ := State.command_ok (i := .loadCorrection b) (c := .loadCorrection) hready
      rfl hb rfl hlen hrun (by simp) (by simp) (v := { s with pcu := { s.pcu with
        corrTable := Tab.writeRun CorrEntry.reset s.pcu.corrTable l.start l.entries } }) rfl (by simp)
    obtain ⟨-, -, -, -, hpcu, -⟩ := id hsame
    have hmap : t.pcu.corrTable = Tab.writeRun CorrEntry.reset s.pcu.corrTable l.start l.entries := by rw [hpcu]
    refine ⟨t, ht, hanswered, hkept, by rw [hmap]; exact hsame, fun i => ?_⟩
    rw [hmap, Tab.read_writeRun hcorr]
  · refine State.command_refused_counted (c := .loadThresholds) hready rfl hb rfl hlen .busy _ rfl ?_ (by decide)
    simp only [Command.run, State.loadThresholds, hl]
    exact if_pos hheld
  · have hrun : s.taken.loadThresholds b.payload = (s.taken.withLdu { s.taken.ldu with
        thrTable := Tab.writeRun Config.betaMax s.taken.ldu.thrTable l.start l.entries }).ok := by
      simp only [State.loadThresholds, hl]
      exact if_neg (Bool.eq_false_iff.1 hfree)
    obtain ⟨t, ht, hanswered, hkept, hsame⟩ := State.command_ok (i := .loadThresholds b) (c := .loadThresholds) hready
      rfl hb rfl hlen hrun (by simp) (by simp) (v := { s with ldu := { s.ldu with
        thrTable := Tab.writeRun Config.betaMax s.ldu.thrTable l.start l.entries } }) rfl (by simp)
    obtain ⟨-, -, -, -, -, hldu, -⟩ := id hsame
    have hmap : t.ldu.thrTable = Tab.writeRun Config.betaMax s.ldu.thrTable l.start l.entries := by rw [hldu]
    refine ⟨t, ht, hanswered, hkept, by rw [hmap]; exact hsame, fun i => ?_⟩
    rw [hmap, Tab.read_writeRun hthr]

/-! ### PATH_CHECK (R43) -/

/-- Settles O30, by the checks of PATH_CHECK in their order. -/
theorem pathCheckStarts : Obligations.PathCheckStarts := by
  intro s b n hready hb hn hp
  have hlen : b.payload.length = Command.pathCheck.length b.payload := by simp [hp, Command.length]
  have hfield : field b.payload 0 2 = n := by rw [hp, field_be, Nat.mod_eq_of_lt (by omega)]
  have hrefused : ∀ r : Result, r.refusal = true → s.taken.pathCheck b.payload = s.taken.refuse r →
      ∃ t, exec (.pathCheck b) s = .next t ∧ s.refusedWith t 0x1F b r [] [] := fun r hr hrun =>
    State.command_refused (c := .pathCheck) hready rfl hb rfl hlen r [] hr hrun
  refine ⟨fun hnot => hrefused _ rfl ?_, fun hhalt hrun => hrefused _ rfl ?_, fun hhalt hrun h0 => hrefused _ rfl ?_,
    fun hhalt hrun hone => ?_⟩
  · exact if_pos (by simpa using hnot)
  · rw [State.pathCheck, if_neg (by simpa using hhalt), if_pos (by simpa using hrun)]
  · rw [State.pathCheck, if_neg (by simpa using hhalt), if_neg (by simpa using hrun), hfield, if_pos h0]
  · have hok : s.taken.pathCheck b.payload = (s.taken.withRsp { s.taken.rsp with
        path := { PathCheck.reset with running := true, n := n } }).ok := by
      rw [State.pathCheck, if_neg (by simpa using hhalt), if_neg (by simpa using hrun), hfield, if_neg (by omega)]
    exact State.command_ok (c := .pathCheck) hready rfl hb rfl hlen hok (by simp) (by simp) rfl
      (by simp [PathCheck.reset])

/-! ### INJECT_ECHO (R86) -/

theorem progOf_of_ge {v : Nat} (h : 4 ≤ v) : progOf v = none := dif_neg (by omega)

/-- Settles O35, by the checks of INJECT_ECHO in their order, then by what its record finds pending. -/
theorem echoInjected : Obligations.EchoInjected := by
  intro s b e hready hb hlen he
  have hlen' : b.payload.length = Command.injectEcho.length b.payload := hlen
  have hrefused : ∀ r : Result, r.refusal = true → s.taken.injectEcho b.payload = s.taken.refuse r →
      ∃ t, exec (.injectEcho b) s = .next t ∧ s.refusedWith t 0x1D b r [] [] := fun r hr hrun =>
    State.command_refused (c := .injectEcho) hready rfl hb rfl hlen' r [] hr hrun
  refine ⟨fun hnot => hrefused _ rfl ?_, fun hrun hp => hrefused _ rfl ?_, fun p hp hrun =>
    ⟨fun hout => hrefused _ rfl ?_, fun hin hoff => hrefused _ rfl ?_, fun hin hon => ?_⟩⟩
  · exact if_pos (by simpa using hnot)
  · rw [State.injectEcho, he, if_neg (by simpa using hrun), progOf_of_ge hp]
  · simp only [State.injectEcho, he, hp, progOf_val]
    exact (if_neg (by simpa using hrun)).trans (if_neg hout)
  · simp only [State.injectEcho, he, hp, progOf_val]
    exact (if_neg (by simpa using hrun)).trans ((if_pos hin).trans (if_neg (Bool.eq_false_iff.1 hoff)))
  · have hinject : s.taken.injectEcho b.payload = s.taken.inject p e := by
      simp only [State.injectEcho, he, hp, progOf_val]
      exact (if_neg (by simpa using hrun)).trans ((if_pos hin).trans (if_pos hon))
    let u := s.taken.withPcu { s.taken.pcu with
      pendingInj := s.taken.pcu.pendingInj.set p (some ⟨e.first, e.count, max e.amp (-8388607)⟩) }
    cases hpend : s.pcu.pendingInj[p] with
    | none =>
      have hok : s.taken.injectEcho b.payload = u.ok := by
        rw [hinject]
        exact if_neg (show ¬ (s.pcu.pendingInj[p]).isSome = true by rw [hpend]; decide)
      obtain ⟨t, ht, hanswered, hkept, hsame⟩ := State.command_ok (i := .injectEcho b) (c := .injectEcho) hready rfl hb
        rfl hlen' hok (by simp [u]) (by simp [u]) (v := { s with pcu := { s.pcu with
          pendingInj := s.pcu.pendingInj.set p (some ⟨e.first, e.count, max e.amp (-8388607)⟩) } }) rfl (by simp [u])
      exact ⟨t, ht, hsame, fun _ => ⟨hanswered, hkept⟩, nofun⟩
    | some j =>
      have hok : s.taken.injectEcho b.payload = ⟨u.bump Ctr.injectionsReplaced, .replaced, [], .nothing⟩ := by
        rw [hinject]
        exact if_pos (show (s.pcu.pendingInj[p]).isSome = true by rw [hpend]; rfl)
      have hbump : ctrsKept [Ctr.injectionsReplaced] s.taken (u.bump Ctr.injectionsReplaced) :=
        ctrsKept_bump u (by decide)
      obtain ⟨ht, hanswered, hkept, -⟩ := State.command_done (i := .injectEcho b) (c := .injectEcho) hready rfl hb rfl
        hlen' hok rfl (by simp [u]) hbump (by decide) (by decide)
      refine ⟨_, ht, ?_, nofun, fun _ => ⟨hanswered, ?_, hkept⟩⟩
      · exact Answer.respond_sameButLine _ _ hready rfl (by simp [u]) (by simp [u])
      · refine counted_after_kept s.taken_ctrsKept (by decide) (counted_before_kept
          (cs := blockCtrs) (counted_bump u Ctr.injectionsReplaced) ?_ (by decide))
        exact Answer.respond_ctrsKept ⟨u.bump Ctr.injectionsReplaced, .replaced, [], .nothing⟩ _

end Sys2Proof.Machine
end

section
/-! The line and its clocks: discards inward, waiting commands, the timebase, the interval report (R151, R152,
R159, R160, R163, R179). -/

namespace Sys2Proof.Machine

/-! ### Waiting commands (R152, R163) -/

theorem State.serve_of_not_canTake {s : State} (h : s.canTake = false) : s.serve = s := by
  unfold State.serve
  cases s.slc.inbound.length with
  | zero => rfl
  | succ n => simp [State.takeLoop, h]

/-- Settles O44: no command can be taken while the part resets or the Response Queue is full. -/
theorem commandsWaitOrOverrun : Obligations.CommandsWaitOrOverrun := by
  intro i b s hrow
  rw [exec_commandRow s hrow]
  refine ⟨fun hroom hwait => ?_, fun hfull => ?_⟩
  · have hcan : ((s.withSlc { s.slc with inbound := s.slc.inbound ++ [b] }).bump Ctr.inboundGood).canTake = false := by
      have hsame : ((s.withSlc { s.slc with inbound := s.slc.inbound ++ [b] }).bump Ctr.inboundGood).canTake
          = s.canTake := rfl
      rw [hsame, State.canTake, Bool.and_eq_false_iff]
      refine hwait.imp (fun h => by simp [h]) fun h => ?_
      rw [h]
      rfl
    rw [State.deliver, if_pos (show s.slc.inbound.length < Config.inboundSlots from hroom),
      State.serve_of_not_canTake hcan]
    rfl
  · have hno : ¬ s.slc.inbound.length < Config.inboundSlots := by
      rw [hfull]
      decide
    rw [State.deliver, if_neg hno]
    have hbump : counted Ctr.inboundOverrun s (s.bump Ctr.inboundOverrun) := counted_bump s _
    have hraise := State.raise_ctrsKept (s.bump Ctr.inboundOverrun) .inboundOverrun
    exact ⟨_, rfl, (Link.raise_settings _ _).1, counted_before_kept hbump hraise (by decide),
      ctrsKept_trans (ctrsKept_bump s (by decide)) (ctrsKept_mono hraise (by simp +contextual)), rfl⟩

/-! ### Inbound discards (R151) -/

theorem State.gapExpires_of_not_hunt {s : State} (h : s.slc.inParser ≠ .hunt) :
    s.gapExpires = s.dropInbound Ctr.inboundTimeout := by
  unfold State.gapExpires
  split
  · exact absurd ‹_› h
  · rfl

theorem State.badChar_of_not_hunt {s : State} (h : s.slc.inParser ≠ .hunt) :
    s.badChar = s.dropInbound Ctr.inboundLineError := by
  unfold State.badChar
  split
  · exact absurd ‹_› h
  · rfl

theorem State.gapExpires_of_hunt {s : State} (h : s.slc.inParser = .hunt) : s.gapExpires = s := by
  rw [State.gapExpires, h]

theorem State.badChar_of_hunt {s : State} (h : s.slc.inParser = .hunt) : s.badChar = s := by
  rw [State.badChar, h]

/-- The part with the timeout of the gap behind a character fixed (R151). -/
def State.gapFixed (s : State) : State := s.withSlc { s.slc with gapTimeout := s.slc.charTimeout }

theorem State.character_good (s : State) (c : Byte) : s.character c true = s.gapFixed.goodChar c := rfl

theorem State.character_bad (s : State) (c : Byte) : s.character c false = s.gapFixed.badChar := rfl

/-- Settles O43, by the state of the inbound parser. -/
theorem inboundDiscards : Obligations.InboundDiscards := by
  intro s c
  refine ⟨fun hhunt => ⟨?_, ?_, fun hc => ?_⟩, fun hbusy => ⟨?_, ?_⟩, fun got hgot hlen hlong => ?_⟩
  · exact congrArg Host.Outcome.next (State.gapExpires_of_hunt hhunt)
  · exact congrArg Host.Outcome.next (State.badChar_of_hunt (s := s.gapFixed) hhunt)
  · have hhunt' : s.gapFixed.slc.inParser = .hunt := hhunt
    have hskip : s.gapFixed.goodChar c = s.gapFixed := by
      rw [State.goodChar, hhunt']
      exact if_neg hc
    exact congrArg Host.Outcome.next hskip
  · exact congrArg Host.Outcome.next (State.gapExpires_of_not_hunt hbusy)
  · exact congrArg Host.Outcome.next (State.badChar_of_not_hunt (s := s.gapFixed) hbusy)
  · have hgot' : s.gapFixed.slc.inParser = .header got := hgot
    have hdrop : s.gapFixed.goodChar c = s.gapFixed.dropInbound Ctr.inboundLength := by
      rw [State.goodChar, hgot']
      simp only [List.length_append, List.length_singleton, hlen]
      rw [if_neg (by decide)]
      exact if_pos hlong
    exact congrArg Host.Outcome.next hdrop

/-! ### Frames that fit are queued and not lost (R153, R155, R156) -/

/-- A frame as it joins the Report Buffer. -/
def Link.tagged (l : Link) (f : Frame) : Frame := { f with tag := l.slc.tagCounter }

theorem Link.offer_of_fits (l : Link) (k : FrameKind) (p : List Byte) (h : l.slc.fits p.length = true) :
    l.offer k p = ((l.enqueue ⟨k, l.slc.levels.of k, 0, p.length, p, 0, .nothing⟩).kick, true) := by
  have hplace : l.place ⟨k, l.slc.levels.of k, 0, p.length, p, 0, .nothing⟩
      = ⟨l.enqueue ⟨k, l.slc.levels.of k, 0, p.length, p, 0, .nothing⟩, true, false⟩ := if_pos h
  rw [Link.offer, hplace]
  rfl

/-- A QUEUED report frame that is not a NOTICE frame stays so, or starts as CURRENT. -/
theorem Link.kick_keeps (l : Link) {f : Frame} (hf : f ∈ l.slc.queue) (hn : f.kind ≠ .notice) :
    f ∈ l.kick.slc.queue ++ l.kick.slc.current.toList := by
  unfold Link.kick
  split
  · split
    · rename_i g hg
      rw [List.mem_append]
      by_cases hfg : f = g
      · subst hfg
        refine .inr ?_
        simp [Link.startPending, Link.startBlock, Slc.filled, hn]
      · refine .inl ?_
        simp only [Link.startPending, Link.startBlock, Slc.without]
        split
        · exact hf
        · exact (List.mem_erase_of_ne hfg).2 hf
    · exact List.mem_append_left _ hf
  · exact List.mem_append_left _ hf

/-! ### The interval report (R160, R179) -/

theorem State.intervalCheck_of_due {s : State} (hp : 1 ≤ s.slc.interval) (he : s.slc.elapsed = s.slc.interval) :
    s.intervalCheck = (s.withSlc { s.slc with elapsed := 0 }).offerInterval := if_pos ⟨hp, he⟩

theorem State.intervalCheck_of_not_due {s : State} (h : s.slc.interval = 0 ∨ s.slc.elapsed ≠ s.slc.interval) :
    s.intervalCheck = s := if_neg fun ⟨hp, he⟩ => by
  obtain h | h := h
  · omega
  · exact h he

theorem length_deltas (v w : Vector Nat 16) : (deltas v w).length = 16 := by simp [deltas]

theorem intervalPayload_length (s : State) : (intervalPayload s).length = 81 := by
  have hdeltas := length_flatMap_const (deltas s.ctrs.listed s.slc.snapshots) (be 4) 4 (fun n _ => be_length 4 n)
  rw [length_deltas] at hdeltas
  simp [intervalPayload, hdeltas]

/-- The interval report offered into a Report Buffer that has room for it (R160). -/
theorem State.offerInterval_of_fits {s : State} (h : s.slc.fits 81 = true) : s.offerInterval
    = (s.withLink (s.link.enqueue ⟨.interval, s.slc.levels.interval, 0, 81, intervalPayload s, 0, .nothing⟩).kick).intervalSent
    := by
  have hoffer := s.link.offer_of_fits .interval (intervalPayload s) (by rw [intervalPayload_length]; exact h)
  rw [intervalPayload_length] at hoffer
  have hsend : s.offer .interval (intervalPayload s) = (s.withLink (s.link.enqueue
      ⟨.interval, s.slc.levels.interval, 0, 81, intervalPayload s, 0, .nothing⟩).kick, true) := by
    rw [State.offer, hoffer]
    rfl
  rw [State.offerInterval, hsend]

/-- The interval list of the counters, entry by entry (R160). -/
theorem Counters.listed_get (v : Counters) (i : Fin 16) : v.listed[i] = v[intervalList[i]] := by
  simp [Counters.listed]

theorem Counters.listed_toList (v : Counters) :
    v.listed.toList = (List.finRange 16).map fun i => v[intervalList[i]] := by
  refine List.ext_getElem (by simp) fun i h1 h2 => ?_
  rw [Vector.getElem_toList, List.getElem_map, List.getElem_finRange]
  exact v.listed_get ⟨i, by simpa using h1⟩

theorem deltas_eq (v : Counters) (w : Vector Nat 16) :
    deltas v.listed w = (List.finRange 16).map fun i => v[intervalList[i]] - w[i] := by
  refine List.ext_getElem (by simp [deltas]) fun i h1 h2 => ?_
  have hi : i < 16 := by simpa [deltas] using h1
  rw [List.getElem_map, List.getElem_finRange]
  simp only [deltas, List.getElem_zipWith, Vector.getElem_toList]
  exact congrArg (· - w[i]) (v.listed_get ⟨i, hi⟩)

theorem intervalList_not_block : ∀ i : Fin 16, intervalList[i] ∉ blockCtrs := by decide

theorem intervalPayload_eq {s : State} (h : s.slc.span < 4294967296) : intervalPayload s
    = be 4 s.slc.time.sec ++ be 4 s.slc.time.usec ++ [bit1 s.slc.time.valid] ++ be 4 s.slc.span ++ [s.fcu.state.code]
      ++ [s.sku.sky.code]
      ++ be 2 (flagBits ((List.finRange 16).map fun i => s.ctrs[intervalList[i]] = 4294967295))
      ++ ((List.finRange 16).flatMap fun i => be 4 (s.ctrs[intervalList[i]] - s.slc.snapshots[i])) := by
  have hspan : spanField s.slc.span = s.slc.span := if_pos h
  rw [intervalPayload, deltas_eq, hspan, Counters.listed_toList, List.flatMap_map, List.map_map]
  rfl

theorem State.intervalSent_counted (s : State) : counted Ctr.intervalFrames s s.intervalSent :=
  counted_bump (s.withSlc _) _

/-- Settles O48: a report that is due and fits joins the Report Buffer, and the snapshots are fresh. -/
theorem intervalReportBuilt : Obligations.IntervalReportBuilt := by
  intro s
  refine ⟨fun h => congrArg Host.Outcome.next (State.intervalCheck_of_not_due h), fun hp he hfits hline hspan => ?_⟩
  let u := s.withSlc { s.slc with elapsed := 0 }
  let f : Frame := ⟨.interval, s.slc.levels.interval, 0, 81, intervalPayload u, 0, .nothing⟩
  have hsent : s.intervalCheck = (u.withLink (u.link.enqueue f).kick).intervalSent := by
    rw [State.intervalCheck_of_due hp he]
    exact State.offerInterval_of_fits (s := u) hfits
  have hkick := (u.link.enqueue f).kick_ctrs
  have hset := (Link.kick_settings (u.link.enqueue f)).1
  obtain ⟨-, -, -, -, -, -, -, -, -, -, helapsed, -⟩ := hset
  refine ⟨s.intervalCheck, u.link.tagged f, rfl, ?_, rfl, rfl, rfl, ?_, ?_, ?_⟩
  · rw [hsent]
    exact (u.link.enqueue f).kick_keeps (List.mem_append_right _ List.mem_cons_self)
      (show FrameKind.interval ≠ .notice by decide)
  · exact intervalPayload_eq (s := u) hspan
  · exact intervalPayload_length u
  · rw [hsent]
    have hlinked : ctrsKept blockCtrs s (u.withLink (u.link.enqueue f).kick) := hkick
    refine ⟨helapsed, rfl, fun i => ?_, ?_, ?_, rfl⟩
    · have hlisted := (u.withLink (u.link.enqueue f).kick).ctrs.listed_get i
      exact hlisted.trans (hlinked _ (intervalList_not_block i))
    · exact counted_after_kept hlinked (by decide) (State.intervalSent_counted _)
    · exact ctrsKept_trans (ctrsKept_mono hlinked (by simp +contextual))
        (ctrsKept_bump (State.withSlc _ _) (by simp))

/-! ### The timebase (R159, R160) -/

theorem State.microsecond_within {s : State} (h : s.slc.runUsec < 999999) : s.microsecond
    = s.withSlc { s.slc with time := s.slc.time.tick, runUsec := s.slc.runUsec + 1 } := if_pos h

/-- The part after the microsecond that completes the running second, before a report is offered (R160). -/
def State.secondDone (s : State) : State := s.withSlc { s.slc with
  time := s.slc.time.tick
  runUsec := 0
  span := s.slc.span + 1
  elapsed := if s.slc.interval = 0 then s.slc.elapsed else s.slc.elapsed + 1 }

theorem State.microsecond_whole {s : State} (h : s.slc.runUsec = 999999) :
    s.microsecond = s.secondDone.intervalCheck := by
  have hwhole : s.microsecond = (s.withSlc { s.slc with time := s.slc.time.tick, runUsec := 0 }).wholeSecond :=
    if_neg (by omega)
  have helapsed : (if 1 ≤ s.slc.interval then s.slc.elapsed + 1 else s.slc.elapsed)
      = if s.slc.interval = 0 then s.slc.elapsed else s.slc.elapsed + 1 := by
    split <;> split <;> omega
  rw [hwhole, State.secondDone, ← helapsed]
  rfl

theorem Stamp.tick_valid (t : Stamp) : t.tick.valid = t.valid := by
  unfold Stamp.tick
  split <;> rfl

theorem Stamp.tick_usec {t : Stamp} (h : t.usec < 1000000) : t.tick.usec < 1000000 := by
  unfold Stamp.tick
  split
  · simp only
    omega
  · simp

theorem Stamp.tick_sec {t : Stamp} (h : t.sec < 4294967296) : t.tick.sec < 4294967296 := by
  unfold Stamp.tick
  split
  · exact h
  · exact Nat.mod_lt _ (by decide)

/-- A tick advances the timebase by one microsecond, modulo its range (R159). -/
theorem Stamp.tick_total {t : Stamp} (hs : t.sec < 4294967296) (hu : t.usec < 1000000) :
    t.tick.sec * 1000000 + t.tick.usec = (t.sec * 1000000 + t.usec + 1) % 4294967296000000 := by
  unfold Stamp.tick
  split <;> dsimp only <;> omega

/-- With the interval reports off a microsecond moves the clocks and the span alone (R159, R160). -/
theorem State.microsecond_off {s : State} (h : s.slc.interval = 0) (hr : s.slc.runUsec < 1000000) : s.microsecond
    = s.withSlc { s.slc with
        time := s.slc.time.tick
        runUsec := (s.slc.runUsec + 1) % 1000000
        span := s.slc.span + (s.slc.runUsec + 1) / 1000000 } := by
  by_cases hlast : s.slc.runUsec = 999999
  · rw [State.microsecond_whole hlast, State.intervalCheck_of_not_due (s := s.secondDone) (.inl h),
      State.secondDone, if_pos h, hlast]
  · rw [State.microsecond_within (by omega), Nat.mod_eq_of_lt (by omega), Nat.div_eq_of_lt (by omega)]
    rfl

/-- The state that follows from `s` by `n` microseconds with the interval reports off (R159, R160). -/
def State.clocked (s : State) (n : Nat) (t : State) : Prop :=
  t.slc.time.sec * 1000000 + t.slc.time.usec = (s.slc.time.sec * 1000000 + s.slc.time.usec + n) % 4294967296000000
    ∧ t.slc.time.usec < 1000000 ∧ t.slc.time.valid = s.slc.time.valid
    ∧ t.slc.runUsec = (s.slc.runUsec + n) % 1000000
    ∧ t.slc.span = s.slc.span + (s.slc.runUsec + n) / 1000000
    ∧ t = { s with slc := { s.slc with time := t.slc.time, runUsec := t.slc.runUsec, span := t.slc.span } }

theorem Runs_clocked (n : Nat) {s : State} (h : s.slc.interval = 0) (hs : s.slc.time.sec < 4294967296)
    (hu : s.slc.time.usec < 1000000) (hr : s.slc.runUsec < 1000000) :
    ∃ t, Runs (List.replicate n .timebaseAdvance) s t ∧ s.clocked n t := by
  induction n generalizing s with
  | zero =>
    refine ⟨s, rfl, ?_, hu, rfl, ?_, ?_, rfl⟩ <;> omega
  | succ n ih =>
    have hone := State.microsecond_off h hr
    have hsec := Stamp.tick_sec hs
    have husec := Stamp.tick_usec hu
    have htotal := Stamp.tick_total hs hu
    obtain ⟨t, hruns, hclock, htu, hvalid, hrun, hspan, heq⟩ := ih (s := s.microsecond) (by rw [hone]; exact h)
      (by rw [hone]; exact hsec) (by rw [hone]; exact husec) (by rw [hone]; exact Nat.mod_lt _ (by decide))
    refine ⟨t, ⟨s.microsecond, rfl, hruns⟩, ?_⟩
    rw [hone] at hclock hvalid hrun hspan heq
    simp only [State.withSlc_slc] at hclock hvalid hrun hspan heq
    have hclockN : t.slc.time.sec * 1000000 + t.slc.time.usec
        = (s.slc.time.sec * 1000000 + s.slc.time.usec + (n + 1)) % 4294967296000000 := by
      rw [hclock, htotal, Nat.mod_add_mod, Nat.add_assoc _ 1 n, Nat.add_comm 1 n]
    have hrunN : t.slc.runUsec = (s.slc.runUsec + (n + 1)) % 1000000 := by omega
    have hspanN : t.slc.span = s.slc.span + (s.slc.runUsec + (n + 1)) / 1000000 := by omega
    exact ⟨hclockN, htu, hvalid.trans (Stamp.tick_valid _), hrunN, hspanN, heq⟩

theorem State.offer_slc (s : State) (k : FrameKind) (p : List Byte) :
    (s.offer k p).1.slc = (s.link.offer k p).1.slc := rfl

/-- An offered interval report leaves no elapsed count (R160). -/
theorem State.offerInterval_elapsed (s : State) : s.offerInterval.slc.elapsed = s.slc.elapsed := by
  have hset := (s.link.offer_settings .interval (intervalPayload s)).1
  obtain ⟨-, -, -, -, -, -, -, -, -, -, helapsed, -⟩ := hset
  rw [← State.offer_slc] at helapsed
  unfold State.offerInterval
  generalize s.offer .interval (intervalPayload s) = r at helapsed ⊢
  obtain ⟨u, sent⟩ := r
  cases sent <;> exact helapsed

theorem State.offerInterval_sent {s : State} (h : s.slc.fits 81 = true) :
    s.offerInterval.slc.span = 0 ∧ counted Ctr.intervalFrames s s.offerInterval := by
  rw [State.offerInterval_of_fits h]
  have hkick : ctrsKept blockCtrs s (s.withLink (s.link.enqueue
      ⟨.interval, s.slc.levels.interval, 0, 81, intervalPayload s, 0, .nothing⟩).kick) := Link.kick_ctrs _
  exact ⟨rfl, counted_after_kept hkick (by decide) (State.intervalSent_counted _)⟩

/-- Settles O49, by induction on the number of microseconds, and by what completes the running second. -/
theorem timebaseCountsMicroseconds : Obligations.TimebaseCountsMicroseconds := by
  refine ⟨fun n s h hs hu hr => Runs_clocked n h hs hu hr, fun s => ⟨fun h => ?_, fun h => ⟨fun hoff => ?_,
    fun hp hfull => ?_⟩⟩⟩
  · exact congrArg Host.Outcome.next (State.microsecond_within h)
  · have hnot : s.secondDone.slc.interval = 0 ∨ s.secondDone.slc.elapsed ≠ s.secondDone.slc.interval := by
      by_cases hzero : s.slc.interval = 0
      · exact .inl hzero
      · refine .inr ?_
        simp only [State.secondDone, State.withSlc_slc, if_neg hzero]
        exact hoff.resolve_left hzero
    exact congrArg Host.Outcome.next ((State.microsecond_whole h).trans (State.intervalCheck_of_not_due hnot))
  · have helapsed : s.secondDone.slc.elapsed = s.secondDone.slc.interval := by
      simp only [State.secondDone, State.withSlc_slc]
      rw [if_neg (by omega)]
      exact hfull
    have hdue := State.intervalCheck_of_due (s := s.secondDone) hp helapsed
    have hwhole := State.microsecond_whole h
    refine ⟨congrArg Host.Outcome.next hwhole, s.microsecond, rfl, ?_, fun hfits => ?_⟩
    · rw [hwhole, hdue]
      exact State.offerInterval_elapsed _
    · rw [hwhole, hdue]
      exact State.offerInterval_sent (s := s.secondDone.withSlc { s.secondDone.slc with elapsed := 0 }) hfits

end Sys2Proof.Machine
end

section
/-! Commands that touch the SLC, the SKU or the counters, and the after-effects of responses (R116, R130, R139, R145,
R146, R159, R161, R166 to R171). -/

namespace Sys2Proof.Machine

/-! ### Answers of any command that is not refused (R164) -/

/-- Whatever a command does to the line, its response is added to those held, at the RESPONSE level in force. -/
theorem State.command_answered {s : State} {i : Instr} {kind : Byte} {b : CmdBlock} {c : Command} (h : s.ready)
    (hi : commandRow i = some (inBlock kind b)) (hb : b.single = true) (hc : commandOf kind = some c)
    (hl : b.payload.length = c.length b.payload) {a : Answer} (hrun : c.run s.taken b.payload = a)
    (hr : a.result.refusal = false) (hin : a.st.slc.inbound = []) {cs : List Ctr} (hk : ctrsKept cs s.taken a.st)
    (hgood : Ctr.inboundGood ∉ cs) (htaken : Ctr.commandsTaken ∉ cs) :
    exec i s = .next (a.respond (inBlock kind b))
      ∧ s.answered (a.respond (inBlock kind b)) (responseTo a.st.slc kind b a.result a.extra a.after)
      ∧ ctrsKept (cs ++ commandCtrs) s (a.respond (inBlock kind b))
      ∧ (a.respond (inBlock kind b)).slc.sameSettings a.st.slc := by
  have hline : s.taken.slc.lineSound := by
    obtain ⟨-, -, -, hline⟩ := h
    simpa using hline
  have hsingle : b.segment = 0 ∧ b.last = true := by simpa [CmdBlock.single] using hb
  have hexec : s.taken.execute (inBlock kind b) = a := by
    simp only [State.execute, inBlock, hsingle, hc, ← hrun, ← hl, and_self, if_true]
  obtain ⟨hsound, hheld⟩ := s.taken.execute_lineSound (inBlock kind b) hline
  rw [hexec] at hsound hheld
  have hslc : s.taken.slc = s.slc := by simp
  rw [hslc] at hheld
  obtain ⟨hresp, hset, hctrs⟩ := Answer.respond_spec a (inBlock kind b) hsound
  obtain ⟨hgoodTaken, htakenTaken⟩ := s.taken_counted
  obtain ⟨-, -, -, -, hinb, -⟩ := id hset
  refine ⟨?_, ⟨?_, hinb.trans hin, ?_, ?_⟩, Answer.respond_ok_ctrsKept a _ hr hk, hset⟩
  · rw [exec_commandRow s hi, State.deliver_ready s _ h, hexec]
  · refine hresp.trans ?_
    have hframe : (⟨.response, a.st.slc.levels.response, (inBlock kind b).tag,
        ([(inBlock kind b).kind, a.result.code] ++ a.extra).length, [(inBlock kind b).kind, a.result.code] ++ a.extra, 0,
        a.after⟩ : Frame) = responseTo a.st.slc kind b a.result a.extra a.after := by
      simp [responseTo, inBlock, Nat.add_comm 2]
    rw [hframe]
    exact hheld.cons _
  · exact counted_before_kept (counted_before_kept hgoodTaken hk hgood) hctrs (by decide)
  · exact counted_before_kept (counted_before_kept htakenTaken hk htaken) hctrs (by decide)

/-! ### SET_PROGRAM (R166) -/

/-- Settles O51: the record is read back, and it replaces the program's record. -/
theorem programRecordWritten : Obligations.ProgramRecordWritten := by
  intro s b p r hready hrun hb hp hv
  have hread : s.taken.setProgram b.payload = (s.taken.writeProgram p r).ok := by
    rw [State.setProgram, if_neg (taken_not_running hrun), hp, readProgram_programBytes p hv]
  refine State.command_ok (c := .setProgram) hready rfl hb rfl (by rw [hp, programBytes_length]; rfl) hread
    (by simp [State.writeProgram]) (by simp [State.writeProgram]) rfl ?_
  simp only [State.writeProgram, State.taken_frame, true_and, and_true]
  refine ⟨by simp [Servo.init], ?_⟩
  split <;> rfl

/-! ### TIME_MARK and SET_REPORTING (R159, R167) -/

/-- What an accepted TIME_MARK does: the step beyond 1,000 µs of a set clock is raised (R159). -/
theorem State.mark_spec (s : State) (m : Stamp) :
    (s.mark m).slc.sameSettings { s.slc with time := m } ∧ counted Ctr.timeMarks s (s.mark m)
      ∧ (s.slc.time.valid = true → 1000 < (markStep m s.slc.time).natAbs → counted Ctr.timeSteps s (s.mark m))
      ∧ (s.slc.time.valid = false ∨ (markStep m s.slc.time).natAbs ≤ 1000 → ctrsKept [Ctr.timeMarks] s (s.mark m))
      ∧ ctrsKept (Ctr.timeMarks :: Ctr.timeSteps :: raiseCtrs) s (s.mark m)
      ∧ s.mark m = { s with slc := (s.mark m).slc, ctrs := (s.mark m).ctrs } := by
  let u := (s.withSlc { s.slc with time := m }).bump Ctr.timeMarks
  have hmark : s.mark m = if s.slc.time.valid && decide (1000 < (markStep m s.slc.time).natAbs) then
      (u.bump Ctr.timeSteps).raise .timeStep else u := rfl
  have hu : counted Ctr.timeMarks s u := counted_bump (s.withSlc _) _
  have huk : ctrsKept [Ctr.timeMarks] s u := ctrsKept_bump (s.withSlc _) (by decide)
  have hstep : ctrsKept [Ctr.timeSteps] u (u.bump Ctr.timeSteps) := ctrsKept_bump u (by decide)
  have hraise := State.raise_ctrsKept (u.bump Ctr.timeSteps) .timeStep
  rw [hmark]
  split
  · rename_i hbig
    simp only [Bool.and_eq_true, decide_eq_true_eq] at hbig
    refine ⟨(Link.raise_settings _ _).1, ?_, fun _ _ => ?_, fun h => ?_, ?_, rfl⟩
    · exact counted_before_kept (counted_before_kept hu hstep (by decide)) hraise (by decide)
    · exact counted_before_kept (counted_after_kept huk (by decide) (counted_bump _ _)) hraise (by decide)
    · obtain h | h := h
      · rw [hbig.1] at h
        cases h
      · omega
    · exact ctrsKept_trans (ctrsKept_mono huk (by simp)) (ctrsKept_trans (ctrsKept_mono hstep (by simp))
        (ctrsKept_mono hraise (by simp +contextual)))
  · rename_i hsmall
    simp only [Bool.and_eq_true, decide_eq_true_eq, not_and] at hsmall
    refine ⟨Slc.sameSettings_refl _, hu, fun hv hb => absurd hb (hsmall hv), fun _ => huk,
      ctrsKept_mono huk (by simp), rfl⟩

theorem stepReported_eq (mark now : Stamp) : stepReported mark now
    = if now.valid then max (-2147483647) (min 2147483647 (markStep mark now)) else 0 := by
  rw [stepReported, clampInt_eq (by decide)]

/-- Settles O50, by the effect of TIME_MARK on the clock, and of SET_REPORTING on the settings of the SLC. -/
theorem timeAndReportingCommands : Obligations.TimeAndReportingCommands := by
  intro s b hready hb
  refine ⟨fun sec usec hsec husec hp => ?_, fun r hp hread => ?_⟩
  · have hread := readTimeMark_bytes (show sec ≤ 4294967295 by omega) husec
    have hslc : s.taken.slc = s.slc := by simp
    obtain ⟨hset, hmarks, hsteps, hfew, hkept, hsame⟩ := s.taken.mark_spec ⟨sec, usec, true⟩
    have hrun : s.taken.timeMark b.payload = ⟨s.taken.mark ⟨sec, usec, true⟩, .ok,
        beInt 4 (stepReported ⟨sec, usec, true⟩ s.taken.slc.time), .nothing⟩ := by
      rw [State.timeMark, hp, hread]
    rw [hslc] at hset hsteps hfew hrun
    obtain ⟨hrate, hparser, hchar, hgap, hinb, hlevels, hmask, htime, husec', hint, hel, hspan, hsnap⟩ := hset
    obtain ⟨hexec, hanswered, -, hresp⟩ := State.command_answered (i := .timeMark b) (c := .timeMark) hready rfl hb rfl
      (by simp [hp, Command.length]) hrun rfl (by rw [hinb]; exact hready.2.1) hkept (by decide) (by decide)
    have hsend := Answer.respond_ctrsKept ⟨s.taken.mark ⟨sec, usec, true⟩, .ok,
      beInt 4 (stepReported ⟨sec, usec, true⟩ s.slc.time), .nothing⟩ (inBlock 0x21 b)
    have hdone := fun cs hcs => Answer.respond_ok_ctrsKept (s := s) (cs := cs) ⟨s.taken.mark ⟨sec, usec, true⟩, .ok,
      beInt 4 (stepReported ⟨sec, usec, true⟩ s.slc.time), .nothing⟩ (inBlock 0x21 b) rfl hcs
    obtain ⟨-, -, -, -, -, -, -, htimeR, husecR, -, helR, hspanR, -⟩ := hresp
    have hlater : ∀ c : Ctr, counted c s.taken (s.taken.mark ⟨sec, usec, true⟩) →
        c ∉ [Ctr.inboundGood, Ctr.commandsTaken] → c ∉ blockCtrs → counted c s _ := fun c hc htaken hblock =>
      counted_before_kept (counted_after_kept s.taken_ctrsKept htaken hc) hsend hblock
    refine ⟨_, hexec, ?_, htimeR.trans htime, husecR.trans husec', helR.trans hel, hspanR.trans hspan,
      hlater _ hmarks (by decide) (by decide), fun hv hbig => hlater _ (hsteps hv hbig) (by decide) (by decide),
      fun h => hdone [Ctr.timeMarks] (hfew h), ?_⟩
    · have hlevel : responseTo (s.taken.mark ⟨sec, usec, true⟩).slc 0x21 b .ok
          (beInt 4 (stepReported ⟨sec, usec, true⟩ s.slc.time)) .nothing
          = responseTo s.slc 0x21 b .ok (beInt 4 (stepReported ⟨sec, usec, true⟩ s.slc.time)) .nothing := by
        rw [responseTo, responseTo, hlevels]
      have hshown := congrArg (beInt 4) (stepReported_eq ⟨sec, usec, true⟩ s.slc.time)
      rw [hlevel] at hanswered
      exact hshown.subst (motive := fun e => s.answered _ (responseTo s.slc 0x21 b .ok e .nothing)) hanswered
    · have hline : ∀ a : Answer, a.result.refusal = false → a.st = { s with slc := a.st.slc, ctrs := a.st.ctrs } →
          ∀ q : InBlock, a.respond q = { s with slc := (a.respond q).slc, ctrs := (a.respond q).ctrs } := by
        intro a ha hst q
        simp only [Answer.respond, ha, State.bumpIf, Bool.false_eq_true, if_false]
        rw [hst]
        rfl
      exact hline _ rfl (hsame.trans rfl) _
  · let u := s.taken.withSlc { s.taken.slc with
      levels := r.levels, noticeMask := r.mask, interval := r.period, charTimeout := r.timeout, elapsed := 0 }
    have hrun : s.taken.setReporting b.payload = (u.withLink u.link.attemptIfPending).ok := by
      rw [State.setReporting, hread]
    obtain ⟨hset, hstack⟩ := u.link.attemptIfPending_settings
    have hslc : s.taken.slc = s.slc := by simp
    have hulink : u.link.slc = { s.slc with
        levels := r.levels, noticeMask := r.mask, interval := r.period, charTimeout := r.timeout, elapsed := 0 } := by
      rw [← hslc]
      rfl
    rw [hulink] at hset hstack
    obtain ⟨hrate, hparser, hchar, hgap, hinb, hlevels, hmask, htime, husec', hint, hel, hspan, hsnap⟩ := hset
    have hkept : ctrsKept raiseCtrs s.taken (u.withLink u.link.attemptIfPending) := by
      have : ctrsWithin raiseCtrs u.link.ctrs u.link.attemptIfPending.ctrs := by
        unfold Link.attemptIfPending
        split
        · exact Link.noticeAttempt_ctrs _
        · exact ctrsWithin_refl _ _
      exact this
    obtain ⟨hexec, hanswered, -, hresp⟩ := State.command_answered (i := .setReporting b) (c := .setReporting) hready rfl
      hb rfl (by rw [hp, reportingBytes_length]; rfl) hrun rfl
      (by rw [State.ok, State.withLink_slc, hinb]; exact hready.2.1) hkept (by decide) (by decide)
    obtain ⟨-, -, hcharR, hgapR, -, hlevelsR, hmaskR, htimeR, -, hintR, helR, hspanR, hsnapR⟩ := hresp
    refine ⟨_, hexec, ?_, hlevelsR.trans hlevels, hmaskR.trans hmask, hintR.trans hint, hcharR.trans hchar,
      hgapR.trans hgap, helR.trans hel, hspanR.trans hspan, hsnapR.trans hsnap, htimeR.trans htime, ?_, rfl⟩
    · have hlevel : responseTo (u.withLink u.link.attemptIfPending).slc 0x20 b .ok [] .nothing
          = responseTo { s.slc with levels := r.levels } 0x20 b .ok [] .nothing := by
        rw [responseTo, responseTo, State.withLink_slc, hlevels]
      rw [← hlevel]
      exact hanswered
    · exact (Link.putResponse_settings _ _ _ _).2.trans hstack

end Sys2Proof.Machine
end

section
/-! Tracking, sky and capture settings, the reads, and the after-effects of responses (R116, R130, R139, R145, R146,
R161, R168 to R171). -/

namespace Sys2Proof.Machine

/-! ### RESET_TRACKS at the SKU (R130, R139) -/

/-- The counters that an emptied table can increase at the SKU. -/
def skyEmptiedCtrs : List Ctr := Ctr.skyChangeRaises :: Ctr.captureTriggers :: raiseCtrs

/-- The SKU told that the Track Table was emptied (R139). -/
theorem State.skyEmptied_spec (s : State) :
    (s.skyEmptied.sku.sky = .unknown ∧ s.skyEmptied.sku.lastVv = none ∧ s.skyEmptied.sku.hold = 0
        ∧ s.skyEmptied.sku.ceiling = none ∧ s.skyEmptied.sku.ceilingLow = s.sku.ceilingLow
        ∧ s.skyEmptied.sku.reportCount = s.sku.reportCount)
      ∧ s.skyEmptied.slc.sameSettings s.slc
      ∧ (s.sku.sky ≠ .unknown → counted Ctr.skyChangeRaises s s.skyEmptied)
      ∧ ctrsKept skyEmptiedCtrs s s.skyEmptied := by
  let s1 := s.withSku { s.sku with sky := .unknown, lastVv := none, hold := 0, ceiling := none }
  let n : State → Bool → Nat := fun u k =>
    (u.sku.captures.toList.filter fun e => e.fires (u.sku.holds e k false)).length
  have hbump : ctrsKept [Ctr.skyChangeRaises] s (s1.bump Ctr.skyChangeRaises) := ctrsKept_bump s1 (by decide)
  have hraise := State.raise_ctrsKept (s1.bump Ctr.skyChangeRaises) .skyChange
  have htrigger : ∀ (u : State) (k : Bool), ctrsKept [Ctr.captureTriggers] u (u.triggerStep k false) := fun u k =>
    ctrsKept_bumpBy (u.withSku _) (n u k) (by decide)
  by_cases hknown : s.sku.sky = .unknown
  · have heq : s.skyEmptied = s1.triggerStep false false := by
      simp [State.skyEmptied, hknown, s1]
    rw [heq]
    have hkept : ctrsKept [Ctr.captureTriggers] s (s1.triggerStep false false) := htrigger s1 false
    exact ⟨⟨rfl, rfl, rfl, rfl, rfl, rfl⟩, Slc.sameSettings_refl _, fun h => absurd hknown h,
      ctrsKept_mono hkept (by decide)⟩
  · have heq : s.skyEmptied = ((s1.bump Ctr.skyChangeRaises).raise .skyChange).triggerStep true false := by
      simp [State.skyEmptied, hknown, s1]
    rw [heq]
    have hset := (Link.raise_settings (s1.bump Ctr.skyChangeRaises).link .skyChange).1
    have hcount : counted Ctr.skyChangeRaises s (s1.bump Ctr.skyChangeRaises) := counted_bump s1 _
    refine ⟨⟨rfl, rfl, rfl, rfl, rfl, rfl⟩, hset, fun _ => ?_, ?_⟩
    · exact counted_before_kept (counted_before_kept hcount hraise (by decide)) (htrigger _ true) (by decide)
    · exact ctrsKept_trans (ctrsKept_mono hbump (by decide)) (ctrsKept_trans (ctrsKept_mono hraise (by decide))
        (ctrsKept_mono (htrigger _ true) (by decide)))

/-- A command that leaves the RESPONSE level alone answers at it. -/
theorem responseTo_of_levels {l m : Slc} (h : l.levels = m.levels) (kind : Byte) (b : CmdBlock) (r : Result)
    (extra : List Byte) (a : AfterSend) : responseTo l kind b r extra a = responseTo m kind b r extra a := by
  rw [responseTo, responseTo, h]

/-- Settles O40, command by command: the operands are read back and the settings replaced; the emptied table is told
to the SKU. -/
theorem trackingAndSkyCommands : Obligations.TrackingAndSkyCommands := by
  intro s b hready hb
  refine ⟨fun q hp hv => ?_, fun hp => ?_, fun T H R hT hH hR hR' hp => ?_, fun e c h p hh hp => ?_⟩
  · let u := s.taken.withLtu { s.taken.ltu with
      params := q, tracks := s.taken.ltu.tracks.map fun t => t.cut q.histLen }
    have hrun : s.taken.setTracking b.payload = (u.bump Ctr.trackingSets).ok := by
      rw [State.setTracking, hp, readTracking_trackingBytes hv]
    have hbump : ctrsKept [Ctr.trackingSets] s.taken (u.bump Ctr.trackingSets) := ctrsKept_bump u (by decide)
    obtain ⟨ht, hanswered, hkept, -⟩ := State.command_done (i := .setTracking b) (c := .setTracking) hready rfl hb rfl
      (by rw [hp, trackingBytes_length]; rfl) hrun rfl (by simp [u]) hbump (by decide) (by decide)
    refine ⟨_, ht, hanswered, ?_, hkept, ?_⟩
    · have hcount : counted Ctr.trackingSets s.taken (u.bump Ctr.trackingSets) := counted_bump u _
      exact counted_after_kept s.taken_ctrsKept (by decide)
        (counted_before_kept hcount (Answer.respond_ctrsKept (u.bump Ctr.trackingSets).ok _) (by decide))
    · refine Answer.respond_sameButLine _ _ hready rfl (by simp [u]) ?_
      simp [u, Track.cut]
  · let u := (s.taken.withLtu { s.taken.ltu with tracks := [] }).bumpBy Ctr.tracksCleared s.taken.ltu.tracks.length
    have hrun : s.taken.resetTracks = ⟨u.skyEmptied, .ok, be 1 s.taken.ltu.tracks.length, .nothing⟩ := rfl
    obtain ⟨⟨hsky, hvv, hhold, hceil, hlow, hreport⟩, hset, hcount, hkept⟩ := u.skyEmptied_spec
    have hclear : ctrsKept [Ctr.tracksCleared] s.taken u := ctrsKept_bumpBy (s.taken.withLtu _) _ (by decide)
    have hboth : ctrsKept (Ctr.tracksCleared :: skyEmptiedCtrs) s.taken u.skyEmptied :=
      ctrsKept_trans (ctrsKept_mono hclear (by simp)) (ctrsKept_mono hkept (by simp +contextual))
    have hslc : u.slc = s.slc := by simp [u]
    have hltu : s.taken.ltu = s.ltu := by simp
    rw [hslc] at hset
    rw [hltu] at hrun
    obtain ⟨-, -, -, -, hinb, hlevels, -⟩ := id hset
    obtain ⟨ht, hanswered, hall, hresp⟩ := State.command_answered (i := .resetTracks b) (c := .resetTracks) hready rfl hb
      rfl (by rw [hp]; rfl) hrun rfl (by rw [hinb]; exact hready.2.1) hboth (by decide) (by decide)
    have hsend := Answer.respond_ctrsKept ⟨u.skyEmptied, .ok, be 1 s.ltu.tracks.length, .nothing⟩ (inBlock 0x1A b)
    refine ⟨_, ht, ?_, ?_⟩
    · rwa [responseTo_of_levels hlevels] at hanswered
    · have hcleared : (u.skyEmptied.ctrs)[Ctr.tracksCleared]
          = min (s.ctrs[Ctr.tracksCleared] + s.ltu.tracks.length) Config.counterMax := by
        have hsame : s.taken.ctrs[Ctr.tracksCleared] = s.ctrs[Ctr.tracksCleared] := s.taken_ctrsKept _ (by decide)
        rw [hkept _ (by decide), ← hsame, ← hltu]
        exact Counters.add_get_self _ _ _
      have hmarked : s.sku.sky ≠ .unknown → counted Ctr.skyChangeRaises s _ := fun hknown =>
        counted_before_kept (counted_after_kept (ctrsKept_trans (ctrsKept_mono s.taken_ctrsKept (ds := [Ctr.inboundGood,
          Ctr.commandsTaken, Ctr.tracksCleared]) (by decide)) (ctrsKept_mono hclear (by decide))) (by decide)
          (hcount (by simpa [u] using hknown))) hsend (by decide)
      refine ⟨by simp [u], by simpa using hsky, by simpa using hvv, by simpa using hhold, by simpa using hceil,
        by simpa [u] using hlow, by simpa [u] using hreport, (hsend _ (by decide)).trans hcleared, hmarked, by simp [u],
        by simp [u], by simp [u], by simp [u], by simp [u], by simp [u], by simp [u],
        Slc.sameSettings_trans hresp hset⟩
  · have hrun : s.taken.setSky b.payload = (s.taken.withSku { s.taken.sku with
        threshold := T, hysteresis := H, divider := R, reportCount := 0 }).ok := by
      rw [State.setSky, hp, readSky_bytes hT hH hR hR']
    exact State.command_ok (c := .setSky) hready rfl hb rfl (by simp [hp, Command.length]) hrun (by simp) (by simp) rfl
      (by simp)
  · have hrun : s.taken.setCapture b.payload = (s.taken.withSku { s.taken.sku with
        captures := s.taken.sku.captures.set e ⟨c, h, p, decide (c ≠ .none), false⟩ }).ok := by
      rw [State.setCapture, hp, readCapture_bytes e c p hh]
    exact State.command_ok (c := .setCapture) hready rfl hb rfl (by simp [hp, Command.length]) hrun (by simp) (by simp)
      rfl (by simp)

/-! ### The reads (R168 to R170) -/

/-- A read answered OK changes nothing but the line and the counters of any command. -/
theorem State.command_reads {s : State} {i : Instr} {kind : Byte} {b : CmdBlock} {c : Command} (h : s.ready)
    (hi : commandRow i = some (inBlock kind b)) (hb : b.single = true) (hc : commandOf kind = some c)
    (hl : b.payload.length = c.length b.payload) (p : List Byte) (after : AfterSend)
    (hrun : c.run s.taken b.payload = ⟨s.taken, .ok, p, after⟩) :
    ∃ t, exec i s = .next t ∧ s.answered t (responseTo s.slc kind b .ok p after) ∧ ctrsKept commandCtrs s t
      ∧ s.sameButLine t := by
  obtain ⟨ht, hanswered, hkept, -⟩ := State.command_done (cs := []) h hi hb hc hl hrun rfl (by simp)
    (ctrsKept_refl _ _) (by simp) (by simp)
  exact ⟨_, ht, hanswered, hkept, Answer.respond_sameButLine _ _ h rfl (by simp) (by simp)⟩

theorem statusSection_isSome (s : State) {n : Nat} (h : n ≤ 6) : ∃ p, statusSection s n = some p := by
  interval_cases n <;> exact ⟨_, rfl⟩

theorem Counters.clear_get (v : Counters) (first n : Nat) (c : Ctr) :
    (v.clear first n)[c] = if first ≤ c.val ∧ c.val < first + n then 0 else v[c] := by
  rw [Fin.getElem_fin, Counters.clear, Vector.getElem_ofFn]

theorem clearSnapshots_get (v : Vector Nat 16) (first n : Nat) (i : Fin 16) : (clearSnapshots v first n)[i]
    = if first ≤ (intervalList[i]).val ∧ (intervalList[i]).val < first + n then 0 else v[i] := by
  rw [Fin.getElem_fin, clearSnapshots, Vector.getElem_ofFn]

/-- Settles O52: the reads by what they answer, a clearing read by what it clears. -/
theorem readsReport : Obligations.ReadsReport := by
  intro s b hready hb
  refine ⟨fun n hn hp hq => ?_, fun hp => ?_, fun first count clear hone hmost hend hp => ?_⟩
  · obtain ⟨p, hsec⟩ := statusSection_isSome s.taken hn
    have hfield : field b.payload 0 1 = n := by rw [hp, field_be, Nat.mod_eq_of_lt (by omega)]
    have hrun : s.taken.readStatus b.payload = ⟨s.taken, .ok, p, .nothing⟩ := by
      rw [State.readStatus, hfield, hsec]
    obtain ⟨t, ht, hanswered, hkept, hsame⟩ := State.command_reads (i := .readStatus b) (c := .readStatus) hready rfl hb
      rfl (by simp [hp, Command.length]) p .nothing hrun
    obtain ⟨-, hlen⟩ := statusSection_length (by simpa using hq) hsec
    refine ⟨t, p, ht, hsec, hanswered, hkept, hsame, fun h4 => ?_, fun h4 => ?_⟩
    · rw [hlen]
      interval_cases n <;> simp at h4 ⊢
    · have hldu : s.taken.ldu = s.ldu := by simp
      rw [hlen, h4, hldu]
      rfl
  · obtain ⟨t, ht, hanswered, hkept, hsame⟩ := State.command_reads (i := .readTracks b) (c := .readTracks) hready rfl hb
      rfl (by rw [hp]; rfl) (tracksPayload s.taken.ltu) .nothing rfl
    have hltu : s.taken.ltu = s.ltu := by simp
    rw [hltu] at hanswered
    exact ⟨t, _, ht, rfl, tracksPayload_length _, hanswered, hkept, hsame⟩
  · let u : State := if clear then { s.taken with
        ctrs := s.taken.ctrs.clear first count
        slc := { s.taken.slc with snapshots := clearSnapshots s.taken.slc.snapshots first count } } else s.taken
    have hrun : s.taken.readCounters b.payload = ⟨u, .ok, counterBytes s.taken.ctrs first count, .nothing⟩ := by
      rw [State.readCounters, hp, readCounterRange_bytes clear hone hmost hend]
    have hdeliver := State.deliver_command s 0x23 b .readCounters hready hb rfl (by simp [hp, Command.length])
    have hexec : exec (.readCounters b) s = .next ((⟨u, .ok, counterBytes s.taken.ctrs first count, .nothing⟩ :
        Answer).respond (inBlock 0x23 b)) := by
      rw [← hrun]
      exact congrArg Host.Outcome.next hdeliver
    have hslc : u.slc = { s.slc with snapshots := u.slc.snapshots } := by
      simp only [u]
      split <;> simp
    have hline : u.slc.lineSound := by
      rw [hslc]
      exact hready.2.2.2
    obtain ⟨hheld, hset, -⟩ := Answer.respond_spec ⟨u, .ok, counterBytes s.taken.ctrs first count, .nothing⟩
      (inBlock 0x23 b) hline
    have hsend := Answer.respond_ctrsKept ⟨u, .ok, counterBytes s.taken.ctrs first count, .nothing⟩ (inBlock 0x23 b)
    have hsnap : ∀ i : Fin 16, u.slc.snapshots[i] = if clear = true ∧ first ≤ (intervalList[i]).val
        ∧ (intervalList[i]).val < first + count then 0 else s.slc.snapshots[i] := by
      intro i
      cases clear with
      | true => simpa [u] using clearSnapshots_get s.slc.snapshots first count i
      | false => simp [u]
    have hctr : ∀ c : Ctr, u.ctrs[c] = if clear = true ∧ first ≤ c.val ∧ c.val < first + count then 0
        else s.taken.ctrs[c] := by
      intro c
      cases clear with
      | true => simpa [u] using s.taken.ctrs.clear_get first count c
      | false => simp [u]
    obtain ⟨hrate, hparser, hchar, hgap, hinb, hlevels, hmask, htime, husec, hint, hel, hspan, hsnapR⟩ := hset
    refine ⟨_, hexec, ?_, fun c hc => (hsend c hc).trans (hctr c), fun i => ?_, ?_, ?_⟩
    · rw [hslc] at hheld
      simpa [responseTo, inBlock, counterBytes, Nat.add_comm 2, Slc.held] using hheld
    · rw [hsnapR]
      exact hsnap i
    · rw [hslc] at hrate hparser hchar hgap hinb hlevels hmask htime husec hint hel hspan
      exact ⟨hrate, hparser, hchar, hgap, hinb, hlevels, hmask, htime, husec, hint, hel, hspan, rfl⟩
    · have hu : u = { s with slc := u.slc, ctrs := u.ctrs } := by
        simp only [u]
        split <;> simp [State.taken, State.bump]
      have hresp : ∀ q : InBlock, (⟨u, .ok, counterBytes s.taken.ctrs first count, .nothing⟩ : Answer).respond q
          = u.withLink (u.link.putResponse q.tag _ .nothing) := fun _ => rfl
      rw [hresp, hu]
      rfl

/-! ### After-effects (R161, R171) -/

/-- Settles O53: the responses by their answers, the after-effects by the end of their frame. -/
theorem responsesWithAfterEffects : Obligations.ResponsesWithAfterEffects := by
  refine ⟨fun s b hready hb hp => ⟨?_, ?_⟩, fun s f hcur hlast => ⟨fun hafter => ?_,
    fun hafter hin hmasked hhigh hstack => ?_⟩⟩
  · have hrun : s.taken.softReset = ⟨{ s.taken with mgu := .resetting }, .ok, [], .softReset⟩ := rfl
    obtain ⟨ht, hanswered, hkept, -⟩ := State.command_done (i := .softReset b) (c := .softReset) (cs := []) hready rfl hb
      rfl (by rw [hp]; rfl) hrun rfl (by simp) (ctrsKept_refl _ _) (by simp) (by simp)
    exact ⟨_, ht, hanswered, hkept, Answer.respond_sameButLine _ _ hready rfl (by simp) (by simp)⟩
  · exact State.command_reads (c := .injectCrc) hready rfl hb rfl (by rw [hp]; rfl) [] .crcInject rfl
  · let f1 : Frame := { f with sent := f.sent + 1 }
    let u := ((s.bump Ctr.blocksSent).withSlc { s.slc with current := none, phase := .boundary, txBlock := [] }).bump
      Ctr.framesSent
    let v := u.withLink u.link.attemptIfPending
    have hends : s.blockCompletes = v.softResetEffect.withLink v.softResetEffect.link.arbitrateEnd := by
      have hnot : ¬ f1.sent < f1.blocks := Nat.not_lt.2 hlast
      rw [State.blockCompletes, hcur]
      simp only
      rw [if_neg hnot]
      have hframe : (s.bump Ctr.blocksSent).frameEnds f1 = v.softResetEffect.serve := by
        rw [State.frameEnds, show f1.after = .softReset from hafter]
        rfl
      rw [hframe]
      rfl
    obtain ⟨hset, -⟩ := u.link.attemptIfPending_settings
    obtain ⟨hrate, -, -, -, hinb, -, -, htime, husec, -, -, -, hsnap⟩ := hset
    have hattempt : ctrsKept raiseCtrs u v := by
      have hwithin : ctrsWithin raiseCtrs u.link.ctrs u.link.attemptIfPending.ctrs := by
        unfold Link.attemptIfPending
        split
        · exact Link.noticeAttempt_ctrs _
        · exact ctrsWithin_refl _ _
      exact hwithin
    have hdiscard : ctrsKept [Ctr.commandsDiscarded] v v.softResetEffect :=
      ctrsWithin_add v.ctrs v.slc.inbound.length (by decide)
    have hblocks : counted Ctr.blocksSent s (s.bump Ctr.blocksSent) := counted_bump s _
    have hframes : counted Ctr.framesSent (s.bump Ctr.blocksSent) u := counted_bump (State.withSlc _ _) _
    have hbump : ctrsKept [Ctr.blocksSent] s (s.bump Ctr.blocksSent) := ctrsKept_bump s (by decide)
    have hbump2 : ctrsKept [Ctr.framesSent] (s.bump Ctr.blocksSent) u := ctrsKept_bump (State.withSlc _ _) (by decide)
    have hu : ctrsKept [Ctr.blocksSent, Ctr.framesSent] s u :=
      ctrsKept_trans (ctrsKept_mono hbump (by decide)) (ctrsKept_mono hbump2 (by decide))
    have hend : ctrsKept (Ctr.commandsDiscarded :: raiseCtrs) u v.softResetEffect :=
      ctrsKept_trans (ctrsKept_mono hattempt (by simp +contextual)) (ctrsKept_mono hdiscard (by simp))
    have hctrs : (v.softResetEffect.withLink v.softResetEffect.link.arbitrateEnd).ctrs = v.softResetEffect.ctrs := rfl
    refine ⟨_, congrArg Host.Outcome.next hends, rfl, rfl, rfl, rfl, rfl, rfl, rfl, rfl, rfl, ?_, ?_, ?_, ?_, ?_⟩
    · have hreset : (v.softResetEffect.withLink v.softResetEffect.link.arbitrateEnd).slc = { Slc.reset v.slc.rate with
          time := v.slc.time, runUsec := v.slc.runUsec, snapshots := v.slc.snapshots } := rfl
      rw [hreset, show v.slc.rate = s.slc.rate from hrate, show v.slc.time = s.slc.time from htime,
        show v.slc.runUsec = s.slc.runUsec from husec, show v.slc.snapshots = s.slc.snapshots from hsnap]
    · exact counted_before_kept (counted_before_kept hblocks hbump2 (by decide)) hend (by decide)
    · exact counted_before_kept (counted_after_kept hbump (by decide) hframes) hend (by decide)
    · have hbefore : v.ctrs[Ctr.commandsDiscarded] = s.ctrs[Ctr.commandsDiscarded] :=
        (hattempt _ (by decide)).trans (hu _ (by decide))
      rw [← hbefore, show s.slc.inbound.length = v.slc.inbound.length by rw [show v.slc.inbound = s.slc.inbound from hinb]]
      exact Counters.add_get_self _ _ _
    · exact ctrsKept_trans (ctrsKept_mono hu (by decide)) (ctrsKept_mono hend (by decide))
  · let f1 : Frame := { f with sent := f.sent + 1 }
    let u := ((s.bump Ctr.blocksSent).withSlc { s.slc with current := none, phase := .boundary, txBlock := [] }).bump
      Ctr.framesSent
    have hattempt : u.link.attemptIfPending = u.link := if_neg (by
      rw [show u.link.slc.unmaskedPending = s.slc.unmaskedPending from rfl, hmasked]
      decide)
    let v := u.withSlc { u.slc with crcInject := true }
    have hserve : v.serve = v := by
      rw [State.serve, show v.slc.inbound = s.slc.inbound from rfl, hin]
      rfl
    have hends : s.blockCompletes = v.withLink v.link.arbitrateEnd := by
      have hnot : ¬ f1.sent < f1.blocks := Nat.not_lt.2 hlast
      rw [State.blockCompletes, hcur]
      simp only
      rw [if_neg hnot]
      have hframe : (s.bump Ctr.blocksSent).frameEnds f1 = v := by
        rw [State.frameEnds, show f1.after = .crcInject from hafter]
        exact (congrArg (fun l => ((u.withLink l).afterResponse .crcInject).serve) hattempt).trans hserve
      rw [hframe]
    have hidle : v.link.arbitrateEnd
        = { v.link with slc := { v.link.slc with phase := .idle, current := none, txBlock := [] } } := by
      rw [Link.arbitrateEnd, show v.link.slc.stack = s.slc.stack from rfl, hstack]
      simp only
      rw [show v.link.slc.highest = s.slc.highest from rfl, hhigh]
    refine ⟨_, congrArg Host.Outcome.next hends, ?_⟩
    rw [State.withLink_slc, hidle]
    rfl

end Sys2Proof.Machine
end

section
/-! The checks of a command block in their order, and the ranges of the settings field by field (R165). -/

namespace Sys2Proof.Machine

/-! ### Fields and codes out of range (R175, R177) -/

theorem foldl_bytes_lt (l : List Byte) (acc : Nat) :
    l.foldl (fun a (b : Byte) => a * 256 + b.toNat) acc < (acc + 1) * 256 ^ l.length := by
  induction l generalizing acc with
  | nil => simp
  | cons b l ih =>
    have hb := b.isLt
    have hstep : acc * 256 + b.toNat + 1 ≤ (acc + 1) * 256 := by omega
    calc _ < (acc * 256 + b.toNat + 1) * 256 ^ l.length := ih _
      _ ≤ (acc + 1) * 256 * 256 ^ l.length := Nat.mul_le_mul_right _ hstep
      _ = (acc + 1) * 256 ^ (b :: l).length := by rw [List.length_cons, Nat.pow_succ]; ring

theorem field_lt (p : List Byte) (off n : Nat) : field p off n < 256 ^ n := by
  have h := foldl_bytes_lt ((p.drop off).take n) 0
  rw [Nat.zero_add, Nat.one_mul] at h
  exact h.trans_le (Nat.pow_le_pow_right (by decide) (List.length_take_le _ _))

theorem progOf_isSome {v : Nat} : (progOf v).isSome = true ↔ v ≤ 3 := by
  unfold progOf
  split <;> simp <;> omega

theorem boolCode_isSome {v : Nat} : (boolCode v).isSome = true ↔ v ≤ 1 := by
  unfold boolCode
  split
  · simp
    omega
  · split <;> simp <;> omega

theorem yesCode_isSome {v : Nat} : (yesCode v).isSome = true ↔ v ≤ 1 := by
  rw [yesCode, Option.isSome_map, boolCode_isSome]

theorem bgOf_eq_some {v : Nat} {m : BgMethod} (h : bgOf v = some m) : v ≤ 2 ∧ (m = .tail ↔ v = 1) := by
  unfold bgOf at h
  split at h
  · cases h
    simp
    omega
  · split at h
    · cases h
      simp
      omega
    · split at h
      · cases h
        simp
        omega
      · cases h

theorem bgOf_isSome {v : Nat} (h : v ≤ 2) : (bgOf v).isSome = true := by
  interval_cases v <;> rfl

theorem condOf_isSome {v : Nat} : (condOf v).isSome = true ↔ v ≤ 4 := by
  refine ⟨fun h => ?_, fun h => by interval_cases v <;> rfl⟩
  by_contra hv
  rw [condOf, if_neg (by omega), if_neg (by omega), if_neg (by omega), if_neg (by omega), if_neg (by omega)] at h
  cases h

theorem slotOf_isSome {v : Nat} : (slotOf v).isSome = true ↔ v / 16 ≤ 2 ∧ v % 16 ≤ 3 := by
  have hp := @progOf_isSome (v % 16)
  unfold slotOf
  split
  · rename_i h
    rw [h] at hp
    simp at hp ⊢
    omega
  · rename_i p h
    rw [h] at hp
    simp only [Option.isSome_some, true_iff] at hp
    (repeat' split) <;> simp <;> omega

/-! ### The readers, field by field -/

/-- The operands of SET_PROGRAM out of range (R166). -/
def badProgram (p : List Byte) : Prop :=
  let count := field p 4 2
  3 < field p 0 1 ∨ 1 < field p 1 1 ∨ 2047 < field p 2 2 ∨ count = 0 ∨ 1024 < count
    ∨ 2048 < field p 2 2 + count ∨ field p 6 2 < 16 ∨ 16384 < field p 6 2 ∨ field p 8 2 < 64
    ∨ 4000 < field p 8 2 ∨ 1 < field p 10 1 ∨ field p 12 1 < field p 11 1 ∨ 2 < field p 13 1
    ∨ 64 < field p 14 1 ∨ count < field p 14 1 ∨ field p 13 1 = 1 ∧ field p 14 1 = 0
    ∨ 2047 < field p 15 2 ∨ 2048 < field p 15 2 + count ∨ 2047 < field p 17 2
    ∨ 2048 < field p 17 2 + count ∨ count ≤ field p 19 2 ∨ 1 < field p 21 1 ∨ 1 < field p 22 1
    ∨ field p 24 4 = 0

theorem readProgram_eq_none (p : List Byte) : readProgram p = none ↔ badProgram p := by
  have h11 := field_lt p 11 1
  have h12 := field_lt p 12 1
  have h23 := field_lt p 23 1
  have h24 := field_lt p 24 4
  have h28 := field_lt p 28 1
  simp only [Nat.reducePow] at h11 h12 h23 h24 h28
  have hprog := @progOf_isSome (field p 0 1)
  have hen := @yesCode_isSome (field p 1 1)
  have hauto := @boolCode_isSome (field p 10 1)
  have hbg := @bgOf_isSome (field p 13 1)
  have hdet := @yesCode_isSome (field p 21 1)
  have hrole := @boolCode_isSome (field p 22 1)
  unfold readProgram badProgram
  split
  · rename_i n en auto bg det role e0 e1 e10 e13 e21 e22
    obtain ⟨hbg2, htail⟩ := bgOf_eq_some e13
    replace hprog := hprog.1 (by rw [e0]; rfl)
    replace hen := hen.1 (by rw [e1]; rfl)
    replace hauto := hauto.1 (by rw [e10]; rfl)
    replace hdet := hdet.1 (by rw [e21]; rfl)
    replace hrole := hrole.1 (by rw [e22]; rfl)
    simp only [ite_eq_right_iff, reduceCtorEq, imp_false, ProgramRec.valid, Bool.and_eq_true, Bool.or_eq_true,
      decide_eq_true_eq, ne_eq, htail]
    omega
  · rename_i hnone
    refine ⟨fun _ => ?_, fun _ => rfl⟩
    by_contra hgood
    obtain ⟨n, e0⟩ := Option.isSome_iff_exists.1 (hprog.2 (by omega))
    obtain ⟨en, e1⟩ := Option.isSome_iff_exists.1 (hen.2 (by omega))
    obtain ⟨auto, e10⟩ := Option.isSome_iff_exists.1 (hauto.2 (by omega))
    obtain ⟨bg, e13⟩ := Option.isSome_iff_exists.1 (hbg (by omega))
    obtain ⟨det, e21⟩ := Option.isSome_iff_exists.1 (hdet.2 (by omega))
    obtain ⟨role, e22⟩ := Option.isSome_iff_exists.1 (hrole.2 (by omega))
    exact hnone n en auto bg det role e0 e1 e10 e13 e21 e22

theorem readFiring_eq_none (p : List Byte) : readFiring p = none ↔ field p 0 2 < 100 ∨ 10000 < field p 0 2
    ∨ field p 2 2 < 512 ∨ 4096 < field p 2 2 ∨ field p 4 2 < 10 ∨ 1000 < field p 4 2 ∨ 4193280 < field p 6 4
    ∨ field p 0 2 ≤ field p 4 2 := by
  simp only [readFiring, ite_eq_right_iff, reduceCtorEq, imp_false, Firing.valid, Bool.and_eq_true, decide_eq_true_eq]
  omega

theorem readSchedule_eq_none (p : List Byte) :
    readSchedule p = none ↔ ∃ n, n < 32 ∧ (2 < field p n 1 / 16 ∨ 3 < field p n 1 % 16) := by
  simp only [readSchedule, ite_eq_right_iff, reduceCtorEq, imp_false, List.all_eq_true, List.mem_range, slotOf_isSome]
  push Not
  exact exists_congr fun n => and_congr_right fun _ => by omega

theorem readTracking_eq_none (p : List Byte) : readTracking p = none ↔ field p 0 1 = 0 ∨ field p 1 1 < field p 0 1
    ∨ field p 1 1 < 3 ∨ 10 < field p 1 1 ∨ field p 2 1 = 0 ∨ 15 < field p 2 1 ∨ 4095 < field p 3 2
    ∨ 4095 < field p 5 2 ∨ field p 7 1 = 0 ∨ 8 < field p 7 1 := by
  simp only [readTracking, ite_eq_right_iff, reduceCtorEq, imp_false, TrackParams.valid, Bool.and_eq_true,
    decide_eq_true_eq]
  omega

theorem readSky_eq_none (p : List Byte) :
    readSky p = none ↔ 4095 < field p 0 2 ∨ 4095 < field p 2 2 ∨ field p 4 1 = 0 := by
  simp only [readSky, ite_eq_right_iff, reduceCtorEq, imp_false, Bool.and_eq_true, decide_eq_true_eq]
  omega

theorem readCapture_eq_none (p : List Byte) : readCapture p = none ↔ 3 < field p 0 1 ∨ 4 < field p 1 1
    ∨ 4095 < field p 2 2 ∨ 3 < field p 4 1 := by
  have hentry := @progOf_isSome (field p 0 1)
  have hcond := @condOf_isSome (field p 1 1)
  have hprog := @progOf_isSome (field p 4 1)
  unfold readCapture
  split
  · rename_i e c n e0 e1 e4
    replace hentry := hentry.1 (by rw [e0]; rfl)
    replace hcond := hcond.1 (by rw [e1]; rfl)
    replace hprog := hprog.1 (by rw [e4]; rfl)
    simp only [ite_eq_right_iff, reduceCtorEq, imp_false]
    omega
  · rename_i hnone
    refine ⟨fun _ => ?_, fun _ => rfl⟩
    by_contra hgood
    obtain ⟨e, e0⟩ := Option.isSome_iff_exists.1 (hentry.2 (by omega))
    obtain ⟨c, e1⟩ := Option.isSome_iff_exists.1 (hcond.2 (by omega))
    obtain ⟨n, e4⟩ := Option.isSome_iff_exists.1 (hprog.2 (by omega))
    exact hnone e c n e0 e1 e4

theorem readReporting_eq_none (p : List Byte) : readReporting p = none ↔ (∃ n, n < 5 ∧ 3 < field p n 1)
    ∨ 3600 < field p 7 2 ∨ field p 9 1 = 0 := by
  have hlevels : (∃ n, n < 5 ∧ 3 < field p n 1) ↔ 3 < field p 0 1 ∨ 3 < field p 1 1 ∨ 3 < field p 2 1
      ∨ 3 < field p 3 1 ∨ 3 < field p 4 1 := by
    refine ⟨fun ⟨n, hn, h⟩ => by interval_cases n <;> simp [h], ?_⟩
    rintro (h | h | h | h | h)
    · exact ⟨0, by decide, h⟩
    · exact ⟨1, by decide, h⟩
    · exact ⟨2, by decide, h⟩
    · exact ⟨3, by decide, h⟩
    · exact ⟨4, by decide, h⟩
  rw [hlevels]
  simp only [readReporting, ite_eq_right_iff, reduceCtorEq, imp_false, Bool.and_eq_true, decide_eq_true_eq]
  omega

/-! ### The checks in their order (R165) -/

/-- A row whose block is refused. -/
theorem State.row_refused {s : State} {i : Instr} {k : Byte} {b : CmdBlock} (h : s.ready)
    (hi : commandRow i = some (inBlock k b)) {r : Result} (hr : r.refusal = true)
    (hexec : s.taken.execute (inBlock k b) = s.taken.refuse r) :
    ∃ t, exec i s = .next t ∧ s.refusedWith t k b r [] [] := by
  refine ⟨_, exec_commandRow s hi, ?_⟩
  rw [State.deliver_ready s _ h, hexec]
  exact State.refusedWith_respond k b r [] h hr

theorem State.execute_of_command {s : State} {k : Byte} {b : CmdBlock} {c : Command} (hb : b.single = true)
    (hc : commandOf k = some c) (hl : b.payload.length = c.length b.payload) :
    s.execute (inBlock k b) = c.run s b.payload := by
  have hsingle : b.segment = 0 ∧ b.last = true := by simpa [CmdBlock.single] using hb
  simp only [State.execute, inBlock, hsingle, hc, ← hl, and_self, if_true]

/-- A kind that is no command's (R174). -/
theorem commandOf_of_unknown {k : Byte} (h : commandKind k = false) : commandOf k = none := by
  unfold commandOf
  split
  · rfl
  · rename_i hk
    have hhigh : 0x25 < k.toNat := by
      simp only [commandKind, Bool.and_eq_false_iff, decide_eq_false_iff_not] at h
      omega
    refine List.getElem?_eq_none ?_
    have hall : Command.all.length = 22 := rfl
    omega

/-- Settles O54: the readers refuse exactly the fields out of range, and the checks come in the order of R165. -/
theorem blocksRefused : Obligations.BlocksRefused := by
  refine ⟨fun p => ⟨readProgram_eq_none p, readFiring_eq_none p, readSchedule_eq_none p, readTracking_eq_none p,
    readSky_eq_none p, readCapture_eq_none p, readReporting_eq_none p⟩, fun s i k b hready hi => ?_⟩
  have hrow : commandRow i = some (inBlock k b) := hi
  have hrefused : ∀ {c : Command} {r : Result}, b.single = true → commandOf k = some c →
      b.payload.length = c.length b.payload → r.refusal = true → c.run s.taken b.payload = s.taken.refuse r →
      ∃ t, exec i s = .next t ∧ s.refusedWith t k b r [] [] := fun hb hc hl hr hrun =>
    State.row_refused hready hrow hr ((State.execute_of_command hb hc hl).trans hrun)
  refine ⟨fun hb => ?_, fun hkind => ?_, fun c hb hc hl => ?_, fun hb hrun hk => ?_, fun hb hrun hk => ?_,
    fun hb hk => ?_⟩
  · refine State.row_refused hready hrow rfl (if_neg ?_)
    rintro ⟨hseg, hlast⟩
    have hseg' : b.segment = 0 := hseg
    have hlast' : b.last = true := hlast
    simp [CmdBlock.single, hseg', hlast'] at hb
  · refine State.row_refused hready hrow rfl ?_
    have hnone : commandOf (inBlock k b).kind = none := commandOf_of_unknown hkind
    rw [State.execute, hnone]
    exact ite_self _
  · have hsingle : b.segment = 0 ∧ b.last = true := by simpa [CmdBlock.single] using hb
    refine State.row_refused hready hrow rfl ?_
    simp only [State.execute, inBlock, hsingle, hc, hl, and_self, if_true, if_false]
  · have hrunning : s.taken.fcu.state = .running := by simpa using hrun
    obtain ⟨rfl, hl⟩ | ⟨rfl, hl⟩ | ⟨rfl, hl⟩ := hk
    · exact hrefused (c := .setProgram) hb rfl hl rfl (if_pos hrunning)
    · exact hrefused (c := .setFiring) hb rfl hl rfl (if_pos hrunning)
    · exact hrefused (c := .setSchedule) hb rfl hl rfl (if_pos hrunning)
  · have hidle := taken_not_running hrun
    obtain ⟨rfl, hl, hbad⟩ | ⟨rfl, hl, hbad⟩ | ⟨rfl, hl, hbad⟩ := hk
    · exact hrefused (c := .setProgram) hb rfl hl rfl
        (by rw [Command.run, State.setProgram, if_neg hidle, (readProgram_eq_none _).2 hbad])
    · exact hrefused (c := .setFiring) hb rfl hl rfl
        (by rw [Command.run, State.setFiring, if_neg hidle, (readFiring_eq_none _).2 hbad])
    · exact hrefused (c := .setSchedule) hb rfl hl rfl
        (by rw [Command.run, State.setSchedule, if_neg hidle, (readSchedule_eq_none _).2 hbad])
  · obtain ⟨rfl, hl, hbad⟩ | ⟨rfl, hl, hbad⟩ | ⟨rfl, hl, hbad⟩ | ⟨rfl, hl, hbad⟩ | ⟨rfl, hl, hbad⟩ | ⟨rfl, hl, hbad⟩
      | ⟨rfl, hl, hbad⟩ := hk
    · exact hrefused (c := .setTracking) hb rfl hl rfl
        (by rw [Command.run, State.setTracking, (readTracking_eq_none _).2 hbad])
    · exact hrefused (c := .setSky) hb rfl hl rfl (by rw [Command.run, State.setSky, (readSky_eq_none _).2 hbad])
    · exact hrefused (c := .setCapture) hb rfl hl rfl
        (by rw [Command.run, State.setCapture, (readCapture_eq_none _).2 hbad])
    · exact hrefused (c := .setReporting) hb rfl hl rfl
        (by rw [Command.run, State.setReporting, (readReporting_eq_none _).2 hbad])
    · have hnone : readTimeMark b.payload = none := if_neg (by omega)
      exact hrefused (c := .timeMark) hb rfl hl rfl (by rw [Command.run, State.timeMark, hnone])
    · have hnone : statusSection s.taken (field b.payload 0 1) = none := by
        obtain ⟨m, hm⟩ : ∃ m, field b.payload 0 1 = m + 7 := ⟨field b.payload 0 1 - 7, by omega⟩
        rw [hm]
        rfl
      exact hrefused (c := .readStatus) hb rfl hl rfl (by rw [Command.run, State.readStatus, hnone])
    · have hnone : readCounterRange b.payload = none := by
        simp only [readCounterRange, ite_eq_right_iff, reduceCtorEq, imp_false, Bool.and_eq_true, decide_eq_true_eq,
          Config.counterCount]
        omega
      exact hrefused (c := .readCounters) hb rfl hl rfl (by rw [Command.run, State.readCounters, hnone])

end Sys2Proof.Machine
end

section
/-! Characters and blocks on the station line, both ways (R149 to R152, R174). -/

namespace Sys2Proof.Machine

/-! ### The inbound parser over a block (R151) -/

/-- The part after characters with right stop bits. -/
def State.hears (s : State) (cs : List Byte) : State := cs.foldl (fun u c => u.character c true) s

theorem Runs_hears (s : State) (cs : List Byte) :
    Runs (cs.map fun c => .inboundCharacter c true) s (s.hears cs) := by
  induction cs generalizing s with
  | nil => rfl
  | cons c cs ih => exact ⟨s.character c true, rfl, ih _⟩

theorem State.hears_append (s : State) (cs ds : List Byte) : s.hears (cs ++ ds) = (s.hears cs).hears ds :=
  List.foldl_append

theorem State.hears_cons (s : State) (c : Byte) (cs : List Byte) :
    s.hears (c :: cs) = (s.gapFixed.goodChar c).hears cs := rfl

theorem State.hears_nil (s : State) : s.hears [] = s := rfl

/-- The gap behind a character is fixed once for a part that only listens (R151). -/
theorem State.listen_gapFixed (s : State) (p : InParser) : (s.gapFixed.listen p).gapFixed = s.gapFixed.listen p := rfl

/-- The first characters of a header. -/
theorem State.hears_header (s : State) (got cs : List Byte) (h : got.length + cs.length < 6) :
    (s.gapFixed.listen (.header got)).hears cs = s.gapFixed.listen (.header (got ++ cs)) := by
  induction cs generalizing got with
  | nil => rw [List.append_nil, State.hears_nil]
  | cons c cs ih =>
    rw [List.length_cons] at h
    have hstep : (s.gapFixed.listen (.header got)).goodChar c = s.gapFixed.listen (.header (got ++ [c])) := by
      have hlen : (got ++ [c]).length < 6 := by simp; omega
      exact if_pos hlen
    rw [State.hears_cons, State.listen_gapFixed, hstep, ih _ (by simp; omega), List.append_assoc, List.singleton_append]

/-- The last character of a header. -/
theorem State.goodChar_header_last (s : State) (got : List Byte) (c : Byte) (h : got.length = 5) :
    (s.listen (.header got)).goodChar c = (s.listen (.header got)).headerDone (got ++ [c]) := by
  have hlen : ¬ (got ++ [c]).length < 6 := by simp; omega
  exact if_neg hlen

/-- The characters of a payload, to its last one. -/
theorem State.hears_payload (s : State) (hdr got : List Byte) (cs : List Byte) (need : Nat)
    (h : got.length + cs.length = need) (hcs : cs ≠ []) :
    (s.gapFixed.listen (.payload hdr got need)).hears cs = s.gapFixed.listen (.check hdr (got ++ cs) none) := by
  induction cs generalizing got with
  | nil => exact absurd rfl hcs
  | cons c cs ih =>
    rw [List.length_cons] at h
    rw [State.hears_cons, State.listen_gapFixed]
    by_cases hlast : cs = []
    · subst hlast
      have hlen : ¬ (got ++ [c]).length < need := by simp at h ⊢; omega
      exact if_neg hlen
    · have hpos := List.length_pos_of_ne_nil hlast
      have hstep : (s.gapFixed.listen (.payload hdr got need)).goodChar c
          = s.gapFixed.listen (.payload hdr (got ++ [c]) need) := by
        have hlen : (got ++ [c]).length < need := by simp; omega
        exact if_pos hlen
      rw [hstep, ih _ (by simp; omega) hlast, List.append_assoc, List.singleton_append]

theorem be_two (v : Nat) : be 2 v = [BitVec.ofNat 8 (v / 256), BitVec.ofNat 8 v] := by
  simp [be]

/-- A 16-bit value from its two bytes (R175). -/
theorem append_bytes (x : BitVec 16) : BitVec.ofNat 8 (x.toNat / 256) ++ BitVec.ofNat 8 x.toNat = x := by
  have hx := x.isLt
  refine BitVec.eq_of_toNat_eq ?_
  rw [BitVec.toNat_append, BitVec.toNat_ofNat, BitVec.toNat_ofNat, ← Nat.shiftLeft_add_eq_or_of_lt (Nat.mod_lt _ (by decide)),
    Nat.shiftLeft_eq]
  omega

/-- The header of a block (R174). -/
def blockHeader (b : InBlock) : List Byte :=
  [b.kind, b.tag, b.segment, bit1 b.last] ++ be 2 b.payload.length

theorem blockHeader_length (b : InBlock) : (blockHeader b).length = 6 := by simp [blockHeader]

theorem headerLength_blockHeader {b : InBlock} (h : b.payload.length ≤ 256) :
    headerLength (blockHeader b) = b.payload.length := by
  have hbehind := field_behind [b.kind, b.tag, b.segment, bit1 b.last] (be 2 b.payload.length) (off := 4) 2 (by simp)
  rw [headerLength, blockHeader, hbehind]
  simp only [List.length_cons, List.length_nil, Nat.reduceAdd, Nat.sub_self, field_be]
  omega

theorem blockOf_blockHeader (b : InBlock) : blockOf (blockHeader b) b.payload = b := by
  obtain ⟨kind, tag, segment, last, payload⟩ := b
  cases last <;> simp [blockOf, blockHeader, bit1]

/-- A block up to its CRC leaves the parser at the CRC (R151, R174). -/
theorem State.hears_body {s : State} {b : InBlock} (hhunt : s.slc.inParser = .hunt) (hlen : b.payload.length ≤ 256) :
    s.hears (startChar :: blockHeader b ++ b.payload) = s.gapFixed.listen (.check (blockHeader b) b.payload none) := by
  have hstart : s.gapFixed.goodChar startChar = s.gapFixed.listen (.header []) := by
    have hhunt' : s.gapFixed.slc.inParser = .hunt := hhunt
    rw [State.goodChar, hhunt']
    exact if_pos rfl
  have hheader : (s.gapFixed.listen (.header [])).hears (blockHeader b)
      = (s.gapFixed.listen (.header ((blockHeader b).take 5))).headerDone (blockHeader b) := by
    have hsplit : blockHeader b = (blockHeader b).take 5 ++ (blockHeader b).drop 5 := (List.take_append_drop 5 _).symm
    obtain ⟨c, hc⟩ : ∃ c, (blockHeader b).drop 5 = [c] :=
      List.length_eq_one_iff.1 (by rw [List.length_drop, blockHeader_length])
    have htake : ((blockHeader b).take 5).length = 5 := by rw [List.length_take, blockHeader_length]; rfl
    have hlast := State.goodChar_header_last s.gapFixed ((blockHeader b).take 5) c htake
    rw [← hc, List.take_append_drop] at hlast
    conv_lhs => rw [hsplit, State.hears_append, State.hears_header _ _ _ (by rw [htake]; decide), List.nil_append, hc]
    rw [State.hears_cons, State.hears_nil, State.listen_gapFixed, hlast]
  rw [List.cons_append, State.hears_cons, hstart, State.hears_append, hheader, State.headerDone,
    headerLength_blockHeader hlen,
    if_neg (show ¬ Config.blockBytes < b.payload.length from Nat.not_lt.2 hlen)]
  by_cases hempty : b.payload = []
  · rw [if_pos (List.length_eq_zero_iff.2 hempty), hempty]
    rfl
  · rw [if_neg fun h => hempty (List.length_eq_zero_iff.1 h)]
    exact State.hears_payload s (blockHeader b) [] b.payload _ (by simp) hempty

/-- The CRC characters settle a block (R151). -/
theorem State.hears_crc (s : State) (hdr body : List Byte) (x : BitVec 16) :
    (s.gapFixed.listen (.check hdr body none)).hears (be 2 x.toNat)
      = if crc16 (hdr ++ body) = x then (s.gapFixed.listen .hunt).deliver (blockOf hdr body)
        else s.gapFixed.dropInbound Ctr.inboundCrc := by
  rw [be_two]
  have hcrc : (s.gapFixed.listen (.check hdr body none)).hears
      [BitVec.ofNat 8 (x.toNat / 256), BitVec.ofNat 8 x.toNat]
      = (s.gapFixed.listen (.check hdr body (some (BitVec.ofNat 8 (x.toNat / 256))))).crcDone hdr body
          (BitVec.ofNat 8 (x.toNat / 256)) (BitVec.ofNat 8 x.toNat) := rfl
  rw [hcrc, State.crcDone, append_bytes]
  rfl

theorem blockChars_eq (b : InBlock) (invert : Bool) :
    blockChars b.kind b.tag b.segment b.last b.payload invert = (startChar :: blockHeader b ++ b.payload)
      ++ be 2 (if invert then ~~~ crc16 (blockHeader b ++ b.payload) else crc16 (blockHeader b ++ b.payload)).toNat := rfl

/-- A part that hunts, with the gap fixed, listens for a start character. -/
theorem State.gapFixed_hunts {s : State} (h : s.slc.inParser = .hunt) : s.gapFixed.listen .hunt = s.gapFixed := by
  rw [State.listen, ← show s.gapFixed.slc.inParser = .hunt from h]
  rfl

/-- The characters of a good block deliver it (R152). -/
theorem State.hears_good {s : State} {b : InBlock} (hhunt : s.slc.inParser = .hunt) (hlen : b.payload.length ≤ 256) :
    s.hears (blockChars b.kind b.tag b.segment b.last b.payload false) = s.gapFixed.deliver b := by
  have hcrc := State.hears_crc s (blockHeader b) b.payload (crc16 (blockHeader b ++ b.payload))
  rw [if_pos rfl, blockOf_blockHeader, State.gapFixed_hunts hhunt] at hcrc
  rw [blockChars_eq, State.hears_append, State.hears_body hhunt hlen]
  exact hcrc

/-- With its CRC complemented the block is discarded (R151). -/
theorem State.hears_bad {s : State} {b : InBlock} (hhunt : s.slc.inParser = .hunt) (hlen : b.payload.length ≤ 256) :
    s.hears (blockChars b.kind b.tag b.segment b.last b.payload true) = s.gapFixed.dropInbound Ctr.inboundCrc := by
  have hne : crc16 (blockHeader b ++ b.payload) ≠ ~~~ crc16 (blockHeader b ++ b.payload) := fun h => by
    have hbit := congrArg (fun x : BitVec 16 => x.getLsbD 0) h
    simp at hbit
  have hcrc := State.hears_crc s (blockHeader b) b.payload (~~~ crc16 (blockHeader b ++ b.payload))
  rw [if_neg hne] at hcrc
  rw [blockChars_eq, State.hears_append, State.hears_body hhunt hlen]
  exact hcrc

/-! ### Characters as bits (R149) -/

theorem foldr_bits (bs : List Bool) (a : Nat) : bs.foldr (fun b n => b.toNat + 2 * n) a
    = bs.foldr (fun b n => b.toNat + 2 * n) 0 + 2 ^ bs.length * a := by
  induction bs with
  | nil => simp
  | cons b bs ih =>
    rw [List.foldr_cons, List.foldr_cons, ih, List.length_cons, Nat.pow_succ]
    ring

/-- The low bits of a number, read least significant first. -/
theorem foldr_testBit (x n : Nat) : ((List.range n).map fun k => x.testBit k).foldr (fun b m => b.toNat + 2 * m) 0
    = x % 2 ^ n := by
  induction n with
  | zero => simp [Nat.mod_one]
  | succ n ih =>
    have hsplit : x % 2 ^ (n + 1) = x % 2 ^ n + 2 ^ n * (x / 2 ^ n % 2) := Nat.mod_pow_succ
    rw [List.range_succ, List.map_append, List.foldr_append, foldr_bits, ih, hsplit, List.length_map, List.length_range]
    simp [Nat.toNat_testBit]

theorem byteOfBits_bits (c : Byte) : byteOfBits ((List.range 8).map fun k => c.getLsbD k) = c := by
  refine BitVec.eq_of_toNat_eq ?_
  have hbits : ((List.range 8).map fun k => c.getLsbD k) = (List.range 8).map fun k => c.toNat.testBit k := rfl
  rw [byteOfBits, hbits, foldr_testBit, BitVec.toNat_ofNat]
  have := c.isLt
  omega

theorem charBits_length (c : Byte) : (charBits c).length = 10 := by simp [charBits]

/-- The levels of character `i` of a block (R149). -/
theorem flatMap_charBits_getD {cs : List Byte} {i j : Nat} {c : Byte} (h : cs[i]? = some c) (hj : j < 10) :
    (cs.flatMap charBits).getD (10 * i + j) true = (charBits c).getD j true := by
  induction cs generalizing i with
  | nil => simp at h
  | cons a cs ih =>
    have hlen := charBits_length a
    rw [List.flatMap_cons]
    cases i with
    | zero =>
      obtain rfl : a = c := by simpa using h
      rw [List.getD_append _ _ _ _ (by omega)]
      congr 1
      omega
    | succ i =>
      rw [List.getD_append_right _ _ _ _ (by omega), hlen, show 10 * (i + 1) + j - 10 = 10 * i + j by omega]
      exact ih (by simpa using h)

/-- Settles O42: the parser over the characters of a block, and a character's levels both ways. -/
theorem inboundBlockDelivered : Obligations.InboundBlockDelivered := by
  refine ⟨fun s b hhunt hlen => ⟨?_, ?_⟩, fun c stop => ?_, fun l => ⟨fun i c hc => ?_, fun k hk => ?_⟩⟩
  · have hrun := Runs_hears s (blockChars b.kind b.tag b.segment b.last b.payload false)
    rw [State.hears_good hhunt hlen] at hrun
    exact hrun
  · refine ⟨s.gapFixed.dropInbound Ctr.inboundCrc, ?_, ?_, counted_bump (s.gapFixed.listen .hunt) _,
      ctrsKept_bump (s.gapFixed.listen .hunt) (by decide)⟩
    · have hrun := Runs_hears s (blockChars b.kind b.tag b.segment b.last b.payload true)
      rw [State.hears_bad hhunt hlen] at hrun
      exact hrun
    · have hhunts := congrArg State.slc (State.gapFixed_hunts hhunt)
      exact hhunts
  · have hrest : ((List.range 8).map (fun k => c.getLsbD k) ++ [stop]).length = 9 := by simp
    have htake : ((List.range 8).map (fun k => c.getLsbD k) ++ [stop]).take 8 = (List.range 8).map fun k => c.getLsbD k :=
      List.take_left' (by simp)
    have hstop : ((List.range 8).map (fun k => c.getLsbD k) ++ [stop]).getD 8 false = stop := rfl
    simp only [List.cons_append, heardChar, hrest, if_true, htake, byteOfBits_bits, hstop]
  · refine ⟨?_, fun k hk => ?_, ?_⟩
    · exact flatMap_charBits_getD hc (j := 0) (by decide)
    · have hlevel := flatMap_charBits_getD hc (j := 1 + k) (by omega)
      rw [← Nat.add_assoc] at hlevel
      refine hlevel.trans ?_
      interval_cases k <;> rfl
    · exact flatMap_charBits_getD hc (j := 9) (by decide)
  · have hall := length_flatMap_const l.txBlock charBits 10 (fun c _ => charBits_length c)
    exact List.getD_eq_default _ _ (by rw [Slc.txBits, hall]; omega)

end Sys2Proof.Machine
end

section
/-! PROOFS. The outbound line: the order of sending, the frame given up first, placements (R153, R156), and
the arbitration at a block boundary (R155). -/

namespace Sys2Proof.Machine

/-! ### What is sent first and given up first (R155, R156) -/

theorem Frame.before_iff (a b : Frame) :
    a.before b = true ↔ a.level < b.level ∨ (a.level = b.level ∧ a.kind.code < b.kind.code) := by simp [Frame.before]

theorem firstToSend_spec {fs : List Frame} {f : Frame} (h : firstToSend fs = some f) :
    ∃ older younger, fs = older ++ f :: younger
      ∧ (∀ g ∈ older, f.level < g.level ∨ (f.level = g.level ∧ f.kind.code < g.kind.code))
      ∧ ∀ g ∈ younger, f.level < g.level ∨ (f.level = g.level ∧ f.kind.code ≤ g.kind.code) := by
  induction fs generalizing f with
  | nil => cases h
  | cons a fs ih =>
    rw [firstToSend] at h
    cases hrest : firstToSend fs with
    | none =>
      rw [hrest] at h
      obtain rfl : a = f := Option.some.inj h
      refine ⟨[], fs, rfl, by simp, fun g hg => ?_⟩
      cases fs with
      | nil => simp at hg
      | cons b fs =>
        rw [firstToSend] at hrest
        split at hrest
        · cases hrest
        · split at hrest <;> cases hrest
    | some g =>
      rw [hrest] at h
      obtain ⟨older, younger, rfl, hold, hyoung⟩ := ih hrest
      by_cases hb : g.before a = true
      · obtain rfl : g = f := by simpa [hb] using h
        refine ⟨a :: older, younger, rfl, fun x hx => ?_, hyoung⟩
        rcases List.mem_cons.1 hx with rfl | hx
        · exact (Frame.before_iff g x).1 hb
        · exact hold x hx
      · obtain rfl : a = f := by simpa [hb] using h
        rw [Frame.before_iff] at hb
        refine ⟨[], older ++ g :: younger, rfl, by simp, fun x hx => ?_⟩
        rcases List.mem_append.1 hx with hx | hx
        · have := hold x hx
          omega
        · rcases List.mem_cons.1 hx with rfl | hx
          · omega
          · have := hyoung x hx
            omega

theorem victim_eq_none (lv : Nat) (fs : List Frame) : victim lv fs = none ↔ ∀ g ∈ fs, g.level ≤ lv := by
  induction fs with
  | nil => simp [victim]
  | cons f fs ih =>
    rw [victim, List.forall_mem_cons, ← ih]
    cases hrest : victim lv fs with
    | none => simp
    | some g => simp only [reduceCtorEq, and_false, iff_false]; split <;> simp

theorem victim_spec {lv : Nat} {fs : List Frame} {g : Frame} (h : victim lv fs = some g) :
    lv < g.level ∧ ∃ older younger, fs = older ++ g :: younger
      ∧ (∀ x ∈ older, x.level < g.level ∨ (x.level = g.level ∧ x.kind.code < g.kind.code))
      ∧ ∀ x ∈ younger, x.level < g.level ∨ (x.level = g.level ∧ x.kind.code ≤ g.kind.code) := by
  induction fs generalizing g with
  | nil => cases h
  | cons f fs ih =>
    rw [victim] at h
    cases hrest : victim lv fs with
    | none =>
      rw [hrest] at h
      by_cases hlv : lv < f.level
      · obtain rfl : f = g := by simpa [hlv] using h
        have hlow := (victim_eq_none lv fs).1 hrest
        exact ⟨hlv, [], fs, rfl, by simp, fun x hx => .inl (Nat.lt_of_le_of_lt (hlow x hx) hlv)⟩
      · simp [hlv] at h
    | some k =>
      rw [hrest] at h
      obtain ⟨hk, older, younger, rfl, hold, hyoung⟩ := ih hrest
      by_cases hf : lv < f.level ∧ f.before k = false
      · obtain rfl : f = g := by simpa [hf] using h
        have hbefore := Bool.eq_false_iff.1 hf.2
        rw [Ne, Frame.before_iff] at hbefore
        refine ⟨hf.1, [], older ++ k :: younger, rfl, by simp, fun x hx => ?_⟩
        rcases List.mem_append.1 hx with hx | hx
        · have := hold x hx
          omega
        · rcases List.mem_cons.1 hx with rfl | hx
          · omega
          · have := hyoung x hx
            omega
      · obtain rfl : k = g := by
          have hcond : (decide (lv < f.level) && !f.before k) = false := by
            rw [Bool.and_eq_false_iff, Bool.not_eq_false', decide_eq_false_iff_not]
            by_cases hlv : lv < f.level
            · exact .inr (Bool.not_eq_false _ |>.mp fun hb => hf ⟨hlv, hb⟩)
            · exact .inl hlv
          simpa [hcond] using h
        refine ⟨hk, f :: older, younger, rfl, fun x hx => ?_, hyoung⟩
        rcases List.mem_cons.1 hx with rfl | hx
        · by_cases hlv : lv < x.level
          · refine (Frame.before_iff x k).1 ?_
            by_contra hb
            exact hf ⟨hlv, Bool.eq_false_iff.2 hb⟩
          · omega
        · exact hold x hx

/-! ### Placements (R153, R156) -/

/-- A frame given up for one of level `lv` leaves every frame of that level or a smaller one. -/
theorem filter_erase_victim {lv : Nat} {fs : List Frame} {g : Frame} (h : victim lv fs = some g) :
    (fs.erase g).filter (fun x => x.level ≤ lv) = fs.filter fun x => x.level ≤ lv := by
  obtain ⟨hlv, -⟩ := victim_spec h
  rw [← List.erase_filter, List.erase_of_not_mem]
  simp [hlv]

/-- The stores and the tag after a placement, whatever is given up for it. -/
def Placed.keeps (p : Placed) (l : Link) (f : Frame) : Prop :=
  (p.enqueued = true →
    (p.link.slc.queue.filter fun g => g.level ≤ f.level)
        = (l.slc.queue.filter fun g => g.level ≤ f.level) ++ [{ f with tag := l.slc.tagCounter }]
      ∧ p.link.slc.tagCounter = l.slc.tagCounter + 1
      ∧ p.link.slc.bytesUsed ≤ 16384 ∧ p.link.slc.descUsed ≤ 32)
  ∧ (p.enqueued = false →
    p.link.slc.queue = (l.slc.queue.filter fun g => g.level ≤ f.level)
      ∧ p.link.slc.tagCounter = l.slc.tagCounter ∧ p.lost = true)

theorem Link.enqueue_used (l : Link) (f : Frame) (h : l.slc.fits f.size = true) :
    (l.enqueue f).slc.bytesUsed ≤ 16384 ∧ (l.enqueue f).slc.descUsed ≤ 32 := by
  rw [Slc.fits, Bool.and_eq_true, decide_eq_true_iff, decide_eq_true_iff] at h
  obtain ⟨hbytes, hdesc⟩ := h
  have hb : (l.enqueue f).slc.bytesUsed = l.slc.bytesUsed + f.size := by
    simp [Slc.bytesUsed, Slc.described, Link.enqueue]
    omega
  have hd : (l.enqueue f).slc.descUsed = l.slc.descUsed + 1 := by
    simp [Slc.descUsed, Slc.described, Link.enqueue]
    omega
  rw [hb, hd]
  exact ⟨hbytes, hdesc⟩

theorem Link.enqueue_queue (l : Link) (f : Frame) :
    (l.enqueue f).slc.queue.filter (fun g => g.level ≤ f.level)
      = (l.slc.queue.filter fun g => g.level ≤ f.level) ++ [{ f with tag := l.slc.tagCounter }] := by
  rw [Link.enqueue, List.filter_append]
  simp

/-- What a placement leaves, by induction on its tries: each but the last gives up a frame. -/
theorem Link.placeLoop_keeps (n : Nat) (l : Link) (f : Frame) (b : Bool) (h : l.slc.queue.length < n) :
    (Link.placeLoop n l f b).keeps l f := by
  induction n generalizing l b with
  | zero => omega
  | succ n ih =>
    unfold Link.placeLoop
    split
    · have hused := l.enqueue_used f ‹_›
      exact ⟨fun _ => ⟨l.enqueue_queue f, rfl, hused⟩, nofun⟩
    · split
      · rename_i g hg
        have hlen : (l.discard g).slc.queue.length < n := by
          have hone := List.length_erase_of_mem (victim_mem hg)
          have hpos := List.length_pos_of_mem (victim_mem hg)
          rw [Link.discard, Link.bump_slc, hone]
          omega
        have hkept : (l.discard g).slc.queue.filter (fun x => x.level ≤ f.level)
            = l.slc.queue.filter fun x => x.level ≤ f.level := filter_erase_victim hg
        obtain ⟨hin, hout⟩ := ih (l.discard g) true hlen
        rw [hkept] at hin hout
        exact ⟨hin, hout⟩
      · rename_i hnone
        refine ⟨nofun, fun _ => ⟨?_, rfl, rfl⟩⟩
        have hlow := (victim_eq_none _ _).1 hnone
        exact (List.filter_eq_self.2 fun g hg => decide_eq_true (hlow g hg)).symm

/-- With enough tries their number does not matter. -/
theorem Link.placeLoop_tries {n m : Nat} (l : Link) (f : Frame) (b c : Bool) (hn : l.slc.queue.length < n)
    (hm : l.slc.queue.length < m) : (Link.placeLoop n l f b).link = (Link.placeLoop m l f c).link
      ∧ (Link.placeLoop n l f b).enqueued = (Link.placeLoop m l f c).enqueued := by
  induction n generalizing m l b c with
  | zero => omega
  | succ n ih =>
    obtain ⟨m, rfl⟩ : ∃ k, m = k + 1 := ⟨m - 1, by omega⟩
    unfold Link.placeLoop
    split
    · exact ⟨rfl, rfl⟩
    · split
      · rename_i g hg
        have hone := List.length_erase_of_mem (victim_mem hg)
        have hpos := List.length_pos_of_mem (victim_mem hg)
        have hlen : (l.discard g).slc.queue.length = l.slc.queue.length - 1 := hone
        exact ih (l.discard g) true true (by omega) (by omega)
      · exact ⟨rfl, rfl⟩

/-- A placement that has given up a frame has lost one. -/
theorem Link.placeLoop_lost (n : Nat) (l : Link) (f : Frame) : (Link.placeLoop n l f true).lost = true := by
  induction n generalizing l with
  | zero => rfl
  | succ n ih =>
    unfold Link.placeLoop
    split
    · rfl
    · split
      · exact ih _
      · rfl

theorem Link.place_of_victim {l : Link} {f g : Frame} (hfull : l.slc.fits f.size = false)
    (hg : victim f.level l.slc.queue = some g) :
    l.place f = Link.placeLoop l.slc.queue.length (l.discard g) f true := by
  rw [Link.place, Link.placeLoop, hfull, hg]
  rfl

/-- Settles O46, by induction on the queue for the two choices and on the tries for the placement. -/
theorem sentAndDroppedByPriority : Obligations.SentAndDroppedByPriority := by
  refine ⟨fun _ _ => firstToSend_spec, fun lv fs => ⟨victim_eq_none lv fs, fun _ => victim_spec⟩, fun l f => ?_⟩
  have hkeeps := l.placeLoop_keeps (l.slc.queue.length + 1) f false (Nat.lt_succ_self _)
  refine ⟨hkeeps.1, hkeeps.2, fun hfits => ?_, fun g hfull hg => ?_⟩
  · have hplace : l.place f = ⟨l.enqueue f, true, false⟩ := by rw [Link.place, Link.placeLoop, if_pos hfits]
    rw [hplace]
    exact ⟨rfl, rfl⟩
  · have hone := List.length_erase_of_mem (victim_mem hg)
    have hpos := List.length_pos_of_mem (victim_mem hg)
    have hlen : (l.discard g).slc.queue.length = l.slc.queue.length - 1 := hone
    obtain ⟨hlink, henq⟩ := (l.discard g).placeLoop_tries (n := l.slc.queue.length)
      (m := (l.discard g).slc.queue.length + 1) f true false (by omega) (by omega)
    rw [Link.place_of_victim hfull hg]
    exact ⟨Link.placeLoop_lost _ _ _, hlink, henq, rfl, rfl⟩

/-! ### Blocks (R155) -/

theorem Slc.without_filled (l : Slc) (f g : Frame) : (l.without f).filled g = l.filled g := by
  unfold Slc.without
  split <;> rfl

theorem Slc.without_stack (l : Slc) (f : Frame) : (l.without f).stack = l.stack := by
  unfold Slc.without
  split <;> rfl

/-- A frame that starts takes the line. -/
theorem Link.startPending_line (l : Link) (g : Frame) : (l.startPending g).slc.stack = l.slc.stack
    ∧ (l.startPending g).slc.current = some (l.slc.filled g) ∧ (l.startPending g).slc.phase = .sending :=
  ⟨l.slc.without_stack g, congrArg some (l.slc.without_filled g g), rfl⟩

/-- A later block, or the first of a frame other than a NOTICE, changes the line alone. -/
theorem Link.startBlock_plain {l : Link} {f : Frame} (h : ¬ (f.kind = .notice ∧ f.sent = 0)) :
    (l.startBlock f).slc = { l.slc with current := some f, phase := .sending,
                                        txBlock := f.nextChars l.slc.crcInject, crcInject := false }
      ∧ ctrsWithin [Ctr.crcInjected] l.ctrs (l.startBlock f).ctrs := by
  have hfilled : l.slc.filled f = f := if_neg h
  refine ⟨?_, ?_⟩
  · rw [Link.startBlock, hfilled, if_neg h]
  · rw [Link.startBlock, if_neg h]
    split
    · exact ctrsWithin_add _ _ (by simp)
    · exact ctrsWithin_refl _ _

theorem State.blockCompletes_more {s : State} {f : Frame} (hf : s.slc.current = some f) (h : f.sent + 1 < f.blocks) :
    s.blockCompletes = (s.bump Ctr.blocksSent).withLink
      ((s.bump Ctr.blocksSent).link.arbitrateMore { f with sent := f.sent + 1 }) := by
  rw [State.blockCompletes, hf]
  exact if_pos h

/-- The completion of a frame before the arbitration, with nothing that it sets off (R155). -/
def State.frameDone (s : State) : State :=
  ((s.bump Ctr.blocksSent).withSlc { s.slc with current := none, phase := .boundary, txBlock := [] }).bump Ctr.framesSent

theorem State.blockCompletes_end {s : State} {f : Frame} (hf : s.slc.current = some f) (h : f.blocks ≤ f.sent + 1)
    (hafter : f.after = .nothing) (hin : s.slc.inbound = []) (hpend : s.slc.unmaskedPending = false) :
    s.blockCompletes = s.frameDone.withLink s.frameDone.link.arbitrateEnd := by
  have hattempt : s.frameDone.link.attemptIfPending = s.frameDone.link := if_neg (by
    rw [show s.frameDone.link.slc.unmaskedPending = s.slc.unmaskedPending from rfl, hpend]
    decide)
  have hserve : s.frameDone.serve = s.frameDone := by
    rw [State.serve, show s.frameDone.slc.inbound = s.slc.inbound from rfl, hin]
    rfl
  have hends : (s.bump Ctr.blocksSent).frameEnds { f with sent := f.sent + 1 } = s.frameDone := by
    rw [State.frameEnds, hafter]
    exact (congrArg (fun l => (s.frameDone.withLink l).serve) hattempt).trans hserve
  rw [State.blockCompletes, hf]
  refine (if_neg (Nat.not_lt.2 h)).trans ?_
  rw [hends]

/-- Rows 4 and 5 of R155: the highest pending frame starts, ahead of a SUSPENDED one. -/
theorem Link.arbitrateEnd_pending {l : Link} {g : Frame} (hg : l.slc.highest = some g)
    (h : ∀ top, l.slc.stack.head? = some top → g.level < top.level) : l.arbitrateEnd = l.startPending g := by
  rw [Link.arbitrateEnd]
  cases hstack : l.slc.stack with
  | nil => simp only [hg]
  | cons top below => simp only [hg, if_pos (h top (by rw [hstack]; rfl))]

/-- Row 6 of R155: the top of the stack goes on. -/
theorem Link.arbitrateEnd_resumes {l : Link} {top : Frame} {below : List Frame} (hstack : l.slc.stack = top :: below)
    (h : ∀ g, l.slc.highest = some g → top.level ≤ g.level) :
    l.arbitrateEnd = Link.startBlock { l with slc := { l.slc with stack := below } } top := by
  rw [Link.arbitrateEnd, hstack]
  cases hg : l.slc.highest with
  | none => rfl
  | some g => exact if_neg (Nat.not_lt.2 (h g hg))

theorem Link.arbitrateEnd_ctrs (l : Link) : ctrsWithin blockCtrs l.ctrs l.arbitrateEnd.ctrs := by
  unfold Link.arbitrateEnd
  split
  · split
    · exact Link.startPending_ctrs _ _
    · exact ctrsWithin_refl _ _
  · split
    · split
      · exact Link.startPending_ctrs _ _
      · exact Link.startBlock_ctrs _ _
    · exact Link.startBlock_ctrs _ _

/-- Settles O45, row by row of R155. -/
theorem blockCompleteArbitrates : Obligations.BlockCompleteArbitrates := by
  intro s f hf f1
  have hsent : ¬ (f1.kind = .notice ∧ f1.sent = 0) := fun h => Nat.succ_ne_zero _ h.2
  let l := (s.bump Ctr.blocksSent).link
  have hblock : counted Ctr.blocksSent s (s.bump Ctr.blocksSent) := counted_bump s _
  refine ⟨fun hmore => ⟨fun g hg hlevel hslots _ => ?_, fun hkeep => ?_⟩, fun hend hafter hin hpend => ?_⟩
  · let m := Link.bump { l with slc := { l.slc with stack := f1 :: l.slc.stack } } Ctr.preemptions
    have hrun : l.arbitrateMore f1 = m.startPending g := by
      rw [Link.arbitrateMore, show l.slc.highest = some g from hg]
      exact if_pos ⟨hlevel, hslots⟩
    have hstart : ctrsKept blockCtrs ((s.bump Ctr.blocksSent).withLink m)
        ((s.bump Ctr.blocksSent).withLink (m.startPending g)) := m.startPending_ctrs g
    have hpre : counted Ctr.preemptions (s.bump Ctr.blocksSent) ((s.bump Ctr.blocksSent).withLink m) :=
      counted_bump (s.bump Ctr.blocksSent) _
    have hbump : ctrsKept [Ctr.blocksSent] s (s.bump Ctr.blocksSent) := ctrsKept_bump s (by decide)
    have hbump2 : ctrsKept [Ctr.preemptions] (s.bump Ctr.blocksSent) ((s.bump Ctr.blocksSent).withLink m) :=
      ctrsKept_bump (s.bump Ctr.blocksSent) (by decide)
    obtain ⟨hstack, hcur, hphase⟩ := m.startPending_line g
    refine ⟨_, congrArg Host.Outcome.next ((State.blockCompletes_more hf hmore).trans
      (congrArg (s.bump Ctr.blocksSent).withLink hrun)), hstack, hcur, hphase, ?_, ?_, ?_⟩
    · exact counted_before_kept (counted_after_kept hbump (by decide) hpre) hstart (by decide)
    · exact counted_before_kept (counted_before_kept hblock hbump2 (by decide)) hstart (by decide)
    · exact (hstart _ (by decide)).trans ((hbump2 _ (by decide)).trans (hbump _ (by decide)))
  · have hrun : l.arbitrateMore f1 = l.startBlock f1 := by
      rw [Link.arbitrateMore]
      cases hg : l.slc.highest with
      | none => rfl
      | some g => exact if_neg fun h => (hkeep g hg).elim (Nat.not_le.2 h.1) (Nat.not_le.2 h.2)
    obtain ⟨hslc, hctrs⟩ := Link.startBlock_plain (l := l) hsent
    have hstart : ctrsKept [Ctr.crcInjected] (s.bump Ctr.blocksSent)
        ((s.bump Ctr.blocksSent).withLink (l.startBlock f1)) := hctrs
    refine ⟨_, congrArg Host.Outcome.next ((State.blockCompletes_more hf hmore).trans
      (congrArg (s.bump Ctr.blocksSent).withLink hrun)), counted_before_kept hblock hstart (by decide), hslc, ?_⟩
    exact ctrsKept_trans (ctrsKept_bump s (by decide)) (ctrsKept_mono hstart (by simp))
  · have hframes : counted Ctr.framesSent (s.bump Ctr.blocksSent) s.frameDone := counted_bump (State.withSlc _ _) _
    have hbump : ctrsKept [Ctr.blocksSent] s (s.bump Ctr.blocksSent) := ctrsKept_bump s (by decide)
    have hbump2 : ctrsKept [Ctr.framesSent] (s.bump Ctr.blocksSent) s.frameDone :=
      ctrsKept_bump (State.withSlc _ _) (by decide)
    have harb : ctrsKept blockCtrs s.frameDone (s.frameDone.withLink s.frameDone.link.arbitrateEnd) :=
      s.frameDone.link.arbitrateEnd_ctrs
    refine ⟨_, congrArg Host.Outcome.next (State.blockCompletes_end hf hend hafter hin hpend), ?_, ?_,
      fun g hg habove => ?_, fun top below hstack hkind hbelow => ?_, fun hnone hstack => ?_⟩
    · exact counted_before_kept (counted_before_kept hblock hbump2 (by decide)) harb (by decide)
    · exact counted_before_kept (counted_after_kept hbump (by decide) hframes) harb (by decide)
    · have hrun : s.frameDone.link.arbitrateEnd = s.frameDone.link.startPending g := Link.arbitrateEnd_pending hg habove
      rw [State.withLink_slc, hrun]
      exact s.frameDone.link.startPending_line g
    · have hrun : s.frameDone.link.arbitrateEnd = _ := Link.arbitrateEnd_resumes hstack hbelow
      obtain ⟨hslc, -⟩ := Link.startBlock_plain
        (l := { s.frameDone.link with slc := { s.frameDone.link.slc with stack := below } }) (f := top)
        fun h => hkind h.1
      rw [State.withLink_slc, hrun, hslc]
      exact ⟨rfl, rfl, rfl, rfl⟩
    · have hrun : s.frameDone.link.arbitrateEnd
          = { s.frameDone.link with slc := { s.frameDone.slc with phase := .idle, current := none, txBlock := [] } } := by
        rw [Link.arbitrateEnd, show s.frameDone.link.slc.stack = [] from hstack]
        simp only
        rw [show s.frameDone.link.slc.highest = none from hnone]
        rfl
      rw [State.withLink_slc, hrun]
      rfl

end Sys2Proof.Machine
end

section
/-! PROOFS. Notices: a raise is pending or just sent, and a tracking update makes one NOTICE frame at most
(R125, R128, R157, R158). -/

namespace Sys2Proof.Machine

/-- NOTICE frames QUEUED (R157). -/
def Slc.noticesQueued (l : Slc) : Nat := (l.queue.filter fun f => f.kind = .notice).length

/-- What a placement leaves of the stores: some of the QUEUED frames, and the new one behind them. -/
theorem Link.placeLoop_queue (n : Nat) (l : Link) (f : Frame) (b : Bool) :
    ∃ q, q.Sublist l.slc.queue
      ∧ (Link.placeLoop n l f b).link.slc.noticeSet = l.slc.noticeSet
      ∧ ((Link.placeLoop n l f b).link.slc.queue = q
        ∨ (Link.placeLoop n l f b).link.slc.queue = q ++ [{ f with tag := l.slc.tagCounter }]) := by
  induction n generalizing l b with
  | zero => exact ⟨_, .refl _, rfl, .inl rfl⟩
  | succ n ih =>
    unfold Link.placeLoop
    split
    · exact ⟨_, .refl _, rfl, .inr rfl⟩
    · split
      · rename_i g _
        obtain ⟨q, hq, hset, hqueue⟩ := ih (l.discard g) true
        exact ⟨q, hq.trans List.erase_sublist, hset, hqueue⟩
      · exact ⟨_, .refl _, rfl, .inl rfl⟩

/-- The counters that a placement can increase (R156). -/
def dropCtrs : List Ctr := [Ctr.droppedNotice, Ctr.droppedLayer, Ctr.droppedInterval, Ctr.droppedProfile]

theorem Link.placeLoop_drops (n : Nat) (l : Link) (f : Frame) (b : Bool) :
    ctrsWithin dropCtrs l.ctrs (Link.placeLoop n l f b).link.ctrs := by
  have hdrop : ∀ (m : Link) (k : FrameKind), ctrsWithin dropCtrs m.ctrs (m.bump k.dropCtr).ctrs := fun m k =>
    ctrsWithin_add m.ctrs 1 (by cases k <;> decide)
  induction n generalizing l b with
  | zero => exact hdrop l _
  | succ n ih =>
    unfold Link.placeLoop
    split
    · exact ctrsWithin_refl _ _
    · split
      · rename_i g _
        have hdiscard : ctrsWithin dropCtrs l.ctrs (l.discard g).ctrs := hdrop l _
        exact ctrsWithin_trans hdiscard (ih (l.discard g) true)
      · exact hdrop l _

/-! ### Pending or sent -/

/-- The flag of bit `i` is set, or it went out in a NOTICE frame that has just started, stamped `time`. -/
def Link.toldAt (l : Link) (i : Nat) (time : Stamp) : Prop :=
  l.slc.noticeSet.getLsbD i = true
    ∨ ∃ (f : Frame) (set : BitVec 16), l.slc.current = some f ∧ f.kind = .notice ∧ set.getLsbD i = true
      ∧ f.payload = be 4 time.sec ++ be 4 time.usec ++ [bit1 time.valid] ++ be 2 set.toNat

theorem Slc.without_notices (l : Slc) (f : Frame) :
    (l.without f).noticeSet = l.noticeSet ∧ (l.without f).time = l.time ∧ (l.without f).queue.Sublist l.queue := by
  unfold Slc.without
  split
  · exact ⟨rfl, rfl, .refl _⟩
  · exact ⟨rfl, rfl, List.erase_sublist⟩

/-- A block that starts takes the pending set with it, or leaves it (R157). -/
theorem Link.startBlock_told (l : Link) (f : Frame) {i : Nat} (h : l.slc.noticeSet.getLsbD i = true) :
    (l.startBlock f).toldAt i l.slc.time := by
  by_cases hnotice : f.kind = .notice ∧ f.sent = 0
  · have hfilled : l.slc.filled f = { f with payload := l.slc.noticePayload } := if_pos hnotice
    exact .inr ⟨{ f with payload := l.slc.noticePayload }, l.slc.noticeSet, congrArg some hfilled, hnotice.1, h, rfl⟩
  · refine .inl ?_
    rw [(Link.startBlock_plain hnotice).1]
    exact h

theorem Link.kick_told (l : Link) {i : Nat} (h : l.slc.noticeSet.getLsbD i = true) :
    l.kick.toldAt i l.slc.time := by
  unfold Link.kick
  split
  · split
    · rename_i f _
      obtain ⟨hset, htime, -⟩ := l.slc.without_notices f
      rw [← htime]
      refine Link.startBlock_told { l with slc := l.slc.without f } f ?_
      rw [← h]
      exact congrArg (BitVec.getLsbD · i) hset
    · exact .inl h
  · exact .inl h

theorem NoticeKind.flag_get (k : NoticeKind) : k.flag.getLsbD k.bit = true := by cases k <;> rfl

/-- Setting a flag keeps the flags that were set. -/
theorem Link.setFlag_get {l : Link} {i : Nat} (k : NoticeKind) (h : l.slc.noticeSet.getLsbD i = true) :
    (l.setFlag k).slc.noticeSet.getLsbD i = true := by
  rw [Link.setFlag, BitVec.getLsbD_or, h, Bool.true_or]

theorem Link.setFlag_self (l : Link) (k : NoticeKind) : (l.setFlag k).slc.noticeSet.getLsbD k.bit = true := by
  rw [Link.setFlag, BitVec.getLsbD_or, k.flag_get, Bool.or_true]

theorem Link.noticeAttempt_told (l : Link) {i : Nat} (h : l.slc.noticeSet.getLsbD i = true) :
    l.noticeAttempt.toldAt i l.slc.time := by
  unfold Link.noticeAttempt
  split
  · exact .inl h
  · obtain ⟨-, -, hset, -⟩ := Link.placeLoop_queue (l.slc.queue.length + 1) l l.slc.noticeFrame false
    obtain ⟨⟨-, -, -, -, -, -, -, htime, -⟩, -⟩ :=
      Link.placeLoop_settings (l.slc.queue.length + 1) l l.slc.noticeFrame false
    have hplaced : (l.place l.slc.noticeFrame).link.slc.noticeSet.getLsbD i = true := by
      rw [← h]
      exact congrArg (BitVec.getLsbD · i) hset
    rw [← show (l.place l.slc.noticeFrame).link.slc.time = l.slc.time from htime]
    dsimp only
    split
    · exact Link.kick_told _ (Link.setFlag_get _ hplaced)
    · exact Link.kick_told _ hplaced

theorem Link.raise_told (l : Link) (k : NoticeKind) : (l.raise k).toldAt k.bit l.slc.time := by
  unfold Link.raise
  split
  · exact .inl (l.setFlag_self k)
  · exact (l.setFlag k).noticeAttempt_told (l.setFlag_self k)

/-! ### A line on which nothing starts -/

/-- `m` follows from `l` with nothing started: the line is as busy or held as it was, no flag is lost, no
NOTICE frame is counted, and no more than one is QUEUED. -/
structure Link.Stays (l m : Link) : Prop where
  phase : m.slc.phase = l.slc.phase
  flags : ∀ i, l.slc.noticeSet.getLsbD i = true → m.slc.noticeSet.getLsbD i = true
  frames : m.ctrs[Ctr.noticeFrames] = l.ctrs[Ctr.noticeFrames]
  queued : l.slc.noticesQueued ≤ 1 → m.slc.noticesQueued ≤ 1

theorem Link.Stays.refl (l : Link) : l.Stays l := ⟨rfl, fun _ h => h, rfl, fun h => h⟩

theorem Link.Stays.trans {l m n : Link} (h : l.Stays m) (k : m.Stays n) : l.Stays n :=
  ⟨k.phase.trans h.phase, fun i hi => k.flags i (h.flags i hi), k.frames.trans h.frames, fun hq => k.queued (h.queued hq)⟩

theorem Link.stays_bumpBy (l : Link) {c : Ctr} (n : Nat) (hc : c ≠ Ctr.noticeFrames) :
    l.Stays { l with ctrs := Counters.add l.ctrs c n } :=
  ⟨rfl, fun _ h => h, Counters.add_get_ne _ _ hc.symm, fun h => h⟩

theorem Link.stays_setFlag (l : Link) (k : NoticeKind) : l.Stays (l.setFlag k) :=
  ⟨rfl, fun _ => Link.setFlag_get k, Counters.add_get_ne _ _ (by decide), fun h => h⟩

/-- A frame placed where it is not a NOTICE, or where none is QUEUED. -/
theorem Link.stays_place (l : Link) (f : Frame) (hf : f.kind ≠ .notice ∨ l.slc.noticesQueued = 0) :
    l.Stays (l.place f).link := by
  obtain ⟨q, hq, hset, hqueue⟩ := Link.placeLoop_queue (l.slc.queue.length + 1) l f false
  refine ⟨(Link.placeLoop_line _ _ _ _).1, fun i hi => ?_, Link.placeLoop_drops _ _ _ _ _ (by decide), fun hone => ?_⟩
  · rw [← hi]
    exact congrArg (BitVec.getLsbD · i) hset
  · have hsub : (q.filter fun g => g.kind = .notice).length ≤ l.slc.noticesQueued := (hq.filter _).length_le
    have hnew : ([{ f with tag := l.slc.tagCounter }].filter fun g => g.kind = .notice).length ≤ 1 :=
      List.length_filter_le _ _
    have hwhich : (Link.placeLoop (l.slc.queue.length + 1) l f false).link.slc.noticesQueued ≤ 1 := by
      rcases hqueue with hqueue | hqueue
      · rw [Slc.noticesQueued, hqueue]
        omega
      · rw [Slc.noticesQueued, hqueue, List.filter_append, List.length_append]
        rcases hf with hf | hf
        · have hnone : ([{ f with tag := l.slc.tagCounter }].filter fun g => g.kind = .notice).length = 0 := by
            simp [hf]
          omega
        · omega
    exact hwhich

theorem Link.stays_noticeAttempt {l : Link} (h : l.slc.phase ≠ .idle) : l.Stays l.noticeAttempt := by
  unfold Link.noticeAttempt
  split
  · exact .refl l
  · rename_i hnone
    have hzero : l.slc.noticesQueued = 0 := by
      rw [Slc.noticesQueued, List.length_eq_zero_iff, List.filter_eq_nil_iff]
      intro f hf hk
      exact hnone (List.any_eq_true.2 ⟨f, hf, hk⟩)
    have hplace := l.stays_place l.slc.noticeFrame (.inr hzero)
    dsimp only
    split
    · have hflag := hplace.trans ((l.place l.slc.noticeFrame).link.stays_setFlag .reportDrop)
      rw [Link.kick_of_not_idle _ (hflag.phase ▸ h)]
      exact hflag
    · rw [Link.kick_of_not_idle _ (hplace.phase ▸ h)]
      exact hplace

theorem Link.stays_raise {l : Link} (h : l.slc.phase ≠ .idle) (k : NoticeKind) : l.Stays (l.raise k) := by
  unfold Link.raise
  split
  · exact l.stays_setFlag k
  · exact (l.stays_setFlag k).trans (Link.stays_noticeAttempt h)

theorem Link.stays_offer {l : Link} (h : l.slc.phase ≠ .idle) {k : FrameKind} (p : List Byte) (hk : k ≠ .notice) :
    l.Stays (l.offer k p).1 := by
  have hplace := l.stays_place ⟨k, l.slc.levels.of k, 0, p.length, p, 0, .nothing⟩ (.inl hk)
  have hbusy := hplace.phase ▸ h
  unfold Link.offer
  dsimp only
  rw [Link.kick_of_not_idle _ hbusy]
  split
  · exact hplace.trans (Link.stays_raise hbusy _)
  · exact hplace

/-- The line of a part on which nothing has started since `l`. -/
def State.LineStays (l : Link) (t : State) : Prop := l.Stays t.link

namespace State.LineStays

variable {l : Link} {t : State}

theorem bumpBy (h : State.LineStays l t) {c : Ctr} (n : Nat) (hc : c ≠ Ctr.noticeFrames) :
    State.LineStays l (t.bumpBy c n) := h.trans (t.link.stays_bumpBy n hc)

theorem bump (h : State.LineStays l t) {c : Ctr} (hc : c ≠ Ctr.noticeFrames) : State.LineStays l (t.bump c) :=
  h.bumpBy 1 hc

theorem bumpIf (h : State.LineStays l t) {c : Ctr} (q : Bool) (hc : c ≠ Ctr.noticeFrames) :
    State.LineStays l (t.bumpIf q c) := by
  unfold State.bumpIf
  split
  · exact h.bump hc
  · exact h

theorem withSku (h : State.LineStays l t) (k : Sku) : State.LineStays l (t.withSku k) := h

theorem raise (hl : l.slc.phase ≠ .idle) (h : State.LineStays l t) (k : NoticeKind) :
    State.LineStays l (t.raise k) := h.trans (Link.stays_raise (h.phase ▸ hl) k)

theorem raiseTimes (hl : l.slc.phase ≠ .idle) (h : State.LineStays l t) (k : NoticeKind) (n : Nat) :
    State.LineStays l (t.raiseTimes k n) := by
  induction n generalizing t with
  | zero => exact h
  | succ n ih => exact ih (h.raise hl k)

theorem raiseTracking (hl : l.slc.phase ≠ .idle) (h : State.LineStays l t) (u : Tracking) :
    State.LineStays l (t.raiseTracking u) :=
  (((h.raiseTimes hl _ _).raiseTimes hl _ _).raiseTimes hl _ _).raiseTimes hl _ _

theorem countTracking (h : State.LineStays l t) (u : Tracking) : State.LineStays l (t.countTracking u) := by
  unfold State.countTracking
  exact ((((((((((h.bump (by decide)).bumpBy _ (by decide)).bumpBy _ (by decide)).bumpBy _ (by decide)).bumpBy _
    (by decide)).bumpBy _ (by decide)).bumpBy _ (by decide)).bumpBy _ (by decide)).bumpBy _ (by decide)).bumpBy _
    (by decide)).bumpBy _ (by decide)

theorem offer (hl : l.slc.phase ≠ .idle) (h : State.LineStays l t) {k : FrameKind} (p : List Byte) (hk : k ≠ .notice) :
    State.LineStays l (t.offer k p).1 := h.trans (Link.stays_offer (h.phase ▸ hl) p hk)

theorem skyStep (hl : l.slc.phase ≠ .idle) (h : State.LineStays l t) (m : Summary) :
    State.LineStays l (t.skyStep m) := by
  unfold State.skyStep
  dsimp only
  split
  · exact (((h.withSku _).bumpIf _ (by decide)).bump (by decide)).raise hl _
  · exact (h.withSku _).bumpIf _ (by decide)

theorem ceilingStep (hl : l.slc.phase ≠ .idle) (h : State.LineStays l t) : State.LineStays l t.ceilingStep := by
  unfold State.ceilingStep
  dsimp only
  split
  · exact ((h.withSku _).bump (by decide)).raise hl _
  · split
    · exact ((h.withSku _).bump (by decide)).raise hl _
    · exact h.withSku _

theorem reportStep (hl : l.slc.phase ≠ .idle) (h : State.LineStays l t) (m : Summary) :
    State.LineStays l (t.reportStep m) := by
  unfold State.reportStep
  split
  · exact ((h.withSku _).bump (by decide)).offer hl _ (by decide)
  · exact h.withSku _

theorem evaluate (hl : l.slc.phase ≠ .idle) (h : State.LineStays l t) (m : Summary) :
    State.LineStays l (t.evaluate m) := by
  unfold State.evaluate State.triggerStep
  exact ((((((h.bump (by decide)).skyStep hl m).ceilingStep hl).withSku _).bumpBy _ (by decide))).reportStep hl m

end State.LineStays

/-! ### One NOTICE frame for a tracking update -/

/-- Kinds raised at least once are pending on a line on which nothing starts. -/
theorem State.raiseTimes_pending {t : State} (ht : t.slc.phase ≠ .idle) (k : NoticeKind) {n : Nat} (hn : 1 ≤ n) :
    (t.raiseTimes k n).slc.noticeSet.getLsbD k.bit = true := by
  obtain ⟨n, rfl⟩ : ∃ m, n = m + 1 := ⟨n - 1, by omega⟩
  have hraise := Link.stays_raise (l := t.link) ht k
  have hset : (t.raise k).slc.noticeSet.getLsbD k.bit = true := by
    unfold State.raise Link.raise
    split
    · exact t.link.setFlag_self k
    · exact (Link.stays_noticeAttempt (l := t.link.setFlag k) ht).flags _ (t.link.setFlag_self k)
  have hrest : State.LineStays (t.raise k).link ((t.raise k).raiseTimes k n) :=
    State.LineStays.raiseTimes (l := (t.raise k).link) (hraise.phase ▸ ht) (.refl _) k n
  exact hrest.flags _ hset

theorem State.raiseTracking_pending {s : State} (hs : s.slc.phase ≠ .idle) (u : Tracking) :
    (1 ≤ u.confirmed + u.createdConfirmed →
        (s.raiseTracking u).slc.noticeSet.getLsbD NoticeKind.layerNew.bit = true)
      ∧ (1 ≤ u.lost → (s.raiseTracking u).slc.noticeSet.getLsbD NoticeKind.layerLost.bit = true)
      ∧ (1 ≤ u.discarded → (s.raiseTracking u).slc.noticeSet.getLsbD NoticeKind.trackTableFull.bit = true) := by
  let s1 := s.raiseTimes .layerNew u.confirmed
  let s2 := s1.raiseTimes .layerLost u.lost
  let s3 := s2.raiseTimes .layerNew u.createdConfirmed
  have h01 : State.LineStays s.link s1 := State.LineStays.raiseTimes (l := s.link) hs (.refl _) _ _
  have hs1 : s1.slc.phase ≠ .idle := h01.phase ▸ hs
  have h12 : State.LineStays s1.link s2 := State.LineStays.raiseTimes (l := s1.link) hs1 (.refl _) _ _
  have hs2 : s2.slc.phase ≠ .idle := h12.phase ▸ hs1
  have h23 : State.LineStays s2.link s3 := State.LineStays.raiseTimes (l := s2.link) hs2 (.refl _) _ _
  have hs3 : s3.slc.phase ≠ .idle := h23.phase ▸ hs2
  have h34 : State.LineStays s3.link (s.raiseTracking u) :=
    State.LineStays.raiseTimes (l := s3.link) hs3 (.refl _) .trackTableFull u.discarded
  refine ⟨fun hnew => ?_, fun hlost => ?_, fun hfull => ?_⟩
  · by_cases hconfirmed : 1 ≤ u.confirmed
    · exact h34.flags _ (h23.flags _ (h12.flags _ (State.raiseTimes_pending hs _ hconfirmed)))
    · exact h34.flags _ (State.raiseTimes_pending hs2 _ (by omega))
  · exact h34.flags _ (h23.flags _ (State.raiseTimes_pending hs1 _ hlost))
  · exact State.raiseTimes_pending hs3 _ hfull

/-- Letting an idle line go starts at most one NOTICE frame. -/
theorem Link.kick_notices (l : Link) : l.kick.slc.noticesQueued ≤ l.slc.noticesQueued
    ∧ l.kick.ctrs[Ctr.noticeFrames] ≤ l.ctrs[Ctr.noticeFrames] + 1 := by
  unfold Link.kick
  split
  · split
    · rename_i f _
      have hqueue := ((l.slc.without_notices f).2.2.filter fun g => g.kind = .notice).length_le
      have hadd : ∀ v : Counters, (Counters.add v Ctr.noticeFrames 1)[Ctr.noticeFrames] ≤ v[Ctr.noticeFrames] + 1 :=
        fun v => (Counters.add_get_self v _ 1).le.trans (Nat.min_le_left _ _)
      have hcrc : ∀ v : Counters, (Counters.add v Ctr.crcInjected 1)[Ctr.noticeFrames] = v[Ctr.noticeFrames] :=
        fun v => Counters.add_get_ne v 1 (by decide)
      refine ⟨hqueue, ?_⟩
      unfold Link.startPending Link.startBlock
      dsimp only
      split <;> split
      · exact (hcrc _).le.trans (hadd _)
      · exact (hcrc _).le.trans (Nat.le_succ _)
      · exact hadd _
      · exact Nat.le_succ _
    · exact ⟨le_refl _, Nat.le_succ _⟩
  · exact ⟨le_refl _, Nat.le_succ _⟩

/-- A tracking update and its evaluation on the held line. -/
theorem State.track_held (s : State) (d : Detection) :
    ∃ m : Link, s.link.hold.Stays m ∧ (s.track d).link = m.release s.slc.phase := by
  have hbusy := s.link.hold_spec.2.1
  have hstart : State.LineStays s.link.hold ((s.withLink s.link.hold).withLtu (s.ltu.update d).ltu) := .refl _
  exact ⟨_, ((hstart.countTracking _).raiseTracking hbusy _).evaluate hbusy ((s.ltu.update d).summary d), rfl⟩

/-- Settles O47: raises keep their flag or send it, and on a held line nothing starts. -/
theorem raisedNoticeIsPendingOrSent : Obligations.RaisedNoticeIsPendingOrSent := by
  refine ⟨fun l k => l.raise_told k, fun s u => State.raiseTracking_pending (s := s.withLink s.link.hold)
    s.link.hold_spec.2.1 u, fun s d hone hphase => ?_⟩
  obtain ⟨m, hm, hlink⟩ := s.track_held d
  rw [← State.link_slc (s.track d), ← State.link_ctrs (s.track d), hlink]
  have hholdCtrs : s.link.hold.ctrs = s.ctrs := s.link.hold_spec.1
  have hframes := hm.frames
  rw [hholdCtrs] at hframes
  by_cases hidle : s.slc.phase = .idle
  · have hhold : s.link.hold = { s.link with slc := { s.slc with phase := .boundary } } := if_pos hidle
    have hqueued : m.slc.noticesQueued ≤ 1 := hm.queued (by rw [hhold]; exact hone)
    have hrelease : m.release s.slc.phase = Link.kick { m with slc := { m.slc with phase := .idle } } := if_pos hidle
    obtain ⟨hqueue, hstarted⟩ := Link.kick_notices { m with slc := { m.slc with phase := .idle } }
    rw [hrelease]
    refine ⟨hqueue.trans hqueued, ?_, fun h => absurd hidle h⟩
    rw [← hframes]
    exact hstarted
  · have hhold : s.link.hold = s.link := if_neg hidle
    have hrelease : m.release s.slc.phase = m := if_neg hidle
    rw [hrelease]
    exact ⟨hm.queued (by rw [hhold]; exact hone), hframes.le.trans (Nat.le_succ _), fun _ => hframes⟩

end Sys2Proof.Machine
end

section
/-! PROOFS. The Sky Condition Unit (chapter 7): the sky state and its notices, the ceiling, the capture triggers
and the layer report. -/

namespace Sys2Proof.Machine

/-! ### The sky state (R137) -/

theorem Sku.decide_of_obscured (k : Sku) (ts : List Track) {m : Summary} (h : m.obscured = true) :
    k.decide ts m = { k with sky := .obscured, lastVv := m.vv, hold := 0 } := if_pos h

/-- A held obscuration (R137): programs that do not reach down to the last VV say nothing of it. -/
theorem Sku.decide_of_unreached {k : Sku} (ts : List Track) {m : Summary} (hm : m.obscured = false)
    (hk : k.sky = .obscured) (h : k.reaches m = false) : k.decide ts m = k := by
  rw [Sku.decide, hm, if_neg Bool.false_ne_true, if_pos hk, h, if_neg Bool.false_ne_true]

theorem Sku.decide_of_held {k : Sku} (ts : List Track) {m : Summary} (hm : m.obscured = false)
    (hk : k.sky = .obscured) (h : k.reaches m = true) (hhold : k.hold < 2) :
    k.decide ts m = { k with hold := k.hold + 1 } := by
  rw [Sku.decide, hm, if_neg Bool.false_ne_true, if_pos hk, if_pos h, if_neg (Nat.not_le.2 hhold)]

theorem Sku.decide_of_ended {k : Sku} (ts : List Track) {m : Summary} (hm : m.obscured = false)
    (hk : k.sky = .obscured) (h : k.reaches m = true) (hhold : 2 ≤ k.hold) :
    k.decide ts m = { k with sky := skyOfTable ts, lastVv := none, hold := 0 } := by
  rw [Sku.decide, hm, if_neg Bool.false_ne_true, if_pos hk, if_pos h, if_pos hhold]

theorem reaches_iff_of_lastVv {k : Sku} {v : Nat} (h : k.lastVv = some v) (m : Summary) :
    k.reaches m = true ↔ m.detStart ≤ v := by
  rw [Sku.reaches.eq_def, h]
  exact decide_eq_true_iff

theorem mem_solidTracks {ts : List Track} {t : Track} : t ∈ solidTracks ts ↔ t ∈ ts ∧ t.state ≠ .tentative := by
  simp [solidTracks]

theorem skyOfTable_clear (ts : List Track) : skyOfTable ts = .clear ↔ ∀ t ∈ ts, t.state = .tentative := by
  have hempty : (solidTracks ts).isEmpty = true ↔ ∀ t ∈ ts, t.state = .tentative := by
    simp [List.isEmpty_iff, solidTracks, List.filter_eq_nil_iff]
  rw [← hempty]
  unfold skyOfTable
  split <;> simp_all

theorem skyOfTable_layered (ts : List Track) : skyOfTable ts = .layered ↔ ∃ t ∈ ts, t.state ≠ .tentative := by
  have hclear := skyOfTable_clear ts
  have hother : skyOfTable ts = .layered ↔ ¬ skyOfTable ts = .clear := by
    unfold skyOfTable
    split <;> simp
  rw [hother, hclear]
  simp

theorem obscuration_held (k : Sku) (v : Nat) (m0 m1 m2 m3 : Summary) (ts : List Track) (h0 : m0.obscured = true)
    (hv : m0.vv = some v) (h1 : m1.obscured = false) (h2 : m2.obscured = false) (h3 : m3.obscured = false)
    (hr1 : m1.detStart ≤ v) (hr2 : m2.detStart ≤ v) :
    let k0 := k.decide ts m0
    let k2 := (k0.decide ts m1).decide ts m2
    k0.sky = .obscured ∧ k0.lastVv = some v ∧ (k0.decide ts m1).sky = .obscured ∧ k2.sky = .obscured
      ∧ (v < m3.detStart → k2.decide ts m3 = k2)
      ∧ (m3.detStart ≤ v → (k2.decide ts m3).lastVv = none
          ∧ ((k2.decide ts m3).sky = .layered ↔ ∃ t ∈ ts, t.state ≠ .tentative)
          ∧ ((k2.decide ts m3).sky = .clear ↔ ∀ t ∈ ts, t.state = .tentative)) := by
  have hk0 : k.decide ts m0 = { k with sky := .obscured, lastVv := some v, hold := 0 } := by
    rw [k.decide_of_obscured ts h0, hv]
  let k1 : Sku := { k with sky := .obscured, lastVv := some v, hold := 1 }
  let k2 : Sku := { k with sky := .obscured, lastVv := some v, hold := 2 }
  have hk1 : (k.decide ts m0).decide ts m1 = k1 := by
    rw [hk0]
    exact Sku.decide_of_held ts h1 rfl ((reaches_iff_of_lastVv rfl m1).2 hr1) Nat.zero_lt_two
  have hk2 : ((k.decide ts m0).decide ts m1).decide ts m2 = k2 := by
    rw [hk1]
    exact Sku.decide_of_held ts h2 rfl ((reaches_iff_of_lastVv rfl m2).2 hr2) Nat.one_lt_two
  intro k0 k2'
  refine ⟨congrArg Sku.sky hk0, congrArg Sku.lastVv hk0, congrArg Sku.sky hk1, congrArg Sku.sky hk2, fun hfar => ?_,
    fun hnear => ?_⟩
  · rw [show k2' = k2 from hk2]
    exact Sku.decide_of_unreached ts h3 rfl 
      (Bool.eq_false_iff.2 fun h => Nat.not_le.2 hfar ((reaches_iff_of_lastVv rfl m3).1 h))
  · have hk3 : k2.decide ts m3 = { k2 with sky := skyOfTable ts, lastVv := none, hold := 0 } :=
      Sku.decide_of_ended ts h3 rfl ((reaches_iff_of_lastVv rfl m3).2 hnear) (le_refl 2)
    rw [show k2' = k2 from hk2, hk3]
    exact ⟨rfl, skyOfTable_layered ts, skyOfTable_clear ts⟩

/-! ### SKY_CHANGE and its re-arming (R138) -/

theorem skyRaises_iff (before after : Sky) (rearm : Bool) : skyRaises before after rearm = true
    ↔ after ≠ before ∧ before ≠ .unknown ∧ (after = .clear → rearm = true) := by
  simp only [skyRaises, Bool.and_eq_true, Bool.or_eq_true, decide_eq_true_iff, and_assoc, ne_comm (a := before) (b := after)]
  refine and_congr_right fun _ => and_congr_right fun _ => ?_
  by_cases h : after = .clear <;> simp [h]

theorem skySuppressed_iff (before after : Sky) (rearm : Bool) : skySuppressed before after rearm = true
    ↔ after ≠ before ∧ after = .clear ∧ rearm = false := by
  simp only [skySuppressed, Bool.and_eq_true, decide_eq_true_iff, Bool.not_eq_true', and_assoc,
    ne_comm (a := before) (b := after)]

/-- The part after step 1, short of the raise. -/
def State.skyDecided (s : State) (m : Summary) : State :=
  let after := s.sku.decide s.ltu.tracks m
  (s.withSku { after with clearRearm := rearmAfter s.sku.sky after.sky s.sku.clearRearm }).bumpIf
    (skySuppressed s.sku.sky after.sky s.sku.clearRearm) Ctr.clearSuppressed

theorem State.skyStep_raised {s : State} {m : Summary}
    (h : skyRaises s.sku.sky (s.sku.decide s.ltu.tracks m).sky s.sku.clearRearm = true) :
    s.skyStep m = ((s.skyDecided m).bump Ctr.skyChangeRaises).raise .skyChange := if_pos h

theorem State.skyStep_silent {s : State} {m : Summary}
    (h : ¬ skyRaises s.sku.sky (s.sku.decide s.ltu.tracks m).sky s.sku.clearRearm = true) :
    s.skyStep m = s.skyDecided m := if_neg h

theorem State.bumpIf_spec (s : State) (q : Bool) (c : Ctr) : (s.bumpIf q c).sku = s.sku ∧ (s.bumpIf q c).slc = s.slc
    ∧ s.bumpIf q c = { s with ctrs := (s.bumpIf q c).ctrs } := by
  unfold State.bumpIf
  split <;> exact ⟨rfl, rfl, rfl⟩

theorem State.skyDecided_spec (s : State) (m : Summary) :
    (s.skyDecided m).slc = s.slc
      ∧ (s.skyDecided m).sku = { s.sku.decide s.ltu.tracks m with
          clearRearm := rearmAfter s.sku.sky (s.sku.decide s.ltu.tracks m).sky s.sku.clearRearm }
      ∧ (∃ (k : Sku) (v : Counters), s.skyDecided m = { s with sku := k, ctrs := v })
      ∧ ctrsKept [Ctr.clearSuppressed] s (s.skyDecided m) := by
  have hkept : ctrsKept [Ctr.clearSuppressed] s (s.skyDecided m) := ctrsKept_bumpIf (s.withSku _) _ (by simp)
  have hspec := fun t : State => t.bumpIf_spec (skySuppressed s.sku.sky (s.sku.decide s.ltu.tracks m).sky
    s.sku.clearRearm) Ctr.clearSuppressed
  refine ⟨(hspec _).2.1, (hspec _).1, ?_, hkept⟩
  exact ⟨_, _, (hspec (s.withSku _)).2.2⟩

theorem State.skyDecided_suppressed {s : State} {m : Summary} :
    (skySuppressed s.sku.sky (s.sku.decide s.ltu.tracks m).sky s.sku.clearRearm = true →
        counted Ctr.clearSuppressed s (s.skyDecided m))
      ∧ (¬ skySuppressed s.sku.sky (s.sku.decide s.ltu.tracks m).sky s.sku.clearRearm = true →
        (s.skyDecided m).ctrs = s.ctrs) := by
  unfold State.skyDecided State.bumpIf
  dsimp only
  refine ⟨fun h => ?_, fun h => ?_⟩
  · rw [if_pos h]
    exact counted_bump (s.withSku _) _
  · rw [if_neg h]
    rfl

theorem State.raise_rest {s d : State} {k : Sku} {v : Counters} (h : d = { s with sku := k, ctrs := v }) (c : Ctr)
    (n : NoticeKind) : (d.bump c).raise n = { s with sku := ((d.bump c).raise n).sku,
                                                     slc := ((d.bump c).raise n).slc,
                                                     ctrs := ((d.bump c).raise n).ctrs } := by
  subst h
  rfl

/-- What step 1 leaves: the decided sky, and SKY_CHANGE where it is raised (R136 to R138). -/
theorem State.skyStep_spec (s : State) (m : Summary) :
    (s.skyStep m).sku = (s.skyDecided m).sku
      ∧ (s.skyStep m).slc.sameSettings s.slc
      ∧ s.skyStep m = { s with sku := (s.skyStep m).sku, slc := (s.skyStep m).slc, ctrs := (s.skyStep m).ctrs }
      ∧ (s.skyStep m).ctrs[Ctr.clearSuppressed] = (s.skyDecided m).ctrs[Ctr.clearSuppressed] := by
  obtain ⟨hslc, -, ⟨k, v, hrest⟩, -⟩ := s.skyDecided_spec m
  by_cases h : skyRaises s.sku.sky (s.sku.decide s.ltu.tracks m).sky s.sku.clearRearm = true
  · rw [State.skyStep_raised h]
    let u := (s.skyDecided m).bump Ctr.skyChangeRaises
    have hset := (u.link.raise_settings .skyChange).1
    have hwithin : ctrsKept raiseCtrs u (u.raise .skyChange) := Link.raise_ctrs u.link .skyChange
    have hbump : ctrsKept [Ctr.skyChangeRaises] (s.skyDecided m) u := ctrsKept_bump _ (by decide)
    refine ⟨rfl, ?_, ?_, (hwithin _ (by decide)).trans (hbump _ (by decide))⟩
    · rw [← hslc]
      exact hset
    · exact State.raise_rest hrest _ _
  · rw [State.skyStep_silent h]
    refine ⟨rfl, hslc ▸ Slc.sameSettings_refl _, ?_, rfl⟩
    rw [hrest]

theorem rearmAfter_spec (before after : Sky) (rearm : Bool) :
    (after = .layered ∨ after = .obscured → rearmAfter before after rearm = true)
      ∧ (after = .clear → skyRaises before after rearm = true → rearmAfter before after rearm = false)
      ∧ (after = .clear → ¬ skyRaises before after rearm = true → rearmAfter before after rearm = rearm) := by
  refine ⟨fun h => if_pos h, fun hclear hraises => ?_, fun hclear hraises => ?_⟩
  · rw [rearmAfter, if_neg (by simp [hclear]), hraises, hclear]
    rfl
  · rw [rearmAfter, if_neg (by simp [hclear]), if_neg fun h => hraises (Bool.and_eq_true_iff.1 h).1]

theorem skyStep_follows (s : State) (m : Summary) :
    let after := s.sku.decide s.ltu.tracks m
    let t := s.skyStep m
    let changed : Prop := after.sky ≠ s.sku.sky
    let raises : Prop := changed ∧ s.sku.sky ≠ .unknown ∧ (after.sky = .clear → s.sku.clearRearm = true)
    t.sku = { after with clearRearm := t.sku.clearRearm }
    ∧ (after.sky = .layered ∨ after.sky = .obscured → t.sku.clearRearm = true)
    ∧ (after.sky = .clear → raises → t.sku.clearRearm = false)
    ∧ (after.sky = .clear → ¬ raises → t.sku.clearRearm = s.sku.clearRearm)
    ∧ (raises → counted Ctr.skyChangeRaises s t
        ∧ (t.slc.noticeSet.getLsbD NoticeKind.skyChange.bit = true
            ∨ ∃ f : Frame, t.slc.current = some f ∧ f.kind = .notice))
    ∧ (¬ raises → t.slc = s.slc ∧ ctrsKept [Ctr.clearSuppressed] s t)
    ∧ (changed → after.sky = .clear → s.sku.clearRearm = false → counted Ctr.clearSuppressed s t)
    ∧ (¬ changed ∨ after.sky ≠ .clear ∨ s.sku.clearRearm = true →
        t.ctrs[Ctr.clearSuppressed] = s.ctrs[Ctr.clearSuppressed])
    ∧ t.slc.sameSettings s.slc ∧ t = { s with sku := t.sku, slc := t.slc, ctrs := t.ctrs }
    ∧ ∀ raised : Bool, (raised = true ↔ raises) → s.evaluate m =
        ((((s.bump Ctr.skyEvaluations).skyStep m).ceilingStep).triggerStep raised (1 ≤ m.confirmed)).reportStep m := by
  intro after t changed raises
  have hraises : skyRaises s.sku.sky after.sky s.sku.clearRearm = true ↔ raises := skyRaises_iff _ _ _
  have hsuppressed : skySuppressed s.sku.sky after.sky s.sku.clearRearm = true
      ↔ changed ∧ after.sky = .clear ∧ s.sku.clearRearm = false := skySuppressed_iff _ _ _
  obtain ⟨hsku, hset, hrest, hsupp⟩ := s.skyStep_spec m
  obtain ⟨hdslc, hdsku, -, hdkept⟩ := s.skyDecided_spec m
  obtain ⟨hcounted, hsame⟩ := s.skyDecided_suppressed (m := m)
  have hrearm : t.sku.clearRearm = rearmAfter s.sku.sky after.sky s.sku.clearRearm := by
    rw [show t.sku = _ from hsku, hdsku]
  obtain ⟨hset1, hset2, hset3⟩ := rearmAfter_spec s.sku.sky after.sky s.sku.clearRearm
  refine ⟨?_, fun h => hrearm.trans (hset1 h), fun hc h => hrearm.trans (hset2 hc (hraises.2 h)),
    fun hc h => hrearm.trans (hset3 hc (h ∘ hraises.1)), fun h => ?_, fun h => ?_, fun hch hc hr => ?_, fun h => ?_,
    hset, hrest, fun raised hraised => ?_⟩
  · rw [hrearm]
    exact hsku.trans hdsku
  · have hstep : t = ((s.skyDecided m).bump Ctr.skyChangeRaises).raise .skyChange := State.skyStep_raised (hraises.2 h)
    have hraise : ctrsKept raiseCtrs ((s.skyDecided m).bump Ctr.skyChangeRaises) t := by
      rw [hstep]
      exact Link.raise_ctrs ((s.skyDecided m).bump Ctr.skyChangeRaises).link .skyChange
    refine ⟨?_, ?_⟩
    · exact counted_before_kept (counted_after_kept hdkept (by decide) (counted_bump _ _)) hraise (by decide)
    · rw [hstep]
      have htold := ((s.skyDecided m).bump Ctr.skyChangeRaises).link.raise_told .skyChange
      exact htold.imp_right fun ⟨f, _, hcur, hkind, _⟩ => ⟨f, hcur, hkind⟩
  · have hstep : t = s.skyDecided m := State.skyStep_silent (h ∘ hraises.1)
    rw [hstep]
    exact ⟨hdslc, hdkept⟩
  · have hdone := hcounted (hsuppressed.2 ⟨hch, hc, hr⟩)
    exact hsupp.trans hdone
  · have hnot : ¬ skySuppressed s.sku.sky after.sky s.sku.clearRearm = true := by
      rw [hsuppressed]
      rintro ⟨hch, hc, hr⟩
      rcases h with h | h | h
      · exact h hch
      · exact h hc
      · rw [hr] at h
        cases h
    exact hsupp.trans (by rw [hsame hnot])
  · obtain rfl : raised = skyRaises s.sku.sky after.sky s.sku.clearRearm :=
      Bool.eq_iff_iff.2 (hraised.trans hraises.symm)
    rfl

/-! ### The ceiling (R140) -/

theorem Sku.goesLow_iff (k : Sku) (h : Option Nat) : k.goesLow h = true
    ↔ k.ceilingLow = false ∧ ∃ c, h = some c ∧ c < k.threshold := by
  cases h <;> simp [Sku.goesLow]

theorem Sku.goesOk_iff (k : Sku) (h : Option Nat) : k.goesOk h = true
    ↔ k.ceilingLow = true ∧ (k.sky = .clear ∨ ∃ c, h = some c ∧ k.threshold + k.hysteresis ≤ c) := by
  cases h <;> simp [Sku.goesOk]

/-- Step 2 in its three cases (R140). -/
theorem State.ceilingStep_cases {s : State} {h : Option Nat} (hnow : s.sku.ceilingNow s.ltu.tracks = h) :
    (s.sku.goesLow h = true → s.ceilingStep
        = ((s.withSku { s.sku with ceiling := h, ceilingLow := true }).bump Ctr.ceilingLowRaises).raise .ceilingLow)
      ∧ (s.sku.goesOk h = true → s.ceilingStep
        = ((s.withSku { s.sku with ceiling := h, ceilingLow := false }).bump Ctr.ceilingOkRaises).raise .ceilingOk)
      ∧ (¬ s.sku.goesLow h = true → ¬ s.sku.goesOk h = true → s.ceilingStep = s.withSku { s.sku with ceiling := h }) := by
  subst hnow
  refine ⟨fun hlow => if_pos hlow, fun hok => ?_, fun hlow hok => ?_⟩
  · have hlow : ¬ s.sku.goesLow (s.sku.ceilingNow s.ltu.tracks) = true := fun hlow => by
      have hwas := ((Sku.goesOk_iff _ _).1 hok).1
      rw [((Sku.goesLow_iff _ _).1 hlow).1] at hwas
      cases hwas
    exact (if_neg hlow).trans (if_pos hok)
  · exact (if_neg hlow).trans (if_neg hok)

theorem State.ceilingStep_ceiling (s : State) : s.ceilingStep.sku.ceiling = s.sku.ceilingNow s.ltu.tracks := by
  obtain ⟨hlow, hok, hsame⟩ := s.ceilingStep_cases rfl
  by_cases h1 : s.sku.goesLow (s.sku.ceilingNow s.ltu.tracks) = true
  · rw [hlow h1]
    rfl
  · by_cases h2 : s.sku.goesOk (s.sku.ceilingNow s.ltu.tracks) = true
    · rw [hok h2]
      rfl
    · rw [hsame h1 h2]
      rfl

theorem State.counted_raise (s : State) {c : Ctr} (k : NoticeKind) (h : c ∉ raiseCtrs) :
    counted c s ((s.bump c).raise k) := by
  have hraise : ctrsKept raiseCtrs (s.bump c) ((s.bump c).raise k) := Link.raise_ctrs (s.bump c).link k
  exact counted_before_kept (counted_bump s c) hraise h

theorem ceilingNow_layered {k : Sku} (hk : k.sky = .layered) (ts : List Track) (h : Nat) :
    k.ceilingNow ts = some h ↔ (∃ t ∈ ts, t.state ≠ .tentative ∧ t.base = h)
      ∧ ∀ t ∈ ts, t.state ≠ .tentative → h ≤ t.base := by
  rw [Sku.ceilingNow, hk]
  refine List.min?_eq_some_iff.trans ?_
  rw [List.mem_map, List.forall_mem_map]
  simp only [mem_solidTracks, and_assoc, and_imp]

theorem ceilingStep_follows (s : State) :
    let t := s.ceilingStep
    let goesLow := s.sku.ceilingLow = false ∧ ∃ h, t.sku.ceiling = some h ∧ h < s.sku.threshold
    let goesOk := s.sku.ceilingLow = true ∧ (s.sku.sky = .clear
      ∨ ∃ h, t.sku.ceiling = some h ∧ s.sku.threshold + s.sku.hysteresis ≤ h)
    (s.sku.sky = .obscured → t.sku.ceiling = s.sku.lastVv)
    ∧ (s.sku.sky = .layered → ∀ h, t.sku.ceiling = some h ↔
        (∃ k ∈ s.ltu.tracks, k.state ≠ .tentative ∧ k.base = h)
          ∧ ∀ k ∈ s.ltu.tracks, k.state ≠ .tentative → h ≤ k.base)
    ∧ (s.sku.sky = .clear → t.sku.ceiling = none)
    ∧ (goesLow → t.sku = { s.sku with ceiling := t.sku.ceiling, ceilingLow := true }
        ∧ counted Ctr.ceilingLowRaises s t)
    ∧ (goesOk → t.sku = { s.sku with ceiling := t.sku.ceiling, ceilingLow := false }
        ∧ counted Ctr.ceilingOkRaises s t)
    ∧ (¬ goesLow → ¬ goesOk → t = { s with sku := { s.sku with ceiling := t.sku.ceiling } }) := by
  intro t goesLow goesOk
  have hceiling : t.sku.ceiling = s.sku.ceilingNow s.ltu.tracks := s.ceilingStep_ceiling
  obtain ⟨hlow, hok, hsame⟩ := State.ceilingStep_cases hceiling.symm
  rw [Sku.goesLow_iff] at hlow hsame
  rw [Sku.goesOk_iff] at hok hsame
  refine ⟨fun hk => ?_, fun hk h => ?_, fun hk => ?_, fun h => ?_, fun h => ?_, hsame⟩
  · rw [hceiling, Sku.ceilingNow, hk]
  · rw [hceiling]
    exact ceilingNow_layered hk _ h
  · rw [hceiling, Sku.ceilingNow, hk]
  · refine ⟨congrArg State.sku (hlow h), ?_⟩
    rw [show t = _ from hlow h]
    exact State.counted_raise (s.withSku _) _ (by decide)
  · refine ⟨congrArg State.sku (hok h), ?_⟩
    rw [show t = _ from hok h]
    exact State.counted_raise (s.withSku _) _ (by decide)

/-! ### The capture triggers (R142, R143) -/

theorem Sku.holds_iff (k : Sku) (e : CaptureEntry) (raised confirmed : Bool) : k.holds e raised confirmed = true
    ↔ e.cond = .ceilingBelow ∧ (∃ h, k.ceiling = some h ∧ h < e.height)
      ∨ e.cond = .obscured ∧ k.sky = .obscured ∨ e.cond = .skyChange ∧ raised = true
      ∨ e.cond = .trackNew ∧ confirmed = true := by
  unfold Sku.holds
  cases e.cond with
  | ceilingBelow => cases k.ceiling <;> simp
  | _ => simp

theorem CaptureCond.level_iff (c : CaptureCond) : c.level = true ↔ c = .ceilingBelow ∨ c = .obscured := by
  cases c <;> simp [CaptureCond.level]

/-- An entry examined, case by case (R143). -/
theorem CaptureEntry.examine_spec (e : CaptureEntry) (h : Bool) (hcond : h = true → e.cond ≠ .none) :
    (e.armed = true → h = true → e.examine h = { e with armed := false, pending := true })
      ∧ (e.armed = false → e.cond.level = true → h = false → e.examine h = { e with armed := true })
      ∧ (e.armed = true ∧ h = false ∨ e.armed = false ∧ (h = true ∨ e.cond.level = false) → e.examine h = e) := by
  refine ⟨fun ha hh => ?_, fun ha hl hh => ?_, fun hcase => ?_⟩
  · rw [CaptureEntry.examine, if_neg (hcond hh), if_pos ha, if_pos hh]
  · have hnone : e.cond ≠ .none := fun hn => by rw [hn] at hl; cases hl
    rw [CaptureEntry.examine, if_neg hnone, ha, if_neg Bool.false_ne_true, hl, hh]
    rfl
  · unfold CaptureEntry.examine
    split
    · rfl
    · rcases hcase with ⟨ha, hh⟩ | ⟨ha, hh⟩
      · rw [if_pos ha, hh, if_neg Bool.false_ne_true]
      · rw [ha, if_neg Bool.false_ne_true]
        rcases hh with hh | hl
        · simp [hh]
        · simp [hl]

theorem State.triggerStep_captures (s : State) (raised confirmed : Bool) (i : Fin 4) :
    (s.triggerStep raised confirmed).sku.captures[i]
      = s.sku.captures[i].examine (s.sku.holds s.sku.captures[i] raised confirmed) :=
  Vector.getElem_map _ _

/-- An armed entry whose condition holds is counted (R148). -/
theorem State.triggerStep_counts {s : State} {raised confirmed : Bool} {i : Fin 4}
    (h : s.sku.captures[i].fires (s.sku.holds s.sku.captures[i] raised confirmed) = true)
    (hmax : s.ctrs[Ctr.captureTriggers] < Config.counterMax) :
    s.ctrs[Ctr.captureTriggers] < (s.triggerStep raised confirmed).ctrs[Ctr.captureTriggers] := by
  have hmem : s.sku.captures[i] ∈ s.sku.captures.toList.filter fun e => e.fires (s.sku.holds e raised confirmed) :=
    List.mem_filter.2 ⟨Vector.mem_toList_iff.2 (Vector.getElem_mem i.isLt), h⟩
  have hpos := List.length_pos_of_mem hmem
  have hadd := Counters.add_get_self s.ctrs Ctr.captureTriggers
    (s.sku.captures.toList.filter fun e => e.fires (s.sku.holds e raised confirmed)).length
  have hget : (s.triggerStep raised confirmed).ctrs[Ctr.captureTriggers]
      = min (s.ctrs[Ctr.captureTriggers] + (s.sku.captures.toList.filter fun e =>
          e.fires (s.sku.holds e raised confirmed)).length) Config.counterMax := hadd
  rw [hget]
  exact lt_min (Nat.lt_add_of_pos_right hpos) hmax

theorem triggerStep_follows (s : State) (raised confirmed : Bool) (i : Fin 4) :
    let e := s.sku.captures[i]
    let t := s.triggerStep raised confirmed
    let holds := e.cond = .ceilingBelow ∧ (∃ h, s.sku.ceiling = some h ∧ h < e.height)
      ∨ e.cond = .obscured ∧ s.sku.sky = .obscured ∨ e.cond = .skyChange ∧ raised = true
      ∨ e.cond = .trackNew ∧ confirmed = true
    let level := e.cond = .ceilingBelow ∨ e.cond = .obscured
    (e.armed = true → holds → t.sku.captures[i] = { e with armed := false, pending := true }
        ∧ (s.ctrs[Ctr.captureTriggers] < Config.counterMax →
            s.ctrs[Ctr.captureTriggers] < t.ctrs[Ctr.captureTriggers]))
    ∧ (e.armed = false → level → ¬ holds → t.sku.captures[i] = { e with armed := true })
    ∧ (e.armed = true ∧ ¬ holds ∨ e.armed = false ∧ (holds ∨ ¬ level) → t.sku.captures[i] = e)
    ∧ t = { s with sku := { s.sku with captures := t.sku.captures }, ctrs := t.ctrs }
    ∧ ctrsKept [Ctr.captureTriggers] s t := by
  intro e t holds level
  have hholds : s.sku.holds e raised confirmed = true ↔ holds := Sku.holds_iff _ _ _ _
  have hlevel : e.cond.level = true ↔ level := CaptureCond.level_iff _
  have hcond : s.sku.holds e raised confirmed = true → e.cond ≠ .none := fun h hn => by
    rw [Sku.holds, hn] at h
    cases h
  have hexamined : t.sku.captures[i] = e.examine (s.sku.holds e raised confirmed) :=
    s.triggerStep_captures raised confirmed i
  obtain ⟨hfires, hrearms, hstays⟩ := e.examine_spec (s.sku.holds e raised confirmed) hcond
  rw [hexamined]
  refine ⟨fun ha h => ⟨hfires ha (hholds.2 h), fun hmax => ?_⟩, fun ha hl h => ?_, fun hcase => ?_, rfl,
    ctrsKept_bumpBy _ _ (by simp)⟩
  · refine State.triggerStep_counts (i := i) ?_ hmax
    rw [CaptureEntry.fires, Bool.and_eq_true, Bool.and_eq_true, decide_eq_true_iff]
    exact ⟨⟨hcond (hholds.2 h), ha⟩, hholds.2 h⟩
  · exact hrearms ha (hlevel.2 hl) (Bool.eq_false_iff.2 (h ∘ hholds.1))
  · refine hstays (hcase.imp (fun h => ⟨h.1, Bool.eq_false_iff.2 (h.2 ∘ hholds.1)⟩) fun h => ⟨h.1, ?_⟩)
    exact h.2.imp hholds.2 fun hl => Bool.eq_false_iff.2 (hl ∘ hlevel.1)

/-! ### The layer report (R141) -/

theorem reportStep_follows (s : State) (m : Summary) :
    let t := s.reportStep m
    let payload := layerPayload s.slc.time s.sku s.ltu.tracks m
    (s.sku.reportCount + 1 < s.sku.divider →
      t = { s with sku := { s.sku with reportCount := s.sku.reportCount + 1 } })
    ∧ (s.sku.divider ≤ s.sku.reportCount + 1 → t.sku = { s.sku with reportCount := 0 }
        ∧ counted Ctr.layerReportsOffered s t
        ∧ (s.slc.fits payload.length = true → s.slc.lineSound ∨ s.slc.phase = .boundary →
          ∃ f ∈ t.slc.queue ++ t.slc.current.toList, f.kind = .layer ∧ f.level = s.slc.levels.layer
            ∧ f.tag = s.slc.tagCounter ∧ f.payload = payload)) := by
  intro t payload
  refine ⟨fun h => if_neg (Nat.not_le.2 h), fun h => ?_⟩
  let u := (s.withSku { s.sku with reportCount := 0 }).bump Ctr.layerReportsOffered
  have hstep : t = (u.offer .layer payload).1 := if_pos h
  have hoffer : ctrsKept raiseCtrs u t := by
    rw [hstep]
    exact u.offer_ctrsKept .layer payload
  refine ⟨?_, ?_, fun hfits _ => ?_⟩
  · rw [hstep]
    exact (u.offer_frame .layer payload).2.2.2.2.2.2.2.1
  · have hcount : counted Ctr.layerReportsOffered s u := counted_bump (s.withSku _) _
    exact counted_before_kept hcount hoffer (by decide)
  · rw [hstep, State.offer_slc, u.link.offer_of_fits .layer payload hfits]
    let f : Frame := ⟨.layer, s.slc.levels.layer, s.slc.tagCounter, payload.length, payload, 0, .nothing⟩
    have hqueued : f ∈ (u.link.enqueue ⟨.layer, s.slc.levels.layer, 0, payload.length, payload, 0, .nothing⟩).slc.queue :=
      List.mem_append_right _ (List.mem_singleton_self f)
    exact ⟨f, Link.kick_keeps _ hqueued (by simp [f]), rfl, rfl, rfl, rfl⟩

/-- Settles O41, by the steps of an evaluation in their order. -/
theorem obscurationHeldForThreeSummaries : Obligations.ObscurationHeldForThreeSummaries :=
  ⟨obscuration_held, skyStep_follows, ceilingStep_follows, triggerStep_follows, reportStep_follows⟩

end Sys2Proof.Machine
end

section
/-! PROOFS. The profile path, event by event: what begins and completes, and where nothing else is waiting
(R71 to R75, R92, R93, R105). -/

namespace Sys2Proof.Machine

/-! ### Where nothing moves -/

/-- Nothing can begin and nothing waits: the profile path stays. -/
theorem State.moveProfiles_of_still {t : State} (hc : t.condReady = none) (hd : t.detReady = none)
    (hw : ∀ b, ¬ t.waits b) : t.moveProfiles = t :=
  (State.moveProfiles_of_nothing hc hd).trans (State.countWait_of_not_waits hw)

/-- With no bank queued, no conditioning can begin and no wait is counted. -/
theorem State.moveProfiles_of_empty {t : State} (hq : t.gau.queue = []) (hd : t.detReady = none) :
    t.moveProfiles = t := by
  refine State.moveProfiles_of_still ?_ hd fun b hb => ?_
  · cases h : t.condReady with
    | none => rfl
    | some bk =>
      have hhead := (State.condReady_eq_some.1 h).2.1
      rw [hq] at hhead
      cases hhead
  · have hhead := hb.1
    rw [hq] at hhead
    cases hhead

theorem State.detReady_of_order {s : State} (h : s.pcu.readyOrder = []) : s.detReady = none := by
  cases hd : s.detReady with
  | none => rfl
  | some k =>
    have hhead := (State.detReady_eq_some.1 hd).2
    rw [h] at hhead
    cases hhead

/-! ### A conditioning begins (R71, R75) -/

/-- The buffer taken is the lower-numbered FREE one. -/
theorem Pcu.freeBuf_lowest {p : Pcu} {k : Fin 2} (h : p.freeBuf = some k) :
    p.bufs[k].state = .free ∧ (k = 1 → p.bufs[0].state ≠ .free) := by
  refine ⟨Pcu.freeBuf_state h, ?_⟩
  rintro rfl hfree
  have hfirst : p.freeBuf = some 0 := List.find?_cons_of_pos (decide_eq_true hfree)
  rw [hfirst] at h
  cases h

theorem State.beginConditioning_of_ready {s : State} {b : Fin 6} {k : Fin 2} (h : s.condReady = some (b, k)) :
    s.beginConditioning = (s.condBegin b k).moveProfiles := by rw [State.beginConditioning, h]

/-- Settles O32, by the two cases of a begin (R71, R75): nothing else moves behind either. -/
theorem conditioningBegins : Obligations.ConditioningBegins := by
  intro s hdet
  refine ⟨fun h => ?_, fun b k h => ?_⟩
  · exact congrArg Host.Outcome.next (show s.beginConditioning = s by rw [State.beginConditioning, h])
  · obtain ⟨hjob, hhead, hbuf, hclosed⟩ := State.condReady_eq_some.1 h
    obtain ⟨hfree, hlow⟩ := Pcu.freeBuf_lowest hbuf
    have hrun : exec .conditioningBegin s = .next (s.condBegin b k).moveProfiles :=
      congrArg Host.Outcome.next (State.beginConditioning_of_ready h)
    refine ⟨hfree, hlow, fun o ho hvoid => ?_, fun hvoid hqueue hbusy => ?_⟩
    · have hbegin := s.condBegin_of_not_void k (b := b) (by rw [ho]; exact hvoid)
      have hstill : (s.condBegin b k).moveProfiles = s.condBegin b k := by
        rw [hbegin]
        refine State.moveProfiles_of_still (State.condReady_none_of_job rfl) ((State.detReady_of_eq rfl rfl).trans hdet) ?_
        rintro c ⟨hc, hstate, -⟩
        obtain rfl : b = c := Option.some.inj (hhead.symm.trans hc)
        rw [State.withPcu_gau, State.withGau_gau, Gau.setBank_get, if_pos rfl] at hstate
        cases hstate
      rw [hrun, hstill, hbegin]
      exact ⟨_, rfl, rfl, rfl, rfl⟩
    · have hbegin := s.condBegin_of_void k (b := b) (by rw [hvoid]; rfl)
      have hdrop : s.gau.queue.drop 1 = [] := by rw [hqueue]; rfl
      have hstill : (s.condBegin b k).moveProfiles = s.condBegin b k := by
        rw [hbegin]
        exact State.moveProfiles_of_empty hdrop (State.detReady_none_of_job hbusy)
      have hgau : (s.passVoid b k).gau = { s.gau.setBank b Bank.freed with queue := [] } := by
        rw [State.passVoid_gau, hdrop]
      have hpassed : counted Ctr.voidPassed s ((s.withPcu (s.pcu.makeReady k (s.beginRecord s.gau.banks[b]))).bump
        Ctr.voidPassed) := counted_bump (s.withPcu _) _
      have hfreed := ctrsKept_bump (cs := [Ctr.profilesConditioned]) (((s.withPcu (s.pcu.makeReady k
        (s.beginRecord s.gau.banks[b]))).bump Ctr.voidPassed).withGau { s.gau.setBank b Bank.freed with
          queue := s.gau.queue.drop 1 }) (c := Ctr.profilesConditioned) (by decide)
      have hkept : ctrsKept [Ctr.voidPassed] s ((s.withPcu (s.pcu.makeReady k (s.beginRecord s.gau.banks[b]))).bump
        Ctr.voidPassed) := ctrsKept_bump (s.withPcu _) (by decide)
      rw [hrun, hstill, hbegin]
      refine ⟨_, rfl, hgau, rfl, counted_before_kept hpassed hfreed (by decide), ?_, ?_, rfl⟩
      · exact counted_after_kept hkept (by decide) (counted_bump (State.withGau _ _) _)
      · exact ctrsKept_trans (ctrsKept_mono hkept (by simp)) (ctrsKept_mono hfreed (by simp))

/-! ### A conditioning completes (R72, R77, R91) -/

/-- `t` differs from `s` in its counters alone. -/
def State.CountsOnly (s t : State) : Prop := ∃ v, t = { s with ctrs := v }

theorem State.CountsOnly.refl (s : State) : s.CountsOnly s := ⟨s.ctrs, rfl⟩

theorem State.CountsOnly.bumpBy {s t : State} (h : s.CountsOnly t) (c : Ctr) (n : Nat) : s.CountsOnly (t.bumpBy c n) := by
  obtain ⟨v, rfl⟩ := h
  exact ⟨_, rfl⟩

theorem State.CountsOnly.bumpIf {s t : State} (h : s.CountsOnly t) (q : Bool) (c : Ctr) : s.CountsOnly (t.bumpIf q c) := by
  unfold State.bumpIf
  split
  · exact h.bumpBy c 1
  · exact h

theorem State.countArith_ctrs (s : State) (a : Arith) (test : Bool) :
    s.CountsOnly (s.countArith a test)
      ∧ (s.countArith a test).ctrs[Ctr.betaClampedGates]
          = min (s.ctrs[Ctr.betaClampedGates] + a.clamps) Config.counterMax
      ∧ (s.countArith a test).ctrs[Ctr.clippedGates]
          = min (s.ctrs[Ctr.clippedGates] + a.clipped) Config.counterMax
      ∧ (s.countArith a test).ctrs[Ctr.profilesConditioned] = s.ctrs[Ctr.profilesConditioned] := by
  let s1 := (s.bumpIf a.cond.bgHeld Ctr.bgHeldProfiles).bumpIf a.cond.bgNone Ctr.bgNoneProfiles
  let s2 := s1.bumpBy Ctr.betaClampedGates a.clamps
  let s3 := s2.bumpIf (1 ≤ a.clamps) Ctr.betaClampedProfiles
  let s4 := s3.bumpBy Ctr.clippedGates a.clipped
  let s5 := (s4.bumpIf a.cond.anyClipped Ctr.clippedProfiles).bumpIf test Ctr.injectionsApplied
  have h01 : ctrsKept [Ctr.bgHeldProfiles, Ctr.bgNoneProfiles] s s1 :=
    ctrsKept_trans (ctrsKept_bumpIf _ _ (by simp)) (ctrsKept_bumpIf _ _ (by simp))
  have h12 : ctrsKept [Ctr.betaClampedGates] s1 s2 := ctrsKept_bumpBy _ _ (by simp)
  have h23 : ctrsKept [Ctr.betaClampedProfiles] s2 s3 := ctrsKept_bumpIf _ _ (by simp)
  have h34 : ctrsKept [Ctr.clippedGates] s3 s4 := ctrsKept_bumpBy _ _ (by simp)
  have h45 : ctrsKept [Ctr.clippedProfiles, Ctr.injectionsApplied] s4 s5 :=
    ctrsKept_trans (ctrsKept_bumpIf _ _ (by simp)) (ctrsKept_bumpIf _ _ (by simp))
  have hclamped : s2.ctrs[Ctr.betaClampedGates] = min (s1.ctrs[Ctr.betaClampedGates] + a.clamps) Config.counterMax :=
    Counters.add_get_self _ _ _
  have hclipped : s4.ctrs[Ctr.clippedGates] = min (s3.ctrs[Ctr.clippedGates] + a.clipped) Config.counterMax :=
    Counters.add_get_self _ _ _
  refine ⟨?_, ?_, ?_, ?_⟩
  · exact ((((((State.CountsOnly.refl s).bumpIf _ _).bumpIf _ _).bumpBy _ _).bumpIf _ _).bumpBy _ _).bumpIf _ _
      |>.bumpIf _ _
  · refine (h45 _ (by decide)).trans ((h34 _ (by decide)).trans ((h23 _ (by decide)).trans ?_))
    rw [hclamped, h01 _ (by decide)]
  · refine (h45 _ (by decide)).trans ?_
    rw [hclipped, h23 _ (by decide), h12 _ (by decide), h01 _ (by decide)]
  · exact (h45 _ (by decide)).trans ((h34 _ (by decide)).trans ((h23 _ (by decide)).trans
      ((h12 _ (by decide)).trans (h01 _ (by decide)))))

/-- The Background Hold Store after a conditioning (R77). -/
theorem Pcu.keepBackground_spec (p : Pcu) (k : Bank) (bg : List Nat) :
    (∀ q : Prog, (p.keepBackground k bg).held[q] = if q = k.prog ∧ k.copy.bgMethod = .dark ∧ 1 ≤ k.dAcc
        then some ⟨k.copy.gateCount, k.seq, bg⟩ else p.held[q])
      ∧ p.keepBackground k bg = { p with held := (p.keepBackground k bg).held } := by
  unfold Pcu.keepBackground
  by_cases hdark : k.copy.bgMethod = .dark ∧ 1 ≤ k.dAcc
  · rw [if_pos hdark]
    refine ⟨fun q => ?_, rfl⟩
    by_cases hq : q = k.prog
    · subst hq
      simp [hdark]
    · rw [if_neg fun h => hq h.1]
      exact Vector.getElem_set_ne k.prog.isLt q.isLt fun h => hq (Fin.ext h.symm)
  · rw [if_neg hdark]
    exact ⟨fun q => (if_neg fun h => hdark h.2).symm, rfl⟩

/-- The PCU as a completed conditioning leaves it (R72, R77). -/
def State.pcuAfter (s : State) (j : PcuJob) : Pcu :=
  { (s.pcu.makeReady j.buf (s.jobResult j)).keepBackground s.gau.banks[j.bank] (s.jobArith j).bg with job := none }

theorem State.condFinish_spec (s : State) (j : PcuJob) :
    (s.condFinish j).gau = { s.gau.setBank j.bank Bank.freed with queue := s.gau.queue.drop 1 }
      ∧ (s.condFinish j).pcu = s.pcuAfter j
      ∧ s.condFinish j = { s with gau := (s.condFinish j).gau, pcu := (s.condFinish j).pcu,
                                  ctrs := (s.condFinish j).ctrs }
      ∧ counted Ctr.profilesConditioned s (s.condFinish j)
      ∧ (s.condFinish j).ctrs[Ctr.betaClampedGates]
          = min (s.ctrs[Ctr.betaClampedGates] + (s.jobArith j).clamps) Config.counterMax
      ∧ (s.condFinish j).ctrs[Ctr.clippedGates]
          = min (s.ctrs[Ctr.clippedGates] + (s.jobArith j).clipped) Config.counterMax := by
  obtain ⟨⟨v, hv⟩, hclamped, hclipped, hcond⟩ := (s.withPcu (s.pcuAfter j)).countArith_ctrs (s.jobArith j) j.inj.isSome
  have hfinish : s.condFinish j
      = ((s.withPcu (s.pcuAfter j)).countArith (s.jobArith j) j.inj.isSome).freeHead j.bank := s.condFinish_eq j
  rw [hv] at hclamped hclipped hcond
  rw [hfinish, hv]
  have hfreed : ctrsKept [Ctr.profilesConditioned] { s.withPcu (s.pcuAfter j) with ctrs := v }
      (State.freeHead { s.withPcu (s.pcuAfter j) with ctrs := v } j.bank) := ctrsKept_bump (State.withGau _ _) (by decide)
  refine ⟨rfl, rfl, rfl, ?_, (hfreed _ (by decide)).trans hclamped, (hfreed _ (by decide)).trans hclipped⟩
  have hcount : counted Ctr.profilesConditioned { s.withPcu (s.pcuAfter j) with ctrs := v }
      (State.freeHead { s.withPcu (s.pcuAfter j) with ctrs := v } j.bank) := counted_bump (State.withGau _ _) _
  rw [counted, hcond] at hcount
  exact hcount

/-- Settles O33, by what a completion leaves (R72, R77, R91): behind it nothing else moves. -/
theorem conditioningCompletes : Obligations.ConditioningCompletes := by
  intro s
  refine ⟨fun h => ?_, fun j r0 hjob hqueue hbusy hrec => ?_⟩
  · exact congrArg Host.Outcome.next (show s.completeConditioning = s by rw [State.completeConditioning, h])
  · intro bank a
    have hdrop : s.gau.queue.drop 1 = [] := by rw [hqueue]; rfl
    have hrecord : s.jobRecord j = r0 := by rw [State.jobRecord, hrec]; rfl
    have harith : s.jobArith j = a := by rw [State.jobArith, hrecord]
    obtain ⟨hgau, hpcu, hrest, hcount, hclamped, hclipped⟩ := s.condFinish_spec j
    rw [hdrop] at hgau
    rw [harith] at hclamped hclipped
    have hldu : (s.condFinish j).ldu = s.ldu := by rw [hrest]
    have hstill : (s.condFinish j).moveProfiles = s.condFinish j :=
      State.moveProfiles_of_empty (by rw [hgau]) (State.detReady_none_of_job (by rw [hldu]; exact hbusy))
    have hrun : exec .conditioningComplete s = .next (s.condFinish j) :=
      congrArg Host.Outcome.next (show s.completeConditioning = _ by rw [State.completeConditioning, hjob]; exact hstill)
    obtain ⟨hheld, hkeep⟩ := (s.pcu.makeReady j.buf (s.jobResult j)).keepBackground_spec bank (s.jobArith j).bg
    have hafter : s.pcuAfter j = { s.pcu.makeReady j.buf (s.jobResult j) with
        job := none, held := (s.pcuAfter j).held } :=
      congrArg (fun p : Pcu => { p with job := none }) hkeep
    have hbufs : (s.pcuAfter j).bufs = (s.pcu.setBuf j.buf ⟨.ready, some (s.jobResult j)⟩).bufs := by
      rw [hafter]
      rfl
    refine ⟨_, hrun, hgau, ?_, ?_, ?_, fun k hk => ?_, fun p => ?_, ?_, ?_, hcount, hclamped, hclipped, hrest⟩
    · rw [hpcu]
      rfl
    · rw [hpcu, hafter]
      rfl
    · rw [hpcu, hbufs, Pcu.setBuf_get, if_pos rfl, State.jobResult, hrecord, harith]
    · rw [hpcu, hbufs, Pcu.setBuf_get, if_neg hk]
    · rw [hpcu, ← harith]
      exact hheld p
    · rw [hpcu, hafter]
      rfl
    · rw [hpcu, hafter]
      rfl

/-! ### A detection begins (R92, R93, R105) -/

theorem State.beginDetection_of_ready {s : State} {k : Fin 2} (h : s.detReady = some k) :
    s.beginDetection = (s.detBegin k).moveProfiles := by rw [State.beginDetection, h]

/-- A buffer that is not FREE and stays so does not change which one is. -/
theorem Pcu.freeBuf_setBuf {p : Pcu} {k : Fin 2} {b : ResultBuf} (hp : p.bufs[k].state ≠ .free) (hb : b.state ≠ .free) :
    (p.setBuf k b).freeBuf = p.freeBuf := by
  unfold Pcu.freeBuf
  congr 1
  funext i
  rw [Pcu.setBuf_get]
  by_cases hi : i = k
  · subst hi
    simp only [if_true, hb]
    exact (decide_eq_false hp).symm
  · rw [if_neg hi]

/-- A detection in progress over a path in which no conditioning can begin and none waits. -/
theorem State.detTaken_still {s : State} {k : Fin 2} {on : Option (List Nat)} (hc : s.condReady = none)
    (hw : s.waitSettled) (hk : s.pcu.bufs[k].state = .ready) :
    (s.detTaken k on).moveProfiles = s.detTaken k on := by
  have hfree : (s.detTaken k on).pcu.freeBuf = s.pcu.freeBuf :=
    Pcu.freeBuf_setBuf (by rw [hk]; decide) (show BufState.detecting ≠ .free by decide)
  refine State.moveProfiles_of_still ?_ (State.detReady_none_of_job rfl) fun b hb => ?_
  · cases h : (s.detTaken k on).condReady with
    | none => rfl
    | some bk =>
      obtain ⟨b, i⟩ := bk
      obtain ⟨hjob, hhead, hbuf, hclosed⟩ := State.condReady_eq_some.1 h
      rw [hfree] at hbuf
      rw [(State.condReady_eq_some (s := s)).2 ⟨hjob, hhead, hbuf, hclosed⟩] at hc
      cases hc
  · obtain ⟨hhead, hclosed, hnone, hcount⟩ := hb
    rw [hfree] at hnone
    exact State.waitSettled_iff.1 hw b ⟨hhead, hclosed, hnone, hcount⟩

/-- A profile that takes no thresholds passes at its begin (R93, R105). -/
theorem State.detBegin_passes {s : State} {k : Fin 2} {r : ResultRec} (hk : s.pcu.bufs[k] = ⟨.ready, some r⟩)
    (h : s.takeThresholds r = none) : s.detBegin k = (s.detTaken k none).finishUnobserved k r := by
  have hon : s.bufThresholds k = none := by rw [State.bufThresholds, hk]; exact h
  have hrec : (s.detTaken k none).pcu.bufs[k].record = some r := by
    have hbuf : (s.detTaken k none).pcu.bufs[k] = _ := Pcu.setBuf_get s.pcu k k { s.pcu.bufs[k] with state := .detecting }
    rw [hbuf, if_pos rfl, hk]
  rw [State.detBegin_eq, hon]
  refine (if_neg (by decide)).trans ?_
  unfold State.detFinish
  split
  · rename_i hnone
    cases hrec.symm.trans hnone
  · rename_i r' hsome
    cases hrec.symm.trans hsome
    rfl

/-- A frame that is not due: the frame count advances by the divider (R106). -/
theorem State.frameStep_of_none {s : State} {r : ResultRec} {c : Conditioned} {o : Bool}
    (hdue : r.copy.divider = 0 ∨ s.ldu.frameCount[r.prog] + 1 < r.copy.divider)
    (hcapture : s.sku.requested r.prog = false) : s.frameStep r c o = s.withLdu { s.ldu with
      frameCount := if r.copy.divider = 0 then s.ldu.frameCount
        else s.ldu.frameCount.set r.prog (s.ldu.frameCount[r.prog] + 1) } := by
  rw [State.frameStep]
  by_cases hzero : r.copy.divider = 0
  · have hdivider : dividerDue r.copy.divider s.ldu.frameCount[r.prog] = (false, s.ldu.frameCount[r.prog]) := if_pos hzero
    rw [hdivider, hcapture, if_pos hzero]
    refine (if_neg (by decide)).trans ?_
    rw [show s.ldu.frameCount.set r.prog s.ldu.frameCount[r.prog] = s.ldu.frameCount from Vector.set_getElem_self _]
  · have hlow := hdue.resolve_left hzero
    have hdivider : dividerDue r.copy.divider s.ldu.frameCount[r.prog] = (false, s.ldu.frameCount[r.prog] + 1) :=
      (if_neg hzero).trans (if_neg (Nat.not_le.2 hlow))
    rw [hdivider, hcapture, if_neg hzero]
    exact if_neg (by decide)

theorem Sku.requested_iff (k : Sku) (p : Prog) : k.requested p = true
    ↔ ∃ i : Fin 4, k.captures[i].pending = true ∧ k.captures[i].prog = p := by
  rw [Sku.requested, List.any_eq_true]
  constructor
  · rintro ⟨e, he, hserved⟩
    rw [Vector.mem_toList_iff, Vector.mem_iff_getElem] at he
    obtain ⟨i, hi, rfl⟩ := he
    rw [Bool.and_eq_true, decide_eq_true_iff] at hserved
    exact ⟨⟨i, hi⟩, hserved⟩
  · rintro ⟨i, hpending, hprog⟩
    refine ⟨k.captures[i], Vector.mem_toList_iff.2 (Vector.getElem_mem i.isLt), ?_⟩
    rw [Bool.and_eq_true, decide_eq_true_iff]
    exact ⟨hpending, hprog⟩

/-- What a profile that is passed leaves (R93, R105). -/
def State.passed (s : State) (k : Fin 2) (r : ResultRec) (counts : Vector Nat 4) : State :=
  (s.withPcu { s.pcu.setBuf k ResultBuf.freed with readyOrder := [] }).withLdu
    { s.ldu with job := none, last := some ⟨r.prog, r.seq, [], false, none⟩, frameCount := counts }

theorem State.passed_still {s u : State} {k : Fin 2} {r : ResultRec} {counts : Vector Nat 4} {v : Counters}
    (hq : s.gau.queue = []) (hu : u = { s.passed k r counts with ctrs := v }) : u.moveProfiles = u := by
  subst hu
  exact State.moveProfiles_of_empty hq (State.detReady_of_order rfl)

/-- Settles O36, by the cases of a begin: thresholds taken, a VOID profile, detection off (R92, R93, R105). -/
theorem detectionBegins : Obligations.DetectionBegins := by
  intro s k more r hc hw hidle horder hk
  have hready : s.detReady = some k := State.detReady_eq_some.2 ⟨hidle, by rw [horder]; rfl⟩
  have hrun : exec .detectionBegin s = .next (s.detBegin k).moveProfiles :=
    congrArg Host.Outcome.next (State.beginDetection_of_ready hready)
  have hstate : s.pcu.bufs[k].state = .ready := by rw [hk]
  have hdrop : s.pcu.readyOrder.drop 1 = more := by rw [horder]; rfl
  have hset : ∀ b : ResultBuf, (s.pcu.bufs.set k { s.pcu.bufs[k] with state := .detecting }).set k b
      = s.pcu.bufs.set k b := fun b => Vector.set_set _ _
  refine ⟨fun c hcond hon => ?_, fun hcond hmore hqueue => ?_, fun c hcond hoff hmore hqueue hdue hcapture => ?_⟩
  · have htake : s.takeThresholds r = some ((List.range r.copy.gateCount).map fun i =>
        max (Tab.read Config.betaMax s.ldu.thrTable (r.copy.thrBase + i))
          (roundDivNat (c.noise * r.copy.noiseFactor) 16)) := by
      rw [State.takeThresholds, hcond]
      refine (if_pos hon).trans ?_
      rw [Tab.readRun, List.map_map]
      rfl
    have hthr : s.bufThresholds k = s.takeThresholds r := by rw [State.bufThresholds, hk]
    have hbegin : s.detBegin k = s.detTaken k (s.takeThresholds r) := by
      rw [State.detBegin_eq, hthr, htake]
      exact if_pos rfl
    rw [hrun, hbegin, State.detTaken_still hc hw hstate, htake]
    refine ⟨_, rfl, rfl, ?_, rfl⟩
    rw [State.detTaken, hdrop, hk]
    rfl
  · have hnone : s.takeThresholds r = none := by rw [State.takeThresholds, hcond]
    have hpass : s.detBegin k = (s.passed k r s.ldu.frameCount).bump Ctr.noObsResults := by
      rw [State.detBegin_passes hk hnone, State.finishUnobserved, hcond, State.passed, State.detTaken, hdrop, hmore]
      simp only [State.releaseBuf, Pcu.setBuf, State.withLdu, State.withPcu, hset]
      rfl
    have hstill : ((s.passed k r s.ldu.frameCount).bump Ctr.noObsResults).moveProfiles
        = (s.passed k r s.ldu.frameCount).bump Ctr.noObsResults := State.passed_still hqueue rfl
    rw [hrun, hpass, hstill]
    exact ⟨_, rfl, rfl, rfl, counted_bump (State.withLdu _ _) _, ctrsKept_bump (State.withLdu _ _) (by decide), rfl⟩
  · have hnone : s.takeThresholds r = none := by
      rw [State.takeThresholds, hcond]
      exact if_neg (by rw [hoff]; decide)
    have hrequested : s.sku.requested r.prog = false := by
      rw [Bool.eq_false_iff]
      intro h
      obtain ⟨i, hpending, hprog⟩ := (Sku.requested_iff _ _).1 h
      exact hcapture i hpending hprog
    let counts := if r.copy.divider = 0 then s.ldu.frameCount
      else s.ldu.frameCount.set r.prog (s.ldu.frameCount[r.prog] + 1)
    have hpass : s.detBegin k = ((s.passed k r counts).bump Ctr.noObsDetectionOff).bump Ctr.noObsResults := by
      have hframe : ((s.detTaken k none).bump Ctr.noObsDetectionOff).frameStep r c false
          = ((s.detTaken k none).bump Ctr.noObsDetectionOff).withLdu
            { s.ldu with job := some ⟨k, none⟩, last := none, frameCount := counts } :=
        State.frameStep_of_none (s := (s.detTaken k none).bump Ctr.noObsDetectionOff) hdue hrequested
      rw [State.detBegin_passes hk hnone, State.finishUnobserved, hcond]
      simp only
      rw [hframe, State.passed, State.detTaken, hdrop, hmore]
      simp only [State.releaseBuf, Pcu.setBuf, State.withLdu, State.withPcu, State.bump, hset]
      rfl
    have hfirst : counted Ctr.noObsDetectionOff s ((s.passed k r counts).bump Ctr.noObsDetectionOff) :=
      counted_bump (State.withLdu _ _) _
    have hkept : ctrsKept [Ctr.noObsDetectionOff] s ((s.passed k r counts).bump Ctr.noObsDetectionOff) :=
      ctrsKept_bump (State.withLdu _ _) (by decide)
    have hlast : ctrsKept [Ctr.noObsResults] ((s.passed k r counts).bump Ctr.noObsDetectionOff)
      (((s.passed k r counts).bump Ctr.noObsDetectionOff).bump Ctr.noObsResults) := ctrsKept_bump _ (by decide)
    have hstill : (((s.passed k r counts).bump Ctr.noObsDetectionOff).bump Ctr.noObsResults).moveProfiles
        = ((s.passed k r counts).bump Ctr.noObsDetectionOff).bump Ctr.noObsResults := State.passed_still hqueue rfl
    rw [hrun, hpass, hstill]
    exact ⟨_, rfl, rfl, rfl, counted_before_kept hfirst hlast (by decide),
      counted_after_kept hkept (by decide) (counted_bump _ _),
      ctrsKept_trans (ctrsKept_mono hkept (by simp)) (ctrsKept_mono hlast (by simp)), rfl⟩

end Sys2Proof.Machine
end

section
/-! PROOFS. The tracking update step by step: association, hits and misses, creation, merging, and what it
counts (R118 to R127, R133). -/

namespace Sys2Proof.Machine

theorem satInc_eq (top n : Nat) : satInc top n = min (n + 1) top := by
  unfold satInc
  split <;> omega

/-! ### Association (R119) -/

theorem nearer_iff (c : Nat) (a b : Track) : nearer c a b = true ↔ Machine.dist a.base c < Machine.dist b.base c
    ∨ Machine.dist a.base c = Machine.dist b.base c ∧ (a.base < b.base ∨ a.base = b.base ∧ a.id < b.id) := by
  simp [nearer]

theorem nearer_asymm {c : Nat} {a b : Track} (h : nearer c a b = true) : ¬ nearer c b a = true := by
  rw [nearer_iff] at *
  omega

theorem nearest_mem {c : Nat} {ts : List Track} {t : Track} (h : nearest c ts = some t) : t ∈ ts := by
  induction ts generalizing t with
  | nil => cases h
  | cons y r ih =>
    unfold nearest at h
    split at h
    · cases h
      exact List.mem_cons_self
    · split at h
      · cases h
        exact List.mem_cons_of_mem _ (ih ‹_›)
      · cases h
        exact List.mem_cons_self

/-- The track nearer than every other is the one found. -/
theorem nearest_eq {c : Nat} {ts : List Track} {t : Track} (ht : t ∈ ts) (hids : (ts.map Track.id).Nodup)
    (h : ∀ u ∈ ts, u.id ≠ t.id → nearer c t u = true) : nearest c ts = some t := by
  induction ts with
  | nil => simp at ht
  | cons x r ih =>
    rw [List.map_cons, List.nodup_cons] at hids
    rw [nearest]
    rcases List.mem_cons.1 ht with rfl | hr
    · cases hrest : nearest c r with
      | none => rfl
      | some u =>
        have hu := nearest_mem hrest
        have hne : u.id ≠ t.id := fun he => hids.1 (he ▸ List.mem_map_of_mem hu)
        exact if_neg (nearer_asymm (h u (List.mem_cons_of_mem _ hu) hne))
    · have hne : x.id ≠ t.id := fun he => hids.1 (he ▸ List.mem_map_of_mem hr)
      rw [ih hr hids.2 fun u hu => h u (List.mem_cons_of_mem _ hu)]
      exact if_pos (h x List.mem_cons_self hne)

theorem associate_nil (w : Nat) (free : List Track) : associate w free [] = ([], []) := by
  cases free <;> rfl

theorem associate_follows (w : Nat) (free : List Track) (hids : (free.map Track.id).Nodup) :
    associate w free [] = ([], [])
    ∧ ∀ (c : Candidate) (cs : List Candidate),
      ((∀ t ∈ free, w < Machine.dist t.base c.base) →
        associate w free (c :: cs) = ((associate w free cs).1, c :: (associate w free cs).2))
      ∧ ∀ t ∈ free, Machine.dist t.base c.base ≤ w →
        (∀ u ∈ free, u.id ≠ t.id → Machine.dist u.base c.base ≤ w →
          Machine.dist t.base c.base < Machine.dist u.base c.base
            ∨ Machine.dist t.base c.base = Machine.dist u.base c.base
              ∧ (t.base < u.base ∨ t.base = u.base ∧ t.id < u.id)) →
        let rest := associate w (free.filter fun u => u.id ≠ t.id) cs
        associate w free (c :: cs) = ((t.id, c) :: rest.1, rest.2) := by
  refine ⟨associate_nil w free, fun c cs => ⟨fun hfar => ?_, fun t ht hnear hbest => ?_⟩⟩
  · have hnone : (free.filter fun t => Machine.dist t.base c.base ≤ w) = [] :=
      List.filter_eq_nil_iff.2 fun t ht => by simpa using hfar t ht
    rw [associate, hnone]
    rfl
  · have hfound : nearest c.base (free.filter fun t => Machine.dist t.base c.base ≤ w) = some t := by
      refine nearest_eq (List.mem_filter.2 ⟨ht, decide_eq_true hnear⟩) (hids.sublist (List.filter_sublist.map _)) ?_
      intro u hu hne
      obtain ⟨hu, hclose⟩ := List.mem_filter.1 hu
      exact (nearer_iff _ _ _).2 (hbest u hu hne (of_decide_eq_true hclose))
    rw [associate, hfound]

/-- The tracks associated are distinct, and free tracks. -/
theorem associate_ids (w : Nat) (free : List Track) (cs : List Candidate) :
    ((associate w free cs).1.map Prod.fst).Nodup ∧ (associate w free cs).1.map Prod.fst ⊆ free.map Track.id := by
  induction cs generalizing free with
  | nil =>
    rw [associate_nil]
    exact ⟨List.nodup_nil, List.nil_subset _⟩
  | cons c cs ih =>
    rw [associate]
    cases hn : nearest c.base (free.filter fun t => Machine.dist t.base c.base ≤ w) with
    | none => exact ih free
    | some t =>
      obtain ⟨hnodup, hsub⟩ := ih (free.filter fun u => u.id ≠ t.id)
      have hfree : (free.filter fun u => u.id ≠ t.id).map Track.id ⊆ free.map Track.id :=
        List.map_subset _ List.filter_sublist.subset
      have ht : t.id ∈ free.map Track.id := List.mem_map_of_mem (List.mem_filter.1 (nearest_mem hn)).1
      refine ⟨?_, ?_⟩
      · rw [List.map_cons, List.nodup_cons]
        refine ⟨fun hmem => ?_, hnodup⟩
        obtain ⟨u, hu, hid⟩ := List.mem_map.1 (hsub hmem)
        exact of_decide_eq_true (List.mem_filter.1 hu).2 hid
      · rw [List.map_cons]
        exact List.cons_subset.2 ⟨ht, fun x hx => hfree (hsub hx)⟩

/-! ### Creation and displacement (R114, R124, R125) -/

theorem Track.hits_eq (t : Track) : t.hits = t.history.count true := by
  rw [Track.hits, List.count_eq_length_filter]
  congr 2

theorem Track.histMisses_eq (t : Track) : t.histMisses = t.history.count false := by
  rw [Track.histMisses, List.count_eq_length_filter]
  congr 2

theorem Track.eligible_iff (t : Track) (touched : List Nat) : t.eligible touched = true
    ↔ t.state = .tentative ∧ t.id ∉ touched ∧ t.history.count true = 1 := by
  rw [Track.eligible, t.hits_eq]
  simp [and_assoc]

/-- The eligible track above every other is the one displaced. -/
theorem highestOf_eq {ts : List Track} {u : Track} (hu : u ∈ ts) (hids : (ts.map Track.id).Nodup)
    (h : ∀ t ∈ ts, t.id ≠ u.id → t.base < u.base ∨ t.base = u.base ∧ t.id < u.id) : highestOf ts = some u := by
  induction ts with
  | nil => simp at hu
  | cons x r ih =>
    rw [List.map_cons, List.nodup_cons] at hids
    rw [highestOf]
    rcases List.mem_cons.1 hu with rfl | hr
    · cases hrest : highestOf r with
      | none => rfl
      | some v =>
        have hv := highestOf_mem hrest
        have hne : v.id ≠ u.id := fun he => hids.1 (he ▸ List.mem_map_of_mem hv)
        have hbelow := h v (List.mem_cons_of_mem _ hv) hne
        refine if_neg ?_
        simp only [Bool.or_eq_true, Bool.and_eq_true, decide_eq_true_iff]
        omega
    · have hne : x.id ≠ u.id := fun he => hids.1 (he ▸ List.mem_map_of_mem hr)
      rw [ih hr hids.2 fun t ht => h t (List.mem_cons_of_mem _ ht)]
      refine if_pos ?_
      simpa using h x List.mem_cons_self hne

theorem take_follows (q : TrackParams) (d : Detection) (x : Creation) (c : Candidate)
    (hids : (x.tracks.map Track.id).Nodup) (hlen : x.tracks.length ≤ 10) (hlo : 1 ≤ x.nextId) (hhi : x.nextId ≤ 255) :
    let after (y : Creation) (n : Nat) : Nat := (y.nextId - 1 + n) % 255 + 1
    let makes (y z : Creation) : Prop := ∃ n, (∀ m, m < n → after y m ∈ y.tracks.map Track.id)
      ∧ after y n ∉ y.tracks.map Track.id
      ∧ z = { y with
          tracks := y.tracks ++ [⟨after y n, if q.confirm = 1 then .confirmed else .tentative, c.base, c.top,
            c.peak, [true], 0, 1, 0, progSet d.prog, d.test⟩]
          nextId := after y (n + 1)
          touched := after y n :: y.touched
          created := y.created + 1 }
    let eligible (t : Track) : Prop :=
      t.state = .tentative ∧ t.id ∉ x.touched ∧ t.history.count true = 1
    (x.tracks.length < 10 → makes x (x.take q d c))
    ∧ (x.tracks.length = 10 → ∀ u ∈ x.tracks, eligible u →
      (∀ t ∈ x.tracks, eligible t → t.id ≠ u.id → t.base < u.base ∨ t.base = u.base ∧ t.id < u.id) →
      makes { x with
        tracks := x.tracks.filter fun t => t.id ≠ u.id, displaced := x.displaced + 1 } (x.take q d c))
    ∧ (x.tracks.length = 10 → (∀ u ∈ x.tracks, ¬ eligible u) →
      x.take q d c = { x with discarded := x.discarded + 1 }) := by
  intro after makes eligible
  refine ⟨fun hroom => ?_, fun hfull u hu hel hbest => ?_, fun hfull hnone => ?_⟩
  · have htake : x.take q d c = x.create q d c := if_pos hroom
    rw [htake]
    exact x.create_spec q d c hlen hlo hhi
  · have hhighest : highestOf (x.tracks.filter fun t => t.eligible x.touched) = some u := by
      refine highestOf_eq (List.mem_filter.2 ⟨hu, (Track.eligible_iff _ _).2 hel⟩)
        (hids.sublist (List.filter_sublist.map _)) fun t ht hne => ?_
      obtain ⟨ht, helt⟩ := List.mem_filter.1 ht
      exact hbest t ht ((Track.eligible_iff _ _).1 helt) hne
    let y : Creation := { x with tracks := x.tracks.filter fun t => t.id ≠ u.id, displaced := x.displaced + 1 }
    have htake : x.take q d c = y.create q d c := by
      rw [Creation.take, if_neg (show ¬ x.tracks.length < Config.trackMax by rw [hfull]; decide), hhighest]
    rw [htake]
    exact y.create_spec q d c ((List.length_filter_le _ _).trans hlen) hlo hhi
  · have hempty : x.tracks.filter (fun t => t.eligible x.touched) = [] :=
      List.filter_eq_nil_iff.2 fun t ht hel => hnone t ht ((Track.eligible_iff _ _).1 hel)
    rw [Creation.take, if_neg (show ¬ x.tracks.length < Config.trackMax by rw [hfull]; decide), hempty]
    rfl

/-! ### Merging (R126) -/

theorem upperSurvives_iff (a b : Track) : upperSurvives a b = true
    ↔ a.history.count true < b.history.count true
      ∨ a.history.count true = b.history.count true ∧ a.state = .tentative ∧ b.state ≠ .tentative := by
  rw [upperSurvives, a.hits_eq, b.hits_eq]
  simp [and_assoc]

theorem merge_follows (dm : Nat) (a b : Track) (ts : List Track) :
    let upper : Prop := a.history.count true < b.history.count true
      ∨ a.history.count true = b.history.count true ∧ a.state = .tentative ∧ b.state ≠ .tentative
    (sortTracks ts).Perm ts
    ∧ (sortTracks ts).Pairwise (fun t u => t.base < u.base ∨ t.base = u.base ∧ t.id ≤ u.id)
    ∧ mergeAll dm [] = [] ∧ (∀ t r, sortTracks ts = t :: r → mergeAll dm ts = mergeUp dm t r)
    ∧ mergeUp dm a [] = [a]
    ∧ (dm < Machine.dist a.base b.base → mergeUp dm a (b :: ts) = a :: mergeUp dm b ts)
    ∧ (Machine.dist a.base b.base ≤ dm → upper → mergeUp dm a (b :: ts)
        = mergeUp dm { b with sources := a.sources ||| b.sources, test := a.test || b.test } ts)
    ∧ (Machine.dist a.base b.base ≤ dm → ¬ upper → mergeUp dm a (b :: ts)
        = mergeUp dm { a with sources := a.sources ||| b.sources, test := a.test || b.test } ts) := by
  intro upper
  refine ⟨sortTracks_perm ts, (sortTracks_pairwise ts).imp (Track.le_iff _ _).1, rfl, fun t r hsort => ?_, rfl,
    fun hfar => ?_, fun hnear hup => ?_, fun hnear hup => ?_⟩
  · rw [mergeAll, hsort]
  · exact if_neg (Nat.not_le.2 hfar)
  · have hsurvivor : survivor a b = { b with sources := a.sources ||| b.sources, test := a.test || b.test } := by
      rw [survivor, if_pos ((upperSurvives_iff a b).2 hup)]
    rw [mergeUp, if_pos hnear, hsurvivor]
  · have hsurvivor : survivor a b = { a with sources := a.sources ||| b.sources, test := a.test || b.test } := by
      rw [survivor, if_neg fun h => hup ((upperSurvives_iff a b).1 h)]
    rw [mergeUp, if_pos hnear, hsurvivor]

/-! ### Hits and misses (R120 to R123) -/

/-- A track hit by its candidate (R120, R121). -/
theorem Track.hit_eq (t : Track) (q : TrackParams) (d : Detection) (c : Candidate) : (t.hitBy q d c).afterHit q
    = { t with
        base := ((t.base : Int) + roundDiv (((c.base : Int) - t.base) * q.smooth) 8).toNat
        top := c.top
        peak := c.peak
        history := (true :: t.history).take q.histLen
        misses := 0
        totalHits := min (t.totalHits + 1) 65535
        sources := t.sources ||| progSet d.prog
        test := t.test || d.test
        state := if t.state = .tentative ∧ ((true :: t.history).take q.histLen).count true < q.confirm then .tentative
          else .confirmed } := by
  have hhits : (t.hitBy q d c).hits = ((true :: t.history).take q.histLen).count true := Track.hits_eq _
  have htotal := satInc_eq 65535 t.totalHits
  unfold Track.afterHit
  rw [hhits]
  cases hstate : t.state with
  | tentative =>
    rw [show (t.hitBy q d c).state = .tentative from hstate]
    dsimp only
    by_cases hconfirm : q.confirm ≤ ((true :: t.history).take q.histLen).count true
    · rw [if_pos hconfirm, if_neg fun h => absurd h.2 (Nat.not_lt.2 hconfirm)]
      simp only [Track.hitBy, smoothed, htotal]
    · rw [if_neg hconfirm, if_pos ⟨rfl, Nat.not_le.1 hconfirm⟩]
      simp only [Track.hitBy, smoothed, htotal, hstate]
  | confirmed =>
    rw [show (t.hitBy q d c).state = .confirmed from hstate]
    simp only [Track.hitBy, smoothed, htotal, reduceCtorEq, false_and, if_false]
  | coasting =>
    rw [show (t.hitBy q d c).state = .coasting from hstate]
    simp only [Track.hitBy, smoothed, htotal, reduceCtorEq, false_and, if_false]

/-- A track missed (R122, R123). -/
theorem Track.miss_eq (t : Track) (q : TrackParams) : (t.missed q).afterMiss q
    = (let history := (false :: t.history).take q.histLen
       let misses := min (t.misses + 1) 15
       if t.state = .tentative then
         if q.histLen - q.confirm < history.count false then none
         else some { t with history := history, misses := misses }
       else if q.loss ≤ misses then none
       else some { t with history := history, misses := misses, state := .coasting }) := by
  have hmisses : (t.missed q).histMisses = ((false :: t.history).take q.histLen).count false := Track.histMisses_eq _
  have hcount := satInc_eq 15 t.misses
  unfold Track.afterMiss
  rw [hmisses]
  cases hstate : t.state with
  | tentative =>
    rw [show (t.missed q).state = .tentative from hstate]
    simp only [Track.missed, hcount, if_true, hstate]
  | confirmed =>
    rw [show (t.missed q).state = .confirmed from hstate]
    simp only [Track.missed, hcount, reduceCtorEq, if_false]
  | coasting =>
    rw [show (t.missed q).state = .coasting from hstate]
    simp only [Track.missed, hcount, reduceCtorEq, if_false]

/-- What steps 3 and 4 make of one track (R120 to R123). -/
def Track.fate (t : Track) (q : TrackParams) (d : Detection) (pairs : List (Nat × Candidate)) : Option Track :=
  match candOf pairs t with
  | some c => some ((t.hitBy q d c).afterHit q)
  | none => if d.misses pairs t then (t.missed q).afterMiss q else some t

/-- What step 3 makes of one track (R120, R121). -/
def Track.afterStep3 (t : Track) (q : TrackParams) (d : Detection) (pairs : List (Nat × Candidate)) : Track :=
  match candOf pairs t with
  | some c => (t.hitBy q d c).afterHit q
  | none => t

theorem candOf_of_id {pairs : List (Nat × Candidate)} {t u : Track} (h : t.id = u.id) :
    candOf pairs t = candOf pairs u := by rw [candOf, candOf, h]

/-- A track hit is not missed, and stays. -/
theorem Track.afterStep3_of_hit {t : Track} {q : TrackParams} {d : Detection} {pairs : List (Nat × Candidate)}
    {c : Candidate} (h : candOf pairs t = some c) : t.afterStep3 q d pairs = (t.hitBy q d c).afterHit q
      ∧ d.misses pairs (t.afterStep3 q d pairs) = false ∧ d.misses pairs t = false
      ∧ t.fate q d pairs = some ((t.hitBy q d c).afterHit q) := by
  have hstep : t.afterStep3 q d pairs = (t.hitBy q d c).afterHit q := by rw [Track.afterStep3, h]
  have hcand : candOf pairs (t.afterStep3 q d pairs) = some c := by
    rw [hstep, candOf_of_id (t.hitBy_id q d c), h]
  refine ⟨hstep, ?_, ?_, ?_⟩
  · rw [Detection.misses, hcand, Option.isNone_some, Bool.and_false]
  · rw [Detection.misses, h, Option.isNone_some, Bool.and_false]
  · rw [Track.fate, h]

theorem Track.afterStep3_of_unhit {t : Track} {q : TrackParams} {d : Detection} {pairs : List (Nat × Candidate)}
    (h : candOf pairs t = none) : t.afterStep3 q d pairs = t
      ∧ t.fate q d pairs = if d.misses pairs t then (t.missed q).afterMiss q else some t := by
  refine ⟨?_, ?_⟩
  · rw [Track.afterStep3, h]
  · rw [Track.fate, h]

theorem hitAll_eq (q : TrackParams) (d : Detection) (pairs : List (Nat × Candidate)) (ts : List Track) :
    hitAll q d pairs ts = ts.map fun t => t.afterStep3 q d pairs := rfl

/-- The table behind step 4 is what each track has become. -/
theorem missAll_hitAll (q : TrackParams) (d : Detection) (pairs : List (Nat × Candidate)) (ts : List Track) :
    missAll q d pairs (hitAll q d pairs ts) = ts.filterMap fun t => t.fate q d pairs := by
  rw [missAll, hitAll_eq, List.filterMap_map]
  congr 1
  funext t
  rw [Function.comp_apply]
  cases hcand : candOf pairs t with
  | some c =>
    obtain ⟨hstep, hmiss, -, hfate⟩ := Track.afterStep3_of_hit (q := q) (d := d) hcand
    rw [hmiss, if_neg Bool.false_ne_true, hfate, hstep]
  | none =>
    obtain ⟨hstep, hfate⟩ := Track.afterStep3_of_unhit (q := q) (d := d) hcand
    rw [hstep, hfate]

/-! ### What an update counts (R133) -/

/-- A property of the tracks behind step 3 counted over the tracks before it. -/
theorem countTracks_hitAll (q : TrackParams) (d : Detection) (pairs : List (Nat × Candidate)) (ts : List Track)
    {f g : Track → Bool} (h : ∀ t, f (t.afterStep3 q d pairs) = g t) :
    countTracks f (hitAll q d pairs ts) = (ts.filter g).length := by
  rw [countTracks, hitAll_eq, List.filter_map, List.length_map]
  congr 2
  funext t
  exact h t

theorem Track.misses_afterStep3 (t : Track) (q : TrackParams) (d : Detection) (pairs : List (Nat × Candidate)) :
    d.misses pairs (t.afterStep3 q d pairs) = d.misses pairs t := by
  cases hcand : candOf pairs t with
  | some c =>
    obtain ⟨-, hafter, hbefore, -⟩ := Track.afterStep3_of_hit (q := q) (d := d) hcand
    rw [hafter, hbefore]
  | none => rw [(Track.afterStep3_of_unhit (q := q) (d := d) hcand).1]

/-- A track is removed by its miss exactly where nothing is left of it. -/
theorem Track.removedBy_iff (t : Track) (q : TrackParams) (d : Detection) (pairs : List (Nat × Candidate)) (r : Track → Bool) :
    ((t.afterStep3 q d pairs).removedBy q d pairs && r (t.afterStep3 q d pairs)) = (r t && (t.fate q d pairs).isNone) := by
  cases hcand : candOf pairs t with
  | some c =>
    obtain ⟨-, hmiss, -, hfate⟩ := Track.afterStep3_of_hit (q := q) (d := d) hcand
    rw [Track.removedBy, hmiss, hfate, Option.isNone_some, Bool.and_false, Bool.false_and, Bool.false_and]
  | none =>
    obtain ⟨hstep, hfate⟩ := Track.afterStep3_of_unhit (q := q) (d := d) hcand
    rw [hstep, hfate, Track.removedBy, Bool.and_comm]
    congr 1
    cases d.misses pairs t with
    | true => rw [Bool.true_and, if_pos rfl]
    | false => rw [Bool.false_and, if_neg Bool.false_ne_true, Option.isNone_some]

/-- A miss confirms no track. -/
theorem Track.miss_keeps_tentative {t u : Track} {q : TrackParams} (ht : t.state = .tentative)
    (h : (t.missed q).afterMiss q = some u) : u.state = .tentative := by
  rw [t.miss_eq, if_pos ht] at h
  by_cases hgone : q.histLen - q.confirm < ((false :: t.history).take q.histLen).count false
  · rw [if_pos hgone] at h
    cases h
  · rw [if_neg hgone] at h
    cases h
    exact ht

theorem Track.confirmedBy_eq (t : Track) (q : TrackParams) (d : Detection) (pairs : List (Nat × Candidate)) :
    t.confirmedBy q d pairs
      = (decide (t.state = .tentative) && (t.fate q d pairs).any fun v => decide (v.state = .confirmed)) := by
  rw [Track.confirmedBy]
  cases hcand : candOf pairs t with
  | some c =>
    rw [(Track.afterStep3_of_hit (q := q) (d := d) hcand).2.2.2]
    rfl
  | none =>
    rw [(Track.afterStep3_of_unhit (q := q) (d := d) hcand).2]
    by_cases ht : t.state = .tentative
    · have hstays : ∀ u, (if d.misses pairs t then (t.missed q).afterMiss q else some t) = some u →
          u.state = .tentative := by
        intro u hu
        split at hu
        · exact Track.miss_keeps_tentative ht hu
        · cases hu
          exact ht
      cases hfate : (if d.misses pairs t then (t.missed q).afterMiss q else some t) with
      | none => simp
      | some u => simp [hstays u hfate]
    · simp [ht]

theorem candOf_isSome_iff (pairs : List (Nat × Candidate)) (t : Track) :
    (candOf pairs t).isSome = true ↔ t.id ∈ pairs.map Prod.fst := by
  rw [candOf, Option.isSome_map, List.find?_isSome, List.mem_map]
  constructor
  · rintro ⟨x, hx, hid⟩
    exact ⟨x, hx, of_decide_eq_true hid⟩
  · rintro ⟨x, hx, hid⟩
    exact ⟨x, hx, decide_eq_true hid⟩

/-- Every pair is one track's hit. -/
theorem countTracks_hit {pairs : List (Nat × Candidate)} {ts : List Track} (hids : (ts.map Track.id).Nodup)
    (hpairs : (pairs.map Prod.fst).Nodup) (hsub : pairs.map Prod.fst ⊆ ts.map Track.id) :
    countTracks (fun t => (candOf pairs t).isSome) ts = pairs.length := by
  have hperm : ((ts.filter fun t => (candOf pairs t).isSome).map Track.id).Perm (pairs.map Prod.fst) := by
    refine (List.perm_ext_iff_of_nodup (hids.sublist (List.filter_sublist.map _)) hpairs).2 fun i => ?_
    rw [List.mem_map]
    constructor
    · rintro ⟨t, ht, rfl⟩
      exact (candOf_isSome_iff pairs t).1 (List.mem_filter.1 ht).2
    · intro hi
      obtain ⟨t, ht, rfl⟩ := List.mem_map.1 (hsub hi)
      exact ⟨t, List.mem_filter.2 ⟨ht, (candOf_isSome_iff pairs t).2 hi⟩, rfl⟩
  have hlen := hperm.length_eq
  rwa [List.length_map, List.length_map] at hlen

theorem Detection.observes_iff {d : Detection} (h : d.obscured = true → d.vv.isSome = true) (t : Track) :
    d.observes t = true ↔ d.covLo ≤ t.base ∧ t.base ≤ d.covHi
      ∧ (d.obscured = true → ∃ v, d.vv = some v ∧ t.base ≤ v) := by
  rw [Detection.observes, Bool.and_eq_true, Bool.and_eq_true, decide_eq_true_iff, decide_eq_true_iff, and_assoc,
    Bool.or_eq_true, Bool.not_eq_true', decide_eq_true_iff]
  refine and_congr_right fun _ => and_congr_right fun _ => ?_
  cases hobs : d.obscured with
  | false => simp
  | true =>
    obtain ⟨v, hv⟩ := Option.isSome_iff_exists.1 (h hobs)
    simp [hv]

theorem update_follows (k : Ltu) (d : Detection) (hids : (k.tracks.map Track.id).Nodup)
    (hvv : d.obscured = true → d.vv.isSome = true) :
    let q := k.params
    let u := k.update d
    let a := associate q.assocWin (k.tracks.filter d.observes) d.cands
    let candidate (t : Track) : Option Candidate := (a.1.find? fun x => x.1 = t.id).map Prod.snd
    let missed (t : Track) : Bool := !d.hitsOnly && d.observes t && (candidate t).isNone
    let fate (t : Track) : Option Track :=
      match candidate t with
      | some c =>
        let history := (true :: t.history).take q.histLen
        some { t with
          base := ((t.base : Int) + roundDiv (((c.base : Int) - t.base) * q.smooth) 8).toNat
          top := c.top
          peak := c.peak
          history := history
          misses := 0
          totalHits := min (t.totalHits + 1) 65535
          sources := t.sources ||| progSet d.prog
          test := t.test || d.test
          state := if t.state = .tentative ∧ history.count true < q.confirm then .tentative else .confirmed }
      | none =>
        if missed t then
          let history := (false :: t.history).take q.histLen
          let misses := min (t.misses + 1) 15
          if t.state = .tentative then
            if q.histLen - q.confirm < history.count false then none
            else some { t with history := history, misses := misses }
          else if q.loss ≤ misses then none
          else some { t with history := history, misses := misses, state := .coasting }
        else some t
    let x : Creation := a.2.foldl (fun y c => Creation.take y q d c)
      ⟨k.tracks.filterMap fate, k.nextId, a.1.map Prod.fst, 0, 0, 0⟩
    (∀ t, d.observes t = true ↔ d.covLo ≤ t.base ∧ t.base ≤ d.covHi
        ∧ (d.obscured = true → ∃ v, d.vv = some v ∧ t.base ≤ v))
      ∧ u.ltu = { k with
          tracks := (mergeAll q.mergeDist x.tracks).map fun t => { t with age := min (t.age + 1) 65535 }
          nextId := x.nextId }
      ∧ u.hits = a.1.length ∧ u.misses = (k.tracks.filter missed).length
      ∧ u.confirmed = (k.tracks.filter fun t => t.state = .tentative
          && (fate t).any fun v => v.state = .confirmed).length
      ∧ u.recovered = (k.tracks.filter fun t => t.state = .coasting && (candidate t).isSome).length
      ∧ u.lost = (k.tracks.filter fun t => t.state ≠ .tentative && (fate t).isNone).length
      ∧ u.dropped = (k.tracks.filter fun t => t.state = .tentative && (fate t).isNone).length
      ∧ u.created = x.created ∧ u.createdConfirmed = (if q.confirm = 1 then x.created else 0)
      ∧ u.displaced = x.displaced ∧ u.discarded = x.discarded
      ∧ u.merged = x.tracks.length - (mergeAll q.mergeDist x.tracks).length := by
  intro q u a candidate missed fate x
  have hfate : fate = fun t => t.fate q d a.1 := by
    funext t
    show fate t = Track.fate t q d a.1
    rw [Track.fate, show candOf a.1 t = candidate t from rfl]
    cases hcand : candidate t with
    | some c =>
      simp only [fate, hcand]
      exact congrArg some (t.hit_eq q d c).symm
    | none =>
      simp only [fate, hcand, t.miss_eq]
      rfl
  have hx : x = k.created d := by
    simp only [x, hfate]
    rw [Ltu.created, missAll_hitAll]
  obtain ⟨hpairs, hsub⟩ := associate_ids q.assocWin (k.tracks.filter d.observes) d.cands
  have holder : Track.older = fun t => { t with age := min (t.age + 1) 65535 } := by
    funext t
    rw [Track.older, satInc_eq]
  have hcreated : x.created = u.created ∧ x.displaced = u.displaced ∧ x.discarded = u.discarded
      ∧ u.merged = x.tracks.length - (mergeAll q.mergeDist x.tracks).length := by
    rw [hx]
    exact ⟨rfl, rfl, rfl, rfl⟩
  obtain ⟨hmade, hdisplaced, hdiscarded, hmerged⟩ := hcreated
  refine ⟨Detection.observes_iff hvv, ?_, ?_, ?_, ?_, ?_, ?_, ?_, hmade.symm, ?_, hdisplaced.symm, hdiscarded.symm,
    hmerged⟩
  · rw [hx, ← holder]
    exact k.update_ltu d
  · exact countTracks_hit hids hpairs fun i hi => List.map_subset _ List.filter_sublist.subset (hsub hi)
  · exact countTracks_hitAll q d a.1 k.tracks fun t => t.misses_afterStep3 q d a.1
  · rw [hfate]
    exact congrArg List.length (List.filter_congr fun t _ => t.confirmedBy_eq q d a.1)
  · exact congrArg List.length (List.filter_congr fun t _ => Bool.and_comm _ _)
  · rw [hfate]
    exact countTracks_hitAll q d a.1 k.tracks fun t => t.removedBy_iff q d a.1 fun t => decide (t.state ≠ .tentative)
  · rw [hfate]
    exact countTracks_hitAll q d a.1 k.tracks fun t => t.removedBy_iff q d a.1 fun t => decide (t.state = .tentative)
  · rw [hmade]
    rfl

end Sys2Proof.Machine
end

section
/-! PROOFS. A completed detection: the frame decision, the tracking update and the evaluation behind it (R93,
R104, R106 to R108, R117, R133, R136, R144). -/

namespace Sys2Proof.Machine

/-! ### The frame decision (R106 to R108, R144) -/

theorem dividerDue_spec (n c : Nat) : ((dividerDue n c).1 = true ↔ n ≠ 0 ∧ n ≤ c + 1)
    ∧ (dividerDue n c).2 = if n = 0 then c else if n ≤ c + 1 then 0 else c + 1 := by
  unfold dividerDue
  by_cases hzero : n = 0
  · simp [hzero]
  · by_cases hdue : n ≤ c + 1 <;> simp [hzero, hdue]

/-- The part with the frame count of a profile's program advanced (R106). -/
def State.framed (s : State) (r : ResultRec) : State :=
  s.withLdu { s.ldu with
    frameCount := s.ldu.frameCount.set r.prog (dividerDue r.copy.divider s.ldu.frameCount[r.prog]).2 }

/-- A frame that is due, counted before its offer (R106 to R108). -/
def State.frameDue (s : State) (r : ResultRec) : State :=
  ((s.framed r).bump Ctr.profileFramesOffered).bumpIf (s.sku.requested r.prog) Ctr.captureFramesOffered

theorem State.frameStep_of_not_due {s : State} {r : ResultRec}
    (hdue : ¬ (dividerDue r.copy.divider s.ldu.frameCount[r.prog]).1 = true) (hcapture : s.sku.requested r.prog = false)
    (c : Conditioned) (o : Bool) : s.frameStep r c o = s.framed r := by
  refine if_neg ?_
  rw [hcapture, Bool.or_false]
  exact hdue

theorem State.frameStep_of_capture {s : State} {r : ResultRec} (hcapture : s.sku.requested r.prog = true)
    (c : Conditioned) (o : Bool) : s.frameStep r c o
      = ((s.frameDue r).offer .profile (profilePayload r c true o)).1.captureOutcome r.prog
          ((s.frameDue r).offer .profile (profilePayload r c true o)).2 := by
  unfold State.frameStep State.frameDue
  rw [hcapture]
  simp only [Bool.or_true, if_true]
  rfl

theorem State.frameStep_of_due {s : State} {r : ResultRec}
    (hdue : (dividerDue r.copy.divider s.ldu.frameCount[r.prog]).1 = true) (hcapture : s.sku.requested r.prog = false)
    (c : Conditioned) (o : Bool) :
    s.frameStep r c o = ((s.frameDue r).offer .profile (profilePayload r c false o)).1 := by
  unfold State.frameStep State.frameDue
  rw [hcapture]
  dsimp only
  rw [hdue, Bool.or_false, if_pos rfl, if_neg Bool.false_ne_true]
  rfl

theorem State.frameDue_spec (s : State) (r : ResultRec) :
    s.frameDue r = { s with ldu := (s.framed r).ldu, ctrs := (s.frameDue r).ctrs }
      ∧ counted Ctr.profileFramesOffered s (s.frameDue r)
      ∧ (s.sku.requested r.prog = true → counted Ctr.captureFramesOffered s (s.frameDue r))
      ∧ (s.frameDue r).ctrs[Ctr.captureReposts] = s.ctrs[Ctr.captureReposts] := by
  have hcapture : ctrsKept [Ctr.captureFramesOffered] ((s.framed r).bump Ctr.profileFramesOffered) (s.frameDue r) :=
    ctrsKept_bumpIf _ _ (by decide)
  have hfirst : counted Ctr.profileFramesOffered s ((s.framed r).bump Ctr.profileFramesOffered) :=
    counted_bump (s.framed r) _
  have hkept : ctrsKept [Ctr.profileFramesOffered] s ((s.framed r).bump Ctr.profileFramesOffered) :=
    ctrsKept_bump (s.framed r) (by decide)
  refine ⟨(State.bumpIf_spec _ _ _).2.2, counted_before_kept hfirst hcapture (by decide), fun h => ?_,
    (hcapture _ (by decide)).trans (hkept _ (by decide))⟩
  rw [State.frameDue, h]
  exact counted_after_kept hkept (by decide) (counted_bump _ _)

/-- An offered frame that fits is enqueued (R156). -/
theorem State.offer_of_fits {s : State} (k : FrameKind) {p : List Byte} (h : s.slc.fits p.length = true) :
    (s.offer k p).2 = true := by
  have hoffer := s.link.offer_of_fits k p h
  exact congrArg Prod.snd hoffer

/-- One that does not fit, over QUEUED frames of no lower priority, is dropped (R156). -/
theorem State.offer_of_full {s : State} {k : FrameKind} {p : List Byte} (h : s.slc.fits p.length = false)
    (hq : ∀ g ∈ s.slc.queue, g.level ≤ s.slc.levels.of k) : (s.offer k p).2 = false := by
  have hplace : s.link.place ⟨k, s.slc.levels.of k, 0, p.length, p, 0, .nothing⟩
      = ⟨s.link.bump k.dropCtr, false, true⟩ := by
    have hnone : victim (s.slc.levels.of k) s.slc.queue = none := (victim_eq_none _ _).2 hq
    rw [Link.place, Link.placeLoop, if_neg (show ¬ s.link.slc.fits p.length = true by
      rw [show s.link.slc.fits p.length = s.slc.fits p.length from rfl, h]; decide)]
    simp only [State.link_slc, hnone]
  exact congrArg Placed.enqueued hplace

/-- The frame of an offer that fits is QUEUED or CURRENT (R153, R155). -/
theorem State.offer_keeps {s : State} {k : FrameKind} {p : List Byte} (hk : k ≠ .notice)
    (h : s.slc.fits p.length = true) : ∃ f ∈ (s.offer k p).1.slc.queue ++ (s.offer k p).1.slc.current.toList,
      f.kind = k ∧ f.level = s.slc.levels.of k ∧ f.tag = s.slc.tagCounter ∧ f.payload = p := by
  rw [State.offer_slc, s.link.offer_of_fits k p h]
  let f : Frame := ⟨k, s.slc.levels.of k, s.slc.tagCounter, p.length, p, 0, .nothing⟩
  have hqueued : f ∈ (s.link.enqueue ⟨k, s.slc.levels.of k, 0, p.length, p, 0, .nothing⟩).slc.queue :=
    List.mem_append_right _ (List.mem_singleton_self f)
  exact ⟨f, Link.kick_keeps _ hqueued hk, rfl, rfl, rfl, rfl⟩

theorem Vector.toList_eq_finRange {α : Type} {n : Nat} (v : Vector α n) :
    v.toList = (List.finRange n).map fun i => v[i] := by
  refine List.ext_getElem (by simp) fun i hi hj => ?_
  simp

/-- What a frame's outcome makes of the capture entries (R144). -/
theorem CaptureEntry.served_eq (e : CaptureEntry) (p : Prog) (enqueued : Bool) : e.served p enqueued
    = if e.pending = true ∧ e.prog = p ∧ enqueued = true then
        { e with pending := false, armed := e.armed || Decidable.decide (e.cond = .skyChange ∨ e.cond = .trackNew) }
      else e := by
  have hedge : e.cond.edge = Decidable.decide (e.cond = .skyChange ∨ e.cond = .trackNew) := by
    cases e.cond <;> rfl
  unfold CaptureEntry.served
  by_cases hserved : e.pending = true ∧ e.prog = p
  · cases enqueued <;> simp [hserved, hedge]
  · rw [if_neg hserved, if_neg fun h => hserved ⟨h.1, h.2.1⟩]

/-- What a frame's outcome leaves (R144). -/
theorem State.captureOutcome_spec (s : State) (p : Prog) (enqueued : Bool) :
    (s.captureOutcome p enqueued).slc = s.slc ∧ (s.captureOutcome p enqueued).ldu = s.ldu
      ∧ (s.captureOutcome p enqueued).sku = { s.sku with captures := s.sku.captures.map fun e => e.served p enqueued }
      ∧ ctrsKept [Ctr.captureReposts] s (s.captureOutcome p enqueued) := by
  unfold State.captureOutcome
  dsimp only
  split
  · exact ⟨rfl, rfl, rfl, ctrsKept_refl _ _⟩
  · exact ⟨rfl, rfl, rfl, ctrsKept_bumpBy (s.withSku _) _ (by decide)⟩

/-- A capture frame that was dropped leaves the entries and counts them (R144, R148). -/
theorem State.captureOutcome_dropped (s : State) (p : Prog) : (s.captureOutcome p false).sku = s.sku
    ∧ (s.captureOutcome p false).ctrs[Ctr.captureReposts] = min (s.ctrs[Ctr.captureReposts]
        + ((List.finRange 4).filter fun i =>
            s.sku.captures[i].pending && decide (s.sku.captures[i].prog = p)).length) Config.counterMax := by
  have hsame : (s.sku.captures.map fun e => e.served p false) = s.sku.captures :=
    Vector.map_id'' (fun e => by rw [CaptureEntry.served_eq]; simp) _
  have hlist : (s.sku.captures.toList.filter fun e => e.pending && decide (e.prog = p)).length
      = ((List.finRange 4).filter fun i =>
          s.sku.captures[i].pending && decide (s.sku.captures[i].prog = p)).length := by
    rw [Vector.toList_eq_finRange, List.filter_map, List.length_map]
    rfl
  refine ⟨?_, ?_⟩
  · rw [(s.captureOutcome_spec p false).2.2.1, hsame]
  · rw [← hlist]
    exact Counters.add_get_self s.ctrs _ _

/-- A due frame, offered. -/
def State.frameOffered (s : State) (r : ResultRec) (c : Conditioned) (capture o : Bool) : State :=
  ((s.frameDue r).offer .profile (profilePayload r c capture o)).1

theorem State.frameOffered_spec (s : State) (r : ResultRec) (c : Conditioned) (capture o : Bool) :
    (s.frameOffered r c capture o).ldu = (s.framed r).ldu ∧ (s.frameOffered r c capture o).sku = s.sku
      ∧ counted Ctr.profileFramesOffered s (s.frameOffered r c capture o)
      ∧ (s.sku.requested r.prog = true → counted Ctr.captureFramesOffered s (s.frameOffered r c capture o))
      ∧ (s.frameOffered r c capture o).ctrs[Ctr.captureReposts] = s.ctrs[Ctr.captureReposts] := by
  obtain ⟨hdue, hprofile, hcaptured, hreposts⟩ := s.frameDue_spec r
  have hoffer : ctrsKept raiseCtrs (s.frameDue r) (s.frameOffered r c capture o) := State.offer_ctrsKept _ _ _
  obtain ⟨-, -, -, -, -, hldu, -, hsku, -⟩ := (s.frameDue r).offer_frame .profile (profilePayload r c capture o)
  refine ⟨hldu.trans ?_, hsku.trans ?_, counted_before_kept hprofile hoffer (by decide),
    fun h => counted_before_kept (hcaptured h) hoffer (by decide), (hoffer _ (by decide)).trans hreposts⟩
  · rw [hdue]
  · rw [hdue]

/-- The LDU and the capture entries behind a frame decision, and what it counts (R106 to R108). -/
theorem State.frameStep_spec (s : State) (r : ResultRec) (c : Conditioned) (o : Bool) :
    (s.frameStep r c o).ldu = (s.framed r).ldu
      ∧ (∃ v, (s.frameStep r c o).sku = { s.sku with captures := v })
      ∧ ((dividerDue r.copy.divider s.ldu.frameCount[r.prog]).1 = true ∨ s.sku.requested r.prog = true →
        counted Ctr.profileFramesOffered s (s.frameStep r c o))
      ∧ (s.sku.requested r.prog = true → counted Ctr.captureFramesOffered s (s.frameStep r c o)) := by
  by_cases hcapture : s.sku.requested r.prog = true
  · obtain ⟨hldu, hsku, hprofile, hcaptured, -⟩ := s.frameOffered_spec r c true o
    rw [State.frameStep_of_capture hcapture]
    let u := s.frameOffered r c true o
    obtain ⟨-, hldu2, hsku2, hkept⟩ := u.captureOutcome_spec r.prog
      ((s.frameDue r).offer .profile (profilePayload r c true o)).2
    refine ⟨hldu2.trans hldu, ⟨u.sku.captures.map fun e => e.served r.prog
      ((s.frameDue r).offer .profile (profilePayload r c true o)).2, hsku2.trans ?_⟩,
      fun _ => counted_before_kept hprofile hkept (by decide),
      fun h => counted_before_kept (hcaptured h) hkept (by decide)⟩
    rw [show u.sku = s.sku from hsku]
  · rw [Bool.not_eq_true] at hcapture
    by_cases hdue : (dividerDue r.copy.divider s.ldu.frameCount[r.prog]).1 = true
    · obtain ⟨hldu, hsku, hprofile, hcaptured, -⟩ := s.frameOffered_spec r c false o
      rw [State.frameStep_of_due hdue hcapture]
      exact ⟨hldu, ⟨s.sku.captures, hsku⟩, fun _ => hprofile, hcaptured⟩
    · rw [State.frameStep_of_not_due hdue hcapture]
      refine ⟨rfl, ⟨s.sku.captures, rfl⟩, fun h => (h.elim hdue ?_).elim, fun h => ?_⟩
      · rw [hcapture]
        exact Bool.false_ne_true
      · rw [hcapture] at h
        cases h

theorem frameStep_follows (s : State) (r : ResultRec) (c : Conditioned) (overflow capture : Bool)
    (hreq : capture = true ↔ ∃ i : Fin 4, s.sku.captures[i].pending = true ∧ s.sku.captures[i].prog = r.prog) :
    let byDivider : Prop := r.copy.divider ≠ 0 ∧ r.copy.divider ≤ s.ldu.frameCount[r.prog] + 1
    let nextCount : Vector Nat 4 := s.ldu.frameCount.set r.prog
      (if r.copy.divider = 0 then s.ldu.frameCount[r.prog]
       else if r.copy.divider ≤ s.ldu.frameCount[r.prog] + 1 then 0 else s.ldu.frameCount[r.prog] + 1)
    let t := s.frameStep r c overflow
    let payload := profilePayload r c capture overflow
    t.ldu = { s.ldu with frameCount := nextCount }
    ∧ (¬ byDivider → capture = false → t = { s with ldu := t.ldu })
    ∧ (byDivider ∨ capture = true → counted Ctr.profileFramesOffered s t
      ∧ (capture = true → counted Ctr.captureFramesOffered s t)
      ∧ (s.slc.fits payload.length = true → s.slc.lineSound →
        ∃ f ∈ t.slc.queue ++ t.slc.current.toList, f.kind = .profile ∧ f.level = s.slc.levels.profile
          ∧ f.tag = s.slc.tagCounter ∧ f.payload = payload))
    ∧ (s.slc.fits payload.length = true → ∀ i : Fin 4, t.sku.captures[i] =
        if s.sku.captures[i].pending = true ∧ s.sku.captures[i].prog = r.prog then
          { s.sku.captures[i] with
            pending := false
            armed := s.sku.captures[i].armed
              || decide (s.sku.captures[i].cond = .skyChange ∨ s.sku.captures[i].cond = .trackNew) }
        else s.sku.captures[i])
    ∧ (s.slc.fits payload.length = false → (∀ g ∈ s.slc.queue, g.level ≤ s.slc.levels.profile) →
        capture = true → t.sku = s.sku
        ∧ t.ctrs[Ctr.captureReposts] = min (s.ctrs[Ctr.captureReposts]
            + ((List.finRange 4).filter fun i =>
                s.sku.captures[i].pending && decide (s.sku.captures[i].prog = r.prog)).length)
            Config.counterMax) := by
  intro byDivider nextCount t payload
  obtain ⟨hdueIff, hcount⟩ := dividerDue_spec r.copy.divider s.ldu.frameCount[r.prog]
  obtain ⟨hldu, -, hprofile, hcaptured⟩ := s.frameStep_spec r c overflow
  have hrequested : s.sku.requested r.prog = capture := by
    rw [Bool.eq_iff_iff, hreq]
    exact Sku.requested_iff _ _
  have hdueSlc : (s.frameDue r).slc = s.slc := by rw [(s.frameDue_spec r).1]
  have hdueSku : (s.frameDue r).sku = s.sku := by rw [(s.frameDue_spec r).1]
  refine ⟨?_, fun hdue hcap => ?_, fun hwhich => ⟨hprofile ?_, fun hcap => hcaptured (hrequested.trans hcap),
    fun hfits _ => ?_⟩, fun hfits i => ?_, fun hfull hqueue hcap => ?_⟩
  · rw [show t.ldu = _ from hldu, State.framed, hcount]
    rfl
  · have hstep : t = s.framed r := State.frameStep_of_not_due (fun h => hdue (hdueIff.1 h)) (hrequested.trans hcap) c _
    rw [hstep]
    rfl
  · exact hwhich.imp hdueIff.2 fun h => hrequested.trans h
  · have hkeeps := State.offer_keeps (s := s.frameDue r) (k := .profile) (p := payload) (by decide)
      (by rw [hdueSlc]; exact hfits)
    rw [hdueSlc] at hkeeps
    cases hcap : capture with
    | true =>
      have hstep : t.slc = ((s.frameDue r).offer .profile payload).1.slc := by
        rw [show t = _ from State.frameStep_of_capture (hrequested.trans hcap) c overflow,
          (State.captureOutcome_spec _ _ _).1, ← hcap]
      rw [hstep]
      exact hkeeps
    | false =>
      have hdue := hdueIff.2 (hwhich.resolve_right (by rw [hcap]; decide))
      have hstep : t = ((s.frameDue r).offer .profile payload).1 := by
        rw [show payload = profilePayload r c false overflow by rw [← hcap]]
        exact State.frameStep_of_due hdue (hrequested.trans hcap) c overflow
      rw [hstep]
      exact hkeeps
  · cases hcap : capture with
    | true =>
      have hpayload : payload = profilePayload r c true overflow := by rw [← hcap]
      have henq : ((s.frameDue r).offer .profile payload).2 = true := State.offer_of_fits .profile (by rw [hdueSlc]; exact hfits)
      have hstep : t.sku = { s.sku with captures := s.sku.captures.map fun e => e.served r.prog true } := by
        rw [show t = _ from State.frameStep_of_capture (hrequested.trans hcap) c overflow,
          (State.captureOutcome_spec _ _ _).2.2.1, ← hpayload, henq]
        have hsku := (s.frameOffered_spec r c capture overflow).2.1
        rw [State.frameOffered] at hsku
        rw [hsku]
      have hget : t.sku.captures[i] = s.sku.captures[i].served r.prog true := by
        rw [hstep]
        exact Vector.getElem_map _ _
      rw [hget, CaptureEntry.served_eq]
      simp only [and_true]
    | false =>
      have hnone : ¬ (s.sku.captures[i].pending = true ∧ s.sku.captures[i].prog = r.prog) := fun h => by
        rw [hreq.2 ⟨i, h⟩] at hcap
        cases hcap
      have hsku : t.sku = s.sku := by
        by_cases hdue : (dividerDue r.copy.divider s.ldu.frameCount[r.prog]).1 = true
        · rw [show t = _ from State.frameStep_of_due hdue (hrequested.trans hcap) c overflow]
          exact (s.frameOffered_spec r c false overflow).2.1
        · rw [show t = _ from State.frameStep_of_not_due hdue (hrequested.trans hcap) c overflow]
          rfl
      rw [hsku, if_neg hnone]
  · have hpayload : payload = profilePayload r c true overflow := by rw [← hcap]
    have henq : ((s.frameDue r).offer .profile payload).2 = false :=
      State.offer_of_full (by rw [hdueSlc]; exact hfull) (by rw [hdueSlc]; exact hqueue)
    obtain ⟨-, hsku, -, -, hreposts⟩ := s.frameOffered_spec r c true overflow
    have hstep : t = (s.frameOffered r c true overflow).captureOutcome r.prog false := by
      rw [show t = _ from State.frameStep_of_capture (hrequested.trans hcap) c overflow, ← hpayload, henq, hpayload]
      rfl
    obtain ⟨hdropped, hcounted⟩ := (s.frameOffered r c true overflow).captureOutcome_dropped r.prog
    rw [hstep, hdropped, hcounted, hsku, hreposts]
    exact ⟨rfl, rfl⟩

end Sys2Proof.Machine
end

section
/-! PROOFS. The completion of a detection from the scan to the sky (R93, R104, R117, R128, R133, R136). -/

namespace Sys2Proof.Machine

/-! ### Counting along a list -/

/-- Several counters increased, one after the other. -/
def State.countEach (s : State) (l : List (Ctr × Nat)) : State := l.foldl (fun t x => t.bumpBy x.1 x.2) s

theorem State.countEach_kept (s : State) (l : List (Ctr × Nat)) : ctrsKept (l.map Prod.fst) s (s.countEach l) := by
  induction l generalizing s with
  | nil => exact ctrsKept_refl _ s
  | cons x l ih =>
    rw [List.map_cons]
    exact ctrsKept_trans (ctrsKept_bumpBy s x.2 List.mem_cons_self)
      (ctrsKept_mono (ih (s.bumpBy x.1 x.2)) fun c hc => List.mem_cons_of_mem _ hc)

/-- Distinct counters are each increased once. -/
theorem State.countEach_get {l : List (Ctr × Nat)} (hl : (l.map Prod.fst).Nodup) (s : State) {x : Ctr × Nat} (hx : x ∈ l) :
    (s.countEach l).ctrs[x.1] = min (s.ctrs[x.1] + x.2) Config.counterMax := by
  induction l generalizing s with
  | nil => simp at hx
  | cons y l ih =>
    rw [List.map_cons, List.nodup_cons] at hl
    rcases List.mem_cons.1 hx with rfl | hx
    · have hkept := (s.bumpBy x.1 x.2).countEach_kept l x.1 hl.1
      exact hkept.trans (Counters.add_get_self s.ctrs _ _)
    · have hne : x.1 ≠ y.1 := fun he => hl.1 (he ▸ List.mem_map_of_mem hx)
      have hkept : (s.bumpBy y.1 y.2).ctrs[x.1] = s.ctrs[x.1] := Counters.add_get_ne s.ctrs _ hne
      have hrest := ih hl.2 (s.bumpBy y.1 y.2) hx
      rw [hkept] at hrest
      exact hrest

/-- What an update counts, counter by counter (R133). -/
def Tracking.counts (u : Tracking) : List (Ctr × Nat) :=
  [(Ctr.trackHits, u.hits), (Ctr.trackMisses, u.misses), (Ctr.tracksCreated, u.created),
    (Ctr.tracksConfirmed, u.confirmed + u.createdConfirmed), (Ctr.tracksRecovered, u.recovered),
    (Ctr.tracksLost, u.lost), (Ctr.tentativeDropped, u.dropped), (Ctr.tracksDisplaced, u.displaced),
    (Ctr.candidatesDiscarded, u.discarded), (Ctr.tracksMerged, u.merged)]

theorem State.countTracking_eq (s : State) (u : Tracking) :
    s.countTracking u = s.countEach ((Ctr.trackUpdates, 1) :: u.counts) := rfl

/-- The counters of an update (R133). -/
def trackCtrs : List Ctr :=
  [Ctr.trackUpdates, Ctr.trackHits, Ctr.trackMisses, Ctr.tracksCreated, Ctr.tracksConfirmed, Ctr.tracksRecovered,
    Ctr.tracksLost, Ctr.tentativeDropped, Ctr.tracksDisplaced, Ctr.candidatesDiscarded, Ctr.tracksMerged]

theorem Tracking.counts_ctrs (u : Tracking) : ((Ctr.trackUpdates, 1) :: u.counts).map Prod.fst = trackCtrs := rfl

theorem State.countTracking_kept (s : State) (u : Tracking) : ctrsKept trackCtrs s (s.countTracking u) := by
  rw [← u.counts_ctrs, s.countTracking_eq]
  exact s.countEach_kept _

theorem State.countTracking_get (s : State) (u : Tracking) {x : Ctr × Nat} (hx : x ∈ (Ctr.trackUpdates, 1) :: u.counts) :
    (s.countTracking u).ctrs[x.1] = min (s.ctrs[x.1] + x.2) Config.counterMax := by
  rw [s.countTracking_eq]
  exact State.countEach_get (by rw [u.counts_ctrs]; decide) s hx

/-! ### The counters of the other parts -/

/-- The counters of a scan (R94, R101, R102). -/
def scanCtrs : List Ctr :=
  [Ctr.profilesDetected, Ctr.candidatesFound, Ctr.candidatesDropped, Ctr.profilesObscured, Ctr.vvAtReach,
    Ctr.candOverflowProfiles] ++ raiseCtrs

theorem State.countScan_kept (s : State) (k : Scan) (f : Found) (atReach : Bool) :
    ctrsKept scanCtrs s (s.countScan k f atReach) ∧ counted Ctr.profilesDetected s (s.countScan k f atReach) := by
  let s1 := s.bump Ctr.profilesDetected
  let s2 := (((s1.bumpBy Ctr.candidatesFound k.cands.length).bumpBy Ctr.candidatesDropped k.drops).bumpIf f.obscured
    Ctr.profilesObscured).bumpIf atReach Ctr.vvAtReach
  have hrest : ctrsKept [Ctr.candidatesFound, Ctr.candidatesDropped, Ctr.profilesObscured, Ctr.vvAtReach] s1 s2 :=
    ctrsKept_trans (ctrsKept_trans (ctrsKept_trans (ctrsKept_bumpBy _ _ (by simp)) (ctrsKept_bumpBy _ _ (by simp)))
      (ctrsKept_bumpIf _ _ (by simp))) (ctrsKept_bumpIf _ _ (by simp))
  have hend : ctrsKept (Ctr.candOverflowProfiles :: raiseCtrs) s2 (s.countScan k f atReach) := by
    unfold State.countScan
    dsimp only
    split
    · exact ctrsKept_trans (ctrsKept_bump _ (by simp)) (ctrsKept_mono (State.raise_ctrsKept _ _) (by simp +contextual))
    · exact ctrsKept_refl _ _
  have hcounted : counted Ctr.profilesDetected s s1 := counted_bump s _
  have hfirst : ctrsKept [Ctr.profilesDetected] s s1 := ctrsKept_bump s (by simp)
  refine ⟨?_, counted_before_kept (counted_before_kept hcounted hrest (by decide)) hend (by decide)⟩
  exact ctrsKept_trans (ctrsKept_mono hfirst (by decide)) (ctrsKept_trans (ctrsKept_mono hrest (by decide))
    (ctrsKept_mono hend (by decide)))

theorem State.raiseTimes_kept (s : State) (k : NoticeKind) (n : Nat) : ctrsKept raiseCtrs s (s.raiseTimes k n) := by
  induction n generalizing s with
  | zero => exact ctrsKept_refl _ s
  | succ n ih => exact ctrsKept_trans (s.raise_ctrsKept k) (ih (s.raise k))

theorem State.raiseTracking_kept (s : State) (u : Tracking) : ctrsKept raiseCtrs s (s.raiseTracking u) :=
  ctrsKept_trans (ctrsKept_trans (ctrsKept_trans (State.raiseTimes_kept _ _ _) (State.raiseTimes_kept _ _ _))
    (State.raiseTimes_kept _ _ _)) (State.raiseTimes_kept _ _ _)

/-- The counters of an evaluation, SKY_EVALUATIONS apart (R148). -/
def skyCtrs : List Ctr :=
  [Ctr.clearSuppressed, Ctr.skyChangeRaises, Ctr.ceilingLowRaises, Ctr.ceilingOkRaises, Ctr.captureTriggers,
    Ctr.layerReportsOffered] ++ raiseCtrs

theorem State.skyStep_kept (s : State) (m : Summary) : ctrsKept skyCtrs s (s.skyStep m) := by
  have hdecided := ctrsKept_mono (ds := skyCtrs) (s.skyDecided_spec m).2.2.2 (by decide)
  by_cases h : skyRaises s.sku.sky (s.sku.decide s.ltu.tracks m).sky s.sku.clearRearm = true
  · rw [State.skyStep_raised h]
    exact ctrsKept_trans hdecided (ctrsKept_trans (ctrsKept_bump _ (by decide))
      (ctrsKept_mono (State.raise_ctrsKept _ _) (by decide)))
  · rw [State.skyStep_silent h]
    exact hdecided

theorem State.ceilingStep_kept (s : State) : ctrsKept skyCtrs s s.ceilingStep := by
  have hraise : ∀ (k : Sku) (c : Ctr) (n : NoticeKind), c ∈ skyCtrs →
      ctrsKept skyCtrs s (((s.withSku k).bump c).raise n) := fun k c n hc =>
    ctrsKept_trans (ctrsKept_bump (s.withSku k) hc) (ctrsKept_mono (State.raise_ctrsKept _ _) (by decide))
  unfold State.ceilingStep
  dsimp only
  split
  · exact hraise _ _ _ (by decide)
  · split
    · exact hraise _ _ _ (by decide)
    · exact ctrsKept_refl _ _

theorem State.reportStep_kept (s : State) (m : Summary) : ctrsKept skyCtrs s (s.reportStep m) := by
  unfold State.reportStep
  split
  · exact ctrsKept_trans (ctrsKept_bump (s.withSku _) (by decide)) (ctrsKept_mono (State.offer_ctrsKept _ _ _) (by decide))
  · exact ctrsKept_refl _ _

theorem State.triggerStep_kept (s : State) (raised confirmed : Bool) :
    ctrsKept skyCtrs s (s.triggerStep raised confirmed) :=
  ctrsKept_bumpBy (s.withSku _) _ (by decide)

theorem State.evaluate_kept (s : State) (m : Summary) : counted Ctr.skyEvaluations s (s.evaluate m)
    ∧ ctrsKept (Ctr.skyEvaluations :: skyCtrs) s (s.evaluate m) := by
  have hsteps : ctrsKept skyCtrs (s.bump Ctr.skyEvaluations) (s.evaluate m) := by
    unfold State.evaluate
    exact ctrsKept_trans (ctrsKept_trans (ctrsKept_trans (State.skyStep_kept _ m) (State.ceilingStep_kept _))
      (State.triggerStep_kept _ _ _)) (State.reportStep_kept _ m)
  refine ⟨counted_before_kept (counted_bump s _) hsteps (by decide), ?_⟩
  exact ctrsKept_trans (ctrsKept_bump s (by decide)) (ctrsKept_mono hsteps (by simp +contextual))

/-! ### The sky that an evaluation leaves -/

theorem State.ceilingStep_sky (s : State) : s.ceilingStep.sku.sky = s.sku.sky
    ∧ s.ceilingStep.sku.lastVv = s.sku.lastVv ∧ s.ceilingStep.sku.hold = s.sku.hold := by
  unfold State.ceilingStep
  dsimp only
  split
  · exact ⟨rfl, rfl, rfl⟩
  · split <;> exact ⟨rfl, rfl, rfl⟩

theorem State.reportStep_sky (s : State) (m : Summary) : (s.reportStep m).sku.sky = s.sku.sky
    ∧ (s.reportStep m).sku.lastVv = s.sku.lastVv ∧ (s.reportStep m).sku.hold = s.sku.hold
    ∧ (s.reportStep m).sku.ceiling = s.sku.ceiling := by
  unfold State.reportStep
  split
  · obtain ⟨-, -, -, -, -, -, -, hsku, -⟩ := ((s.withSku { s.sku with reportCount := 0 }).bump
      Ctr.layerReportsOffered).offer_frame .layer (layerPayload s.slc.time s.sku s.ltu.tracks m)
    dsimp only
    rw [hsku]
    exact ⟨rfl, rfl, rfl, rfl⟩
  · exact ⟨rfl, rfl, rfl, rfl⟩

/-- The sky, the last VV, the hold count and the ceiling behind an evaluation (R137, R140). -/
theorem State.evaluate_sky (s : State) (m : Summary) :
    (s.evaluate m).sku.sky = (s.sku.decide s.ltu.tracks m).sky
      ∧ (s.evaluate m).sku.lastVv = (s.sku.decide s.ltu.tracks m).lastVv
      ∧ (s.evaluate m).sku.hold = (s.sku.decide s.ltu.tracks m).hold
      ∧ (s.evaluate m).sku.ceiling = (s.sku.decide s.ltu.tracks m).ceilingNow s.ltu.tracks := by
  let s1 := (s.bump Ctr.skyEvaluations).skyStep m
  have hsku : s1.sku = { s.sku.decide s.ltu.tracks m with
      clearRearm := rearmAfter s.sku.sky (s.sku.decide s.ltu.tracks m).sky s.sku.clearRearm } :=
    ((s.bump Ctr.skyEvaluations).skyStep_spec m).1.trans ((s.bump Ctr.skyEvaluations).skyDecided_spec m).2.1
  have hltu : s1.ltu = s.ltu := ((s.bump Ctr.skyEvaluations).skyStep_frame m).2.2.2.2.2.2.1
  have hceiling := s1.ceilingStep_ceiling
  obtain ⟨hsky, hvv, hhold⟩ := s1.ceilingStep_sky
  let s3 := s1.ceilingStep.triggerStep (skyRaises s.sku.sky (s.sku.decide s.ltu.tracks m).sky s.sku.clearRearm)
    (1 ≤ m.confirmed)
  obtain ⟨hsky4, hvv4, hhold4, hceiling4⟩ := s3.reportStep_sky m
  rw [hltu, hsku] at hceiling
  refine ⟨hsky4.trans (hsky.trans (by rw [hsku])), hvv4.trans (hvv.trans (by rw [hsku])),
    hhold4.trans (hhold.trans (by rw [hsku])), hceiling4.trans (hceiling.trans rfl)⟩

/-- What R137 decides does not depend on the capture entries. -/
theorem decide_of_captures (k : Sku) (v : Vector CaptureEntry 4) (ts : List Track) (m : Summary) :
    ({ k with captures := v } : Sku).decide ts m = { k.decide ts m with captures := v } := by
  have hreaches : ({ k with captures := v } : Sku).reaches m = k.reaches m := rfl
  unfold Sku.decide
  rw [hreaches]
  (repeat' split) <;> rfl

/-! ### The update and the evaluation on a held line -/

/-- A detection result tracked and evaluated, before the line is let go. -/
def State.trackHeld (s : State) (d : Detection) : State :=
  ((((s.withLink s.link.hold).withLtu (s.ltu.update d).ltu).countTracking (s.ltu.update d)).raiseTracking
    (s.ltu.update d)).evaluate ((s.ltu.update d).summary d)

theorem State.track_eq (s : State) (d : Detection) : s.track d
    = (s.trackHeld d).withLink ((s.trackHeld d).link.release s.slc.phase) := rfl

theorem State.track_sky (s : State) (d : Detection) :
    let u := s.ltu.update d
    let sky := s.sku.decide u.ltu.tracks (u.summary d)
    (s.track d).ltu = u.ltu ∧ (s.track d).sku.sky = sky.sky ∧ (s.track d).sku.lastVv = sky.lastVv
      ∧ (s.track d).sku.hold = sky.hold ∧ (s.track d).sku.ceiling = sky.ceilingNow u.ltu.tracks := by
  intro u sky
  let s2 := ((((s.withLink s.link.hold).withLtu u.ltu).countTracking u).raiseTracking u)
  have hltu : s2.ltu = u.ltu := by simp [s2]
  have hsku : s2.sku = s.sku := by simp [s2]
  obtain ⟨hsky, hvv, hhold, hceiling⟩ := s2.evaluate_sky (u.summary d)
  have hafter : (s2.evaluate (u.summary d)).ltu = u.ltu := by simp [hltu]
  rw [hltu, hsku] at hsky hvv hhold hceiling
  exact ⟨hafter, hsky, hvv, hhold, hceiling⟩

/-- What the update and the evaluation count (R133, R148). -/
theorem State.track_counts (s : State) (d : Detection) :
    (∀ x ∈ (Ctr.trackUpdates, 1) :: (s.ltu.update d).counts,
        (s.track d).ctrs[x.1] = min (s.ctrs[x.1] + x.2) Config.counterMax)
      ∧ counted Ctr.skyEvaluations s (s.track d)
      ∧ ctrsKept (trackCtrs ++ Ctr.skyEvaluations :: skyCtrs) s (s.track d) := by
  let u := s.ltu.update d
  let s1 := (s.withLink s.link.hold).withLtu u.ltu
  have hctrs : s1.ctrs = s.ctrs := s.link.hold_spec.1
  have hcount : ctrsKept trackCtrs s1 (s1.countTracking u) := s1.countTracking_kept u
  have hraise : ctrsKept raiseCtrs (s1.countTracking u) ((s1.countTracking u).raiseTracking u) :=
    State.raiseTracking_kept _ u
  obtain ⟨heval, hevalKept⟩ := ((s1.countTracking u).raiseTracking u).evaluate_kept (u.summary d)
  have hrelease : ctrsKept blockCtrs (s.trackHeld d) (s.track d) := Link.release_ctrs _ _
  have hstart : ctrsKept [] s s1 := fun c _ => by rw [hctrs]
  have hbefore : ctrsKept (trackCtrs ++ raiseCtrs) s ((s1.countTracking u).raiseTracking u) :=
    ctrsKept_trans (ctrsKept_mono hstart (by simp)) (ctrsKept_trans
      (ctrsKept_mono hcount fun c hc => List.mem_append_left _ hc) (ctrsKept_mono hraise fun c hc => List.mem_append_right _ hc))
  have hbehind : ctrsKept (Ctr.skyEvaluations :: skyCtrs) ((s1.countTracking u).raiseTracking u) (s.track d) :=
    ctrsKept_trans hevalKept (ctrsKept_mono hrelease (by decide))
  refine ⟨fun x hx => ?_, ?_, ?_⟩
  · have hmem : x.1 ∈ trackCtrs := by
      rw [← u.counts_ctrs]
      exact List.mem_map_of_mem hx
    have hget := s1.countTracking_get u hx
    have hout : ∀ c ∈ trackCtrs, c ∉ raiseCtrs ∧ c ∉ Ctr.skyEvaluations :: skyCtrs := by decide
    obtain ⟨hnotRaise, hnotSky⟩ := hout x.1 hmem
    have hsame : s1.ctrs[x.1] = s.ctrs[x.1] := hstart x.1 (by simp)
    rw [hsame] at hget
    exact (hbehind _ hnotSky).trans ((hraise _ hnotRaise).trans hget)
  · exact counted_before_kept (counted_after_kept hbefore (by decide) heval) hrelease (by decide)
  · exact ctrsKept_trans (ctrsKept_mono hbefore (by decide)) (ctrsKept_mono hbehind (by simp +contextual))

/-! ### The completion -/

/-- Settles O37: the completion from the scan to the sky, and the frame decision and the tracking update step by
step. -/
theorem detectionCompletes : Obligations.DetectionCompletes := by
  refine ⟨fun s => ⟨fun h => ?_, fun k on r c hjob hrec hcond horder hqueue => ?_⟩, frameStep_follows,
    associate_follows, take_follows, merge_follows, update_follows⟩
  · exact congrArg Host.Outcome.next (show s.completeDetection = s by rw [State.completeDetection, h])
  · intro gates found u sky
    let s1 := s.countScan (scanFrom gates) found (findings r gates (scanFrom gates)).2
    let s2 := s1.frameStep r c found.overflow
    let s3 := s2.releaseBuf k r found
    let t := s3.track (detectionOf r found)
    have hfinish : s.detFinish ⟨k, some on⟩ = t := by
      unfold State.detFinish
      split
      · rename_i hnone
        cases hrec.symm.trans hnone
      · rename_i r' hsome
        cases hrec.symm.trans hsome
        simp only [hcond]
        rfl
    have hgau : t.gau = s.gau := by simp [t, s3, s2, s1]
    have hpcu : t.pcu = s.pcu.setBuf k ResultBuf.freed := by
      simp [t, s3, State.releaseBuf, s2, s1]
    have hstill : t.moveProfiles = t :=
      State.moveProfiles_of_empty (by rw [hgau]; exact hqueue) (State.detReady_of_order (by rw [hpcu]; exact horder))
    have hrun : s.completeDetection = t := by
      rw [State.completeDetection, hjob]
      simp only
      rw [hfinish, hstill]
    have hs1 : s1.ldu = s.ldu ∧ s1.sku = s.sku ∧ s1.ltu = s.ltu := by simp [s1]
    obtain ⟨hldu1, hsku1, hltu1⟩ := hs1
    obtain ⟨hldu2, ⟨v, hsku2⟩, hprofile, hcaptured⟩ := s1.frameStep_spec r c found.overflow
    rw [hsku1] at hsku2 hprofile hcaptured
    rw [hldu1] at hprofile
    obtain ⟨hdueIff, hcount⟩ := dividerDue_spec r.copy.divider s.ldu.frameCount[r.prog]
    have hframed : (s1.framed r).ldu = (s.framed r).ldu := by
      rw [State.framed, hldu1]
      rfl
    have hldu : t.ldu = { s2.ldu with job := none, last := some ⟨r.prog, r.seq, found.cands, found.obscured, found.vv⟩ } := by
      simp [t, s3, State.releaseBuf]
    have hltu3 : s3.ltu = s.ltu := by simp [s3, s2, hltu1]
    have hsku3 : s3.sku = { s.sku with captures := v } := (show s3.sku = s2.sku from rfl).trans hsku2
    obtain ⟨hltu, hsky, hvv, hhold, hceiling⟩ := s3.track_sky (detectionOf r found)
    rw [hltu3, hsku3, decide_of_captures] at hsky hvv hhold hceiling
    rw [hltu3] at hltu
    obtain ⟨hscanKept, hdetected⟩ := s.countScan_kept (scanFrom gates) found (findings r gates (scanFrom gates)).2
    have hframeKept : ctrsKept pathCtrs s1 s3 := s1.frameStep_ctrsKept r c found.overflow
    obtain ⟨htrack, heval, htrackKept⟩ := s3.track_counts (detectionOf r found)
    rw [hltu3] at htrack
    have hbefore : ctrsKept (scanCtrs ++ pathCtrs) s s3 :=
      ctrsKept_trans (ctrsKept_mono hscanKept fun c hc => List.mem_append_left _ hc)
        (ctrsKept_mono hframeKept fun c hc => List.mem_append_right _ hc)
    have htracked : ∀ x ∈ (Ctr.trackUpdates, 1) :: u.counts, t.ctrs[x.1] = min (s.ctrs[x.1] + x.2) Config.counterMax := by
      intro x hx
      have hmem : x.1 ∈ trackCtrs := by
        rw [← u.counts_ctrs]
        exact List.mem_map_of_mem hx
      have hout : ∀ c ∈ trackCtrs, c ∉ scanCtrs ++ pathCtrs := by decide
      have hget := htrack x hx
      rw [hbefore _ (hout x.1 hmem)] at hget
      exact hget
    have hoffered : ∀ c : Ctr, c ∉ scanCtrs → c ∉ trackCtrs ++ Ctr.skyEvaluations :: skyCtrs → counted c s1 s3 → counted c s t :=
      fun c hscan htr h => counted_before_kept (counted_after_kept hscanKept hscan h) htrackKept htr
    have hcaptureIff := Sku.requested_iff s.sku r.prog
    have hset : t.slc.sameSettings s.slc := by
      have hquiet := (s.quiet_detFinish ⟨k, some on⟩).link.settings.1
      rw [hfinish] at hquiet
      exact hquiet
    refine ⟨t, congrArg Host.Outcome.next hrun, ?_, ?_, ?_, ?_, hpcu, hltu, hsky, hvv, hhold, hceiling, ?_, ?_, ?_, ?_,
      fun hdue => ?_, fun hcap => ?_, ?_, ?_, hgau, ?_, ?_, hset⟩
    · rw [hldu]
    · rw [hldu]
    · rw [hldu, show s2.ldu = _ from hldu2, hframed]
      rfl
    · rw [hldu, show s2.ldu = _ from hldu2, hframed, State.framed, hcount]
      rfl
    · exact counted_before_kept (counted_before_kept hdetected hframeKept (by decide)) htrackKept (by decide)
    · exact htracked (Ctr.trackUpdates, 1) List.mem_cons_self
    · exact fun x hx => htracked x (List.mem_cons_of_mem _ hx)
    · exact counted_after_kept hbefore (by decide) heval
    · exact hoffered _ (by decide) (by decide) (hprofile (hdue.imp hdueIff.2 hcaptureIff.2))
    · exact hoffered _ (by decide) (by decide) (hcaptured (hcaptureIff.2 hcap))
    all_goals simp [t, s3, s2, s1]

end Sys2Proof.Machine
end

section
/-! PROOFS. The scan of a profile: its candidates, the obscuration and the vertical visibility (R98 to R104). -/

namespace Sys2Proof.Machine

/-! ### The gates of a scan -/

/-- The gates scanned are the first gates of the profile, as many as have a β and a threshold. -/
theorem scanGates_shapes (es : List GateEntry) (bs : List GateBeta) (ts : List Nat) :
    (scanGates es bs ts).map ScanGate.shape <+: es := by
  induction es generalizing bs ts with
  | nil => exact List.nil_prefix
  | cons e es ih =>
    cases bs with
    | nil => exact List.nil_prefix
    | cons b bs =>
      cases ts with
      | nil => exact List.nil_prefix
      | cons t ts => exact List.prefix_cons_inj e |>.2 (ih bs ts)

theorem examined_shapes (es : List GateEntry) (bs : List GateBeta) (ts : List Nat) (n : Nat) :
    ((scanGates es bs ts).drop n).map ScanGate.shape <+: es.drop n := by
  rw [List.map_drop]
  exact (scanGates_shapes es bs ts).drop n

/-! ### What the scan records (R98 to R102) -/

theorem Scan.record_of_later (k : Scan) (l : Layer) (ended : Bool) (h : l.atStart = false) :
    (k.record l ended).openStart = k.openStart ∧ ∃ new, (k.record l ended).cands = k.cands ++ new
      ∧ ∀ x ∈ new, x.base = l.base.shape.first := by
  unfold Scan.record
  split
  · exact ⟨rfl, [], (List.append_nil _).symm, by simp⟩
  · refine ⟨by simp [h], [l.candidate ended], rfl, fun x hx => ?_⟩
    rw [List.mem_singleton.1 hx]
    rfl

/-- A scan past the detect start gate leaves what is recorded, opens nothing there, and records layers based at
its own gates. -/
theorem scan_later (gs : List ScanGate) (inside : Option Layer) (k : Scan) (h : ∀ l ∈ inside, l.atStart = false) :
    (scan gs false inside k).openStart = k.openStart ∧ ∃ new, (scan gs false inside k).cands = k.cands ++ new
      ∧ ∀ x ∈ new, (∃ g ∈ gs, x.base = g.shape.first) ∨ ∃ l ∈ inside, x.base = l.base.shape.first := by
  induction gs generalizing inside k with
  | nil =>
    cases inside with
    | none => exact ⟨rfl, [], (List.append_nil _).symm, by simp⟩
    | some l =>
      obtain ⟨hopen, new, hcands, hbase⟩ := k.record_of_later l false (h l rfl)
      exact ⟨hopen, new, hcands, fun x hx => .inr ⟨l, rfl, hbase x hx⟩⟩
  | cons g r ih =>
    cases inside with
    | none =>
      unfold scan
      split
      · obtain ⟨hopen, new, hcands, hbase⟩ := ih (some (Layer.begin g false (Config.candMax ≤ k.cands.length))) k
          fun l hl => by cases hl; rfl
        refine ⟨hopen, new, hcands, fun x hx => .inl ?_⟩
        rcases hbase x hx with ⟨g', hg', hx⟩ | ⟨l, hl, hx⟩
        · exact ⟨g', List.mem_cons_of_mem _ hg', hx⟩
        · cases hl
          exact ⟨g, List.mem_cons_self, hx⟩
      · obtain ⟨hopen, new, hcands, hbase⟩ := ih none k (by simp)
        refine ⟨hopen, new, hcands, fun x hx => .inl ?_⟩
        rcases hbase x hx with ⟨g', hg', hx⟩ | ⟨l, hl, -⟩
        · exact ⟨g', List.mem_cons_of_mem _ hg', hx⟩
        · cases hl
    | some l =>
      unfold scan
      split
      · obtain ⟨hopen, new, hcands, hbase⟩ := k.record_of_later l true (h l rfl)
        obtain ⟨hopen2, new2, hcands2, hbase2⟩ := ih none (k.record l true) (by simp)
        refine ⟨hopen2.trans hopen, new ++ new2, by rw [hcands2, hcands, List.append_assoc], fun x hx => ?_⟩
        rcases List.mem_append.1 hx with hx | hx
        · exact .inr ⟨l, rfl, hbase x hx⟩
        · rcases hbase2 x hx with ⟨g', hg', hx⟩ | ⟨l', hl', -⟩
          · exact .inl ⟨g', List.mem_cons_of_mem _ hg', hx⟩
          · cases hl'
      · obtain ⟨hopen, new, hcands, hbase⟩ := ih (some (l.join g)) k fun l' hl' => by cases hl'; exact h l rfl
        refine ⟨hopen, new, hcands, fun x hx => ?_⟩
        rcases hbase x hx with ⟨g', hg', hx⟩ | ⟨l', hl', hx⟩
        · exact .inl ⟨g', List.mem_cons_of_mem _ hg', hx⟩
        · cases hl'
          exact .inr ⟨l, rfl, hx⟩

/-- A layer begun at the detect start gate is left open, and is then the only one, or ends with its top. -/
theorem scan_start (gs : List ScanGate) (atStart : Bool) (l : Layer) (hl : l.atStart = true) (hd : l.dropped = false) :
    (∃ x, scan gs atStart (some l) ⟨[], 0, false⟩ = ⟨[x], 0, true⟩ ∧ x.base = l.base.shape.first ∧ x.top = none)
      ∨ ((scan gs atStart (some l) ⟨[], 0, false⟩).openStart = false
        ∧ ∃ x new, (scan gs atStart (some l) ⟨[], 0, false⟩).cands = x :: new ∧ x.top.isSome = true) := by
  have hrecord : ∀ ended : Bool, Scan.record ⟨[], 0, false⟩ l ended = ⟨[l.candidate ended], 0, !ended⟩ := by
    intro ended
    rw [Scan.record, hd, hl, if_neg Bool.false_ne_true]
    simp
  induction gs generalizing l atStart with
  | nil => exact .inl ⟨l.candidate false, hrecord false, rfl, rfl⟩
  | cons g r ih =>
    unfold scan
    split
    · refine .inr ?_
      rw [hrecord true]
      obtain ⟨hopen, new, hcands, -⟩ := scan_later r none ⟨[l.candidate true], 0, !true⟩ (by simp)
      exact ⟨hopen, l.candidate true, new, hcands, rfl⟩
    · refine ih false (l.join g) hl hd fun ended => ?_
      rw [Scan.record, show (l.join g).dropped = false from hd, show (l.join g).atStart = true from hl,
        if_neg Bool.false_ne_true]
      simp

/-- The three outcomes of a scan at the detect start gate. -/
theorem scanFrom_cases (gs : List ScanGate) :
    (∃ g r x, gs = g :: r ∧ scanFrom gs = ⟨[x], 0, true⟩ ∧ x.base = g.shape.first ∧ x.top = none)
      ∨ ((scanFrom gs).openStart = false ∧ ∀ x, (scanFrom gs).cands.head? = some x →
          x.top.isSome = true ∨ ∃ g r, gs = g :: r ∧ ∃ g' ∈ r, x.base = g'.shape.first) := by
  cases gs with
  | nil => exact .inr ⟨rfl, fun x hx => by cases hx⟩
  | cons g r =>
    unfold scanFrom scan
    split
    · rcases scan_start r false (Layer.begin g true (Config.candMax ≤ ([] : List Candidate).length)) rfl rfl with
        ⟨x, hscan, hbase, htop⟩ | ⟨hopen, x, new, hcands, htop⟩
      · exact .inl ⟨g, r, x, rfl, hscan, hbase, htop⟩
      · refine .inr ⟨hopen, fun y hy => .inl ?_⟩
        rw [hcands] at hy
        cases hy
        exact htop
    · obtain ⟨hopen, new, hcands, hbase⟩ := scan_later r none ⟨[], 0, false⟩ (by simp)
      refine .inr ⟨hopen, fun x hx => .inr ⟨g, r, rfl, ?_⟩⟩
      rw [hcands, List.nil_append] at hx
      rcases hbase x (List.mem_of_head? hx) with h | ⟨l, hl, -⟩
      · exact h
      · cases hl

/-! ### Vertical visibility (R103) -/

/-- The integral over the first gates of a scan (R103). -/
def scanIntegral (gs : List ScanGate) (n : Nat) : Int :=
  ((gs.take n).map fun g => g.gb.beta * (g.shape.width : Int)).sum

theorem scanIntegral_succ (g : ScanGate) (gs : List ScanGate) (n : Nat) :
    scanIntegral (g :: gs) (n + 1) = g.gb.beta * (g.shape.width : Int) + scanIntegral gs n := by
  rw [scanIntegral, List.take_succ_cons, List.map_cons, List.sum_cons]
  rfl

theorem scanIntegral_zero (gs : List ScanGate) : scanIntegral gs 0 = 0 := rfl

/-- The first gate at which the running integral reaches the limit. -/
theorem vvReach_first {v : Nat} {acc : Int} {gs : List ScanGate} {n : Nat} {g : ScanGate} (hg : gs[n]? = some g)
    (h : (v : Int) ≤ acc + scanIntegral gs (n + 1)) (hfirst : ∀ m, m < n → acc + scanIntegral gs (m + 1) < v) :
    vvReach v acc gs = some g.shape.lastIndex := by
  induction gs generalizing acc n with
  | nil => simp at hg
  | cons a gs ih =>
    unfold vvReach
    cases n with
    | zero =>
      obtain rfl : a = g := by simpa using hg
      rw [scanIntegral_succ, scanIntegral_zero, add_zero] at h
      exact if_pos h
    | succ n =>
      have hlow := hfirst 0 (Nat.succ_pos n)
      rw [scanIntegral_succ, scanIntegral_zero, add_zero] at hlow
      refine (if_neg (Int.not_le.2 hlow)).trans (ih (by simpa using hg) ?_ fun m hm => ?_)
      · rw [scanIntegral_succ, ← add_assoc] at h
        exact h
      · have := hfirst (m + 1) (Nat.succ_lt_succ hm)
        rw [scanIntegral_succ, ← add_assoc] at this
        exact this

theorem vvReach_none {v : Nat} {acc : Int} {gs : List ScanGate}
    (h : ∀ m, m < gs.length → acc + scanIntegral gs (m + 1) < v) : vvReach v acc gs = none := by
  induction gs generalizing acc with
  | nil => rfl
  | cons a gs ih =>
    have hlow := h 0 (Nat.succ_pos _)
    rw [scanIntegral_succ, scanIntegral_zero, add_zero] at hlow
    unfold vvReach
    refine (if_neg (Int.not_le.2 hlow)).trans (ih fun m hm => ?_)
    have := h (m + 1) (Nat.succ_lt_succ hm)
    rw [scanIntegral_succ, ← add_assoc] at this
    exact this

theorem topIndex_of_getLast {es : List GateEntry} {e : GateEntry} (h : es.getLast? = some e) :
    topIndex es = e.lastIndex := by
  induction es with
  | nil => cases h
  | cons a es ih =>
    cases es with
    | nil =>
      cases h
      rfl
    | cons b es =>
      rw [List.getLast?_cons_cons] at h
      exact ih h

/-! ### The findings (R102, R104) -/

theorem findings_open (r : ResultRec) (gs : List ScanGate) {k : Scan} (h : k.openStart = true) :
    (findings r gs k).1 = ⟨[], decide (0 < k.drops), true, some ((vvReach r.copy.vvLimit 0 gs).getD (topIndex r.shape))⟩
      ∧ (findings r gs k).2 = (vvReach r.copy.vvLimit 0 gs).isNone := by
  rw [findings, if_pos h]
  cases vvReach r.copy.vvLimit 0 gs <;> exact ⟨rfl, rfl⟩

theorem findings_closed (r : ResultRec) (gs : List ScanGate) {k : Scan} (h : k.openStart = false) :
    findings r gs k = (⟨k.cands, decide (0 < k.drops), false, none⟩, false) := by
  rw [findings, h]
  exact if_neg Bool.false_ne_true

/-- Settles O38, by the outcomes of a scan at the detect start gate. -/
theorem scanKeepsEightCandidates : Obligations.ScanKeepsEightCandidates := by
  intro r c on hasc gs k f atReach integral
  obtain ⟨hlen, hdrops, -⟩ := scanFrom_roomy gs
  have hshapes : gs.map ScanGate.shape <+: r.shape.drop r.copy.detectStart := examined_shapes _ _ _ _
  have hstart : ∀ g rest, gs = g :: rest → r.shape[r.copy.detectStart]? = some g.shape := by
    intro g rest hgs
    rw [hgs, List.map_cons] at hshapes
    obtain ⟨tail, htail⟩ := hshapes
    have hhead := congrArg (fun l => l[0]?) htail
    rw [List.getElem?_drop, Nat.add_zero] at hhead
    exact hhead.symm
  have hintegral : ∀ n, (0 : Int) + scanIntegral gs n = integral n := fun n => zero_add _
  refine ⟨hlen, hdrops, ?_, ?_, fun hobs => ?_, fun hobs => ?_⟩
  · by_cases hopen : k.openStart = true
    · rw [show f = _ from (findings_open r gs hopen).1]
      exact decide_eq_true_iff
    · rw [show f = _ from congrArg Prod.fst (findings_closed r gs (Bool.not_eq_true _ ▸ hopen))]
      exact decide_eq_true_iff
  · rcases scanFrom_cases gs with ⟨g, rest, x, hgs, hscan, hbase, htop⟩ | ⟨hopen, hhead⟩
    · have hopen : k.openStart = true := by rw [show k = _ from hscan]
      rw [show f = _ from (findings_open r gs hopen).1]
      refine iff_of_true rfl ⟨x, g.shape, ?_, hstart g rest hgs, hbase, htop⟩
      rw [show k = _ from hscan]
      rfl
    · rw [show f = _ from congrArg Prod.fst (findings_closed r gs hopen)]
      refine iff_of_false Bool.false_ne_true ?_
      rintro ⟨x, e, hx, he, hbase, htop⟩
      rcases hhead x hx with hsome | ⟨g, rest, hgs, g', hg', hbase'⟩
      · rw [htop] at hsome
        cases hsome
      · rw [hstart g rest hgs] at he
        cases he
        have hsorted : (gs.map ScanGate.shape).Pairwise fun a b => a.first < b.first :=
          (hasc.sublist (List.drop_sublist _ _)).sublist hshapes.sublist
        rw [hgs, List.map_cons, List.pairwise_cons] at hsorted
        have hlt := hsorted.1 g'.shape (List.mem_map_of_mem hg')
        omega
  · rcases scanFrom_cases gs with ⟨g, rest, x, hgs, hscan, -, -⟩ | ⟨hopen, -⟩
    · have hk : k = ⟨[x], 0, true⟩ := hscan
      have hopen : k.openStart = true := by rw [hk]
      obtain ⟨hfound, hreach⟩ := findings_open r gs hopen
      have hf : f = _ := hfound
      refine ⟨by rw [hk]; rfl, by rw [hf], by rw [hf, hk]; rfl, fun n g' hg' hat hbefore => ?_, fun hbelow => ?_,
        by rw [hf]; rfl⟩
      · have hvv := vvReach_first (acc := 0) hg' (by rw [hintegral]; exact hat) fun m hm => by
          rw [hintegral]; exact hbefore m hm
        refine ⟨by rw [hf, hvv]; rfl, ?_⟩
        rw [show atReach = _ from hreach, hvv]
        rfl
      · have hvv := vvReach_none (acc := 0) (gs := gs) (v := r.copy.vvLimit) fun m hm => by
          rw [hintegral]; exact hbelow m hm
        have hne : r.shape ≠ [] := fun hnil => by
          have := hstart g rest hgs
          rw [hnil] at this
          cases this
        refine ⟨r.shape.getLast hne, List.getLast?_eq_some_getLast hne, ?_, ?_⟩
        · rw [hf, hvv, Option.getD_none, topIndex_of_getLast (List.getLast?_eq_some_getLast hne)]
        · rw [show atReach = _ from hreach, hvv]
          rfl
    · rw [show f = _ from congrArg Prod.fst (findings_closed r gs hopen)] at hobs
      cases hobs
  · have hopen : k.openStart = false := by
      rw [Bool.eq_false_iff]
      intro hopen
      rw [show f = _ from (findings_open r gs hopen).1] at hobs
      cases hobs
    have hfound := findings_closed r gs hopen
    refine ⟨?_, ?_, ?_⟩
    · rw [show f = _ from congrArg Prod.fst hfound]
    · rw [show f = _ from congrArg Prod.fst hfound]
    · rw [show atReach = _ from congrArg Prod.snd hfound]

end Sys2Proof.Machine
end

section
/-! PROOFS. The arithmetic of a profile, gate by gate (I.5, R76 to R85, R91). -/

namespace Sys2Proof.Machine

/-! ### Rounding and clamping (I.5, R82) -/

/-- A rounded quotient is within half a divisor, and a tie goes up. -/
theorem roundDivNat_near {b : Nat} (a : Nat) (hb : 1 ≤ b) : 2 * (roundDivNat a b * b) ≤ 2 * a + b
    ∧ 2 * a < 2 * (roundDivNat a b * b) + b := by
  unfold roundDivNat
  have hmod := Nat.div_add_mod (2 * a + b) (2 * b)
  have hlt := Nat.mod_lt (2 * a + b) (show 0 < 2 * b by omega)
  have hassoc : 2 * b * ((2 * a + b) / (2 * b)) = 2 * ((2 * a + b) / (2 * b) * b) := by ring
  rw [hassoc] at hmod
  omega

theorem roundDiv_near (a : Int) {b : Nat} (hb : 1 ≤ b) : 2 * (a - roundDiv a b * b).natAbs ≤ b
    ∧ (2 * (a - roundDiv a b * b).natAbs = b → a.natAbs ≤ (roundDiv a b * b).natAbs) := by
  obtain ⟨hlow, hhigh⟩ := roundDivNat_near a.natAbs hb
  unfold roundDiv
  split
  · rw [show (roundDivNat a.natAbs b : Int) * b = ((roundDivNat a.natAbs b * b : Nat) : Int) by push_cast; rfl]
    generalize roundDivNat a.natAbs b * b = q at *
    omega
  · rw [show -(roundDivNat a.natAbs b : Int) * b = -((roundDivNat a.natAbs b * b : Nat) : Int) by push_cast; ring]
    generalize roundDivNat a.natAbs b * b = q at *
    omega

theorem roundDivNat_cast (a b : Nat) : (roundDivNat a b : Int) = roundDiv a b :=
  (if_pos (Int.natCast_nonneg a)).symm

theorem clampBeta_eq (x : Int) : clampBeta x = max (-8388607) (min 8388607 x) := clampInt_eq (by decide) x

/-- Every β of a profile is clamped (R82, R85). -/
theorem arith_betas_within (k : Bank) (shape : List GateEntry) (j : PcuJob) : ∀ g ∈ (arith k shape j).cond.betas,
    -8388607 ≤ g.beta ∧ g.beta ≤ 8388607 := by
  intro g hg
  obtain ⟨i, hi, rfl⟩ := List.getElem_of_mem hg
  have hbeta : ∃ x, ((arith k shape j).cond.betas[i]).beta = clampBeta x := by
    simp only [arith, List.getElem_zipWith, List.getElem_map]
    exact ⟨_, rfl⟩
  obtain ⟨x, hx⟩ := hbeta
  rw [hx, clampBeta_eq]
  omega

/-! ### Columns as functions of the gate -/

/-- A column read gate by gate. -/
theorem eq_map_range_getD {α : Type} {l : List α} {n : Nat} (h : l.length = n) (d : α) :
    l = (List.range n).map fun i => l.getD i d := by
  refine List.ext_getElem (by simp [h]) fun i h1 h2 => ?_
  rw [List.getElem_map, List.getElem_range, List.getD_eq_getElem _ _ h1]

/-- The last gates of a column. -/
theorem lastOf_map_range {α : Type} (k n : Nat) (f : Nat → α) :
    lastOf k ((List.range n).map f) = ((List.range n).drop (n - k)).map f := by
  rw [lastOf, List.length_map, List.length_range, List.map_drop]

theorem zipWith_map_range {α β γ : Type} (f : α → β → γ) (a : Nat → α) (b : Nat → β) (l : List Nat) :
    List.zipWith f (l.map a) (l.map b) = l.map fun i => f (a i) (b i) := by
  rw [List.zipWith_map, List.zipWith_self]

theorem lastOf_map {α β : Type} (k : Nat) (f : α → β) (l : List α) : (lastOf k l).map f = lastOf k (l.map f) := by
  rw [lastOf, lastOf, List.length_map, List.map_drop]

/-! ### β before the clamp (R76, R80 to R82) -/

/-- The correction of a normalised signal (R82). -/
def correctedBy (n : Int) (mant exp : Nat) : Int := roundDiv (n * mant * (2 ^ exp : Nat)) (2 ^ 24)

theorem rawBetas_eq (k : Bank) {gs : List GateSums} {ws bs : List Nat} {cs : List CorrEntry} {n : Nat}
    (hg : gs.length = n) (hw : ws.length = n) (hb : bs.length = n) (hc : cs.length = n) :
    rawBetas k gs ws bs cs = (List.range n).map fun i =>
      correctedBy (normalised (meanQ8 ((gs.map GateSums.sig).getD i 0) (k.nAcc * ws.getD i 0)) (bs.getD i 0) k.copy.eRef
        (energyMean k)) ((cs.map CorrEntry.mant).getD i 0) ((cs.map CorrEntry.exp).getD i 0) := by
  induction n generalizing gs ws bs cs with
  | zero =>
    rw [List.length_eq_zero_iff] at hg
    subst hg
    rfl
  | succ n ih =>
    obtain ⟨g, gs, rfl⟩ := List.exists_cons_of_length_eq_add_one hg
    obtain ⟨w, ws, rfl⟩ := List.exists_cons_of_length_eq_add_one hw
    obtain ⟨b, bs, rfl⟩ := List.exists_cons_of_length_eq_add_one hb
    obtain ⟨c, cs, rfl⟩ := List.exists_cons_of_length_eq_add_one hc
    rw [rawBetas, ih (Nat.succ.inj hg) (Nat.succ.inj hw) (Nat.succ.inj hb) (Nat.succ.inj hc), List.range_succ_eq_map,
      List.map_cons, List.map_map]
    rfl

/-! ### The test echo (R85) -/

theorem echoed_map_range (i : Injection) (a n : Nat) (f : Nat → Int) :
    echoed i a ((List.range' a n).map f)
      = (List.range' a n).map fun g => if i.first ≤ g ∧ g < i.first + i.count then f g + i.amp else f g := by
  induction n generalizing a with
  | zero => rfl
  | succ n ih => rw [List.range'_succ, List.map_cons, List.map_cons, echoed, ih]

/-- The column that a job's injection leaves, before its clamp (R85). -/
def jobEcho (j : PcuJob) (column : List Int) : List Int :=
  match j.inj with
  | some i => echoed i 0 column
  | none => column

/-- The arithmetic of a profile over its columns (R76 to R85). -/
theorem arith_eq (k : Bank) (shape : List GateEntry) (j : PcuJob) {raw : List Int} {bg : Background} {clip : List Bool}
    (hbg : background k (shape.map GateEntry.width) j.held = bg)
    (hraw : rawBetas k k.gates (shape.map GateEntry.width) bg.values j.corr = raw)
    (hclip : (k.gates.map fun g => decide (1 ≤ g.sat)) = clip) : arith k shape j
      = { cond :=
            { eMean := energyMean k
              bgHeld := bg.held
              bgNone := bg.none
              noise := noiseOf k.copy.tailGates (raw.map clampBeta)
              anyClipped := clip.any id
              betas := List.zipWith GateBeta.mk ((jobEcho j (raw.map clampBeta)).map clampBeta) clip }
          bg := bg.values
          clamps := clampCount raw + clampCount (jobEcho j (raw.map clampBeta))
          clipped := (clip.filter id).length } := by
  subst hraw hclip hbg
  rfl

/-! ### The background (R77 to R79) -/

/-- The held background that a conditioning may use: that of its gate count (R77). -/
def heldFor (j : PcuJob) (n : Nat) : Option HeldRec := j.held.filter fun h => h.gateCount = n

/-- The background of gate `g` (R78, R79), over `n` gates of which the last `tail` are the tail. -/
def backgroundAt (k : Bank) (widths : List Nat) (held : Option HeldRec) (tail : List Nat) (g : Nat) : Nat :=
  match k.copy.bgMethod with
  | .dark =>
    if 1 ≤ k.dAcc then roundDivNat ((k.gates.map GateSums.dark).getD g 0 * 256) (k.dAcc * widths.getD g 0)
    else (held.map fun h => h.values.getD g 0).getD 0
  | .tail => roundDivNat ((tail.map fun g => (k.gates.map GateSums.sig).getD g 0).sum * 256)
      (k.nAcc * (tail.map fun g => widths.getD g 0).sum)
  | .none => 0

theorem map_range_const {α : Type} (n : Nat) (x : α) : List.replicate n x = (List.range n).map fun _ => x := by
  rw [List.map_const', List.length_range]

section
variable {k : Bank} {widths : List Nat} {j : PcuJob} {n : Nat}

theorem background_values (hg : k.gates.length = n) (hw : widths.length = n) (hn : k.copy.gateCount = n)
    (hheld : ∀ h, j.held = some h → h.gateCount = n → h.values.length = n) :
    (background k widths j.held).values
      = (List.range n).map (backgroundAt k widths (heldFor j n) ((List.range n).drop (n - k.copy.tailGates))) := by
  have hsig : k.gates.map GateSums.sig = (List.range n).map fun i => (k.gates.map GateSums.sig).getD i 0 :=
    eq_map_range_getD (by rw [List.length_map, hg]) 0
  have hwidth : widths = (List.range n).map fun i => widths.getD i 0 := eq_map_range_getD hw 0
  have hzeros : List.replicate k.copy.gateCount 0 = (List.range n).map fun _ => 0 := by rw [hn, map_range_const]
  unfold background backgroundAt
  cases hmethod : k.copy.bgMethod with
  | dark =>
    by_cases hdark : 1 ≤ k.dAcc
    · simp only [if_pos hdark]
      refine List.ext_getElem (by simp [hg, hw]) fun i h1 h2 => ?_
      rw [List.length_map, List.length_range] at h2
      simp [meanQ8, hg, hw, h2]
    · simp only [if_neg hdark, heldFor]
      cases htaken : j.held with
      | none => exact hzeros
      | some h =>
        by_cases hcount : h.gateCount = n
        · rw [hn]
          simp only [if_pos hcount]
          rw [Option.filter_some_pos (by simpa using hcount)]
          exact eq_map_range_getD (hheld h htaken hcount) 0
        · rw [hn]
          simp only [if_neg hcount]
          rw [Option.filter_some_neg (by simpa using hcount)]
          exact map_range_const n 0
  | tail =>
    dsimp only
    have hv := map_range_const n (meanQ8 ((lastOf k.copy.tailGates k.gates).map GateSums.sig).sum
      (k.nAcc * (lastOf k.copy.tailGates widths).sum))
    rw [hn, hv, lastOf_map, hsig, lastOf_map_range, hwidth, lastOf_map_range]
    simp only [meanQ8, ← hsig, ← hwidth]
  | none => exact hzeros

theorem background_flags (hn : k.copy.gateCount = n) :
    ((background k widths j.held).held = true
        ↔ (k.copy.bgMethod = .dark ∧ k.dAcc = 0) ∧ (heldFor j n).isSome = true)
      ∧ ((background k widths j.held).none = true ↔ (k.copy.bgMethod = .dark ∧ k.dAcc = 0) ∧ heldFor j n = none) := by
  unfold background heldFor
  rw [hn]
  cases hmethod : k.copy.bgMethod with
  | dark =>
    by_cases hdark : 1 ≤ k.dAcc
    · have hzero : k.dAcc ≠ 0 := by omega
      simp [hdark, hzero]
    · have hzero : k.dAcc = 0 := by omega
      cases htaken : j.held with
      | none => simp [hzero]
      | some h => by_cases hcount : h.gateCount = n <;> simp [hzero, hcount, Option.filter]
  | tail => simp
  | none => simp
end

/-! ### The column of a profile -/

theorem clampCount_map (f : Nat → Int) (l : List Nat) :
    clampCount (l.map f) = (l.filter fun g => max (-8388607) (min 8388607 (f g)) ≠ f g).length := by
  rw [clampCount, List.filter_map, List.length_map]
  congr 2
  funext g
  simp only [Function.comp_apply, clampBeta_eq]

theorem noiseOf_map_range (t n : Nat) (f : Nat → Int) (ht : t ≠ 0) : noiseOf t ((List.range n).map f)
    = roundDivNat (((List.range n).drop (n - t)).map fun g =>
        (f g - roundDiv (((List.range n).drop (n - t)).map f).sum t).natAbs).sum t := by
  rw [noiseOf, if_neg ht, lastOf_map_range]
  simp only [List.map_map]
  rfl

/-- Settles O34: rounding and clamping once, then the columns of `arith` read gate by gate. -/
theorem quotientsRoundAndBetasClamp : Obligations.QuotientsRoundAndBetasClamp := by
  refine ⟨fun a _ => roundDiv_near a, roundDivNat_cast, arith_betas_within, fun k shape j _ hgates hcount hcorr _ hheld => ?_⟩
  intro a gates tail width sig dark clipped heldNow noDark bg mean eMean net mant expo exact clamp echo centre
  have hwidths : (shape.map GateEntry.width).length = shape.length := List.length_map _
  have hbg : (background k (shape.map GateEntry.width) j.held).values = gates.map bg :=
    background_values hgates hwidths hcount hheld
  obtain ⟨hbgHeld, hbgNone⟩ := background_flags (k := k) (widths := shape.map GateEntry.width) (j := j) hcount
  have hraw : rawBetas k k.gates (shape.map GateEntry.width) (background k (shape.map GateEntry.width) j.held).values
      j.corr = gates.map exact := by
    rw [rawBetas_eq k hgates hwidths (by rw [hbg, List.length_map, List.length_range]) hcorr, hbg]
    refine List.map_congr_left fun i hi => ?_
    have hi : i < shape.length := List.mem_range.1 hi
    have hget : (gates.map bg).getD i 0 = bg i := by
      rw [List.getD_eq_getElem _ _ (by simpa [gates] using hi), List.getElem_map, List.getElem_range]
    rw [hget]
    rfl
  have hclamped : (gates.map exact).map clampBeta = gates.map fun g => clamp (exact g) := by
    rw [List.map_map]
    exact List.map_congr_left fun g _ => clampBeta_eq _
  have hecho : jobEcho j (gates.map fun g => clamp (exact g)) = gates.map echo := by
    unfold jobEcho
    cases hinj : j.inj with
    | none => simp only [echo, hinj]
    | some i =>
      simp only [echo, hinj, gates, List.range_eq_range']
      exact echoed_map_range i 0 shape.length _
  have hclip : (k.gates.map fun g => decide (1 ≤ g.sat)) = gates.map clipped := by
    have hsat : k.gates.map GateSums.sat = gates.map fun i => (k.gates.map GateSums.sat).getD i 0 :=
      eq_map_range_getD (by rw [List.length_map, hgates]) 0
    have hmap := congrArg (List.map fun n => decide (1 ≤ n)) hsat
    rw [List.map_map, List.map_map] at hmap
    exact hmap
  have ha : a = { cond := { eMean := eMean
                            bgHeld := (background k (shape.map GateEntry.width) j.held).held
                            bgNone := (background k (shape.map GateEntry.width) j.held).none
                            noise := noiseOf k.copy.tailGates (gates.map fun g => clamp (exact g))
                            anyClipped := (gates.map clipped).any id
                            betas := List.zipWith GateBeta.mk ((gates.map echo).map clampBeta) (gates.map clipped) }
                  bg := gates.map bg
                  clamps := clampCount (gates.map exact) + clampCount (gates.map echo)
                  clipped := ((gates.map clipped).filter id).length } := by
    rw [show a = _ from arith_eq k shape j rfl hraw hclip, hclamped, hecho, hbg]
    rfl
  rw [ha]
  refine ⟨?_, rfl, rfl, hbgHeld, hbgNone, fun hnone => ?_, fun hsome => ?_, ?_, ?_, ?_⟩
  · have hout : (gates.map echo).map clampBeta = gates.map fun g => clamp (echo g) := by
      rw [List.map_map]
      exact List.map_congr_left fun g _ => clampBeta_eq _
    rw [hout]
    exact zipWith_map_range _ _ _ gates
  · exact if_pos hnone
  · exact noiseOf_map_range _ _ _ (by omega)
  · exact List.any_map
  · simp only [List.filter_map, List.length_map]
    rfl
  · rw [clampCount_map, clampCount_map]

end Sys2Proof.Machine
end

section
/-! PROOFS. The receiver's words: how a word is stored, what the parser makes of the item at the head of the
buffer, and how the first sample waits for a commit (R31 to R33, R53). -/

namespace Sys2Proof.Machine

/-! ### Words at the buffer (R31, R32) -/

theorem Rsp.store_occupancy (r : Rsp) (w : Word) : (r.store w).occupancy = r.occupancy + 1 := by
  simp [Rsp.store, Rsp.occupancy, List.filter_cons, BufItem.isWord]

/-- A slip point takes no room. -/
theorem Rsp.slip_occupancy (r : Rsp) (spell : Bool) :
    ({ r with buffer := r.buffer ++ [.slip], slipSpell := spell } : Rsp).occupancy = r.occupancy := by
  simp [Rsp.occupancy, BufItem.isWord]

theorem State.wordArrives_of_room {s : State} {w : Word} (hs : s.rsp.slipSpell = false)
    (ho : s.rsp.occupancy < 8192) : s.wordArrives w = s.withRsp (s.rsp.store w) := by
  rw [State.wordArrives, if_pos (show _ < Config.bufferWords from ho), hs]
  exact if_neg Bool.false_ne_true

theorem State.wordArrives_of_full {s : State} {w : Word} (hs : s.rsp.slipSpell = false)
    (ho : 8192 ≤ s.rsp.occupancy) : s.wordArrives w
      = ((s.withRsp { s.rsp with buffer := s.rsp.buffer ++ [.slip], slipSpell := true }).bump
          Ctr.slippedWords).raise .slip := by
  rw [State.wordArrives, if_neg (show ¬ _ < Config.bufferWords from not_lt.2 ho), hs]
  exact if_neg Bool.false_ne_true

theorem State.wordArrives_of_spell {s : State} {w : Word} (hs : s.rsp.slipSpell = true)
    (ho : 8192 ≤ s.rsp.occupancy ∨ isMark w = false) : s.wordArrives w = s.bump Ctr.slippedWords := by
  rw [State.wordArrives, hs]
  split
  · rename_i hroom
    have hmark : isMark w = false := ho.resolve_left (not_le.2 hroom)
    rw [if_pos rfl, hmark]
    exact if_neg Bool.false_ne_true
  · exact if_pos rfl

theorem State.wordArrives_of_mark {s : State} {w : Word} (hs : s.rsp.slipSpell = true)
    (ho : s.rsp.occupancy < 8192) (hm : isMark w = true) :
    s.wordArrives w = s.withRsp { s.rsp.store w with slipSpell := false } := by
  rw [State.wordArrives, if_pos (show _ < Config.bufferWords from ho), hs, if_pos rfl, if_pos hm]

/-- Settles O24, by the spell, the room and the word (R31, R32). -/
theorem sampleWordStoredOrLost : Obligations.SampleWordStoredOrLost := by
  intro s w
  obtain ⟨hprogs, hfcu, hgau, hpcu, hldu, hltu, hsku, hmgu, -⟩ := s.wordArrives_frame w
  refine ⟨s.wordArrives w, rfl, fun hs ho => ?_, fun hs ho => ?_, fun hs ho => ?_, fun hs ho hm => ?_,
    hfcu, hgau, hpcu, hldu, hltu, hsku, hprogs, hmgu⟩
  · rw [State.wordArrives_of_room hs ho]
    exact ⟨rfl, s.rsp.store_occupancy w⟩
  · rw [State.wordArrives_of_full hs ho]
    let u := (s.withRsp { s.rsp with buffer := s.rsp.buffer ++ [.slip], slipSpell := true }).bump Ctr.slippedWords
    have hcount : counted Ctr.slippedWords s u := counted_bump (s.withRsp _) _
    have hkept : ctrsKept [Ctr.slippedWords] s u := ctrsKept_bump (s.withRsp _) (List.mem_singleton_self _)
    have hraise := u.raise_ctrsKept .slip
    refine ⟨rfl, s.rsp.slip_occupancy true, counted_before_kept hcount hraise (by decide),
      (Link.raise_settings u.link .slip).1,
      ctrsKept_trans (ctrsKept_mono hkept (by simp)) (ctrsKept_mono hraise fun c h => List.mem_cons_of_mem _ h),
      fun hmask => ?_⟩
    have hflag : u.link.raise .slip = u.link.setFlag .slip := if_pos hmask
    exact congrArg Link.slc hflag
  · rw [State.wordArrives_of_spell hs ho]
    exact ⟨rfl, counted_bump s _, ctrsKept_bump s (List.mem_singleton_self _), rfl⟩
  · rw [State.wordArrives_of_mark hs ho hm]
    rfl

/-! ### The head of the buffer (R31 to R33) -/

/-- The words behind the slip points at the head. -/
abbrev behindSlips (rest : List BufItem) : List BufItem := rest.dropWhile fun x => !x.isWord

theorem State.parserTakes_word {s : State} {w : Word} {rest : List BufItem} (hb : s.rsp.buffer = .word w :: rest)
    (hw : s.mustWait w = false) : s.parserTakes
      = State.reachSlips (if isMark w then (s.withRsp { s.rsp with buffer := rest }).takeMark w
          else (s.withRsp { s.rsp with buffer := rest }).takeOther w) := by
  simp only [State.parserTakes, hb, hw, Bool.false_eq_true, if_false]

theorem State.parserTakes_wait {s : State} {w : Word} {rest : List BufItem} (hb : s.rsp.buffer = .word w :: rest)
    (hw : s.mustWait w = true) : s.parserTakes = s := by
  simp only [State.parserTakes, hb, hw, if_true]

theorem State.parserTakes_slip {s : State} {rest : List BufItem} (hb : s.rsp.buffer = .slip :: rest) :
    s.parserTakes = s.reachSlips := by
  simp only [State.parserTakes, hb]

theorem State.reachSlips_slip {s : State} {rest : List BufItem} (hb : s.rsp.buffer = .slip :: rest) :
    s.reachSlips = (s.withRsp { s.rsp with buffer := behindSlips rest }).reachSlip := by
  simp only [State.reachSlips, hb]

/-- Only a burst to be binned can make the parser wait (R31). -/
theorem State.mustWait_of_not_samples {s : State} (w : Word) (h : ∀ b, s.rsp.parser ≠ .samples b) :
    s.mustWait w = false := by
  unfold State.mustWait
  split
  · rename_i b hb
    exact absurd hb (h b)
  · rfl

theorem State.mustWait_of_mark {s : State} {w : Word} (h : isMark w = true) : s.mustWait w = false := by
  unfold State.mustWait
  split <;> simp [h]

/-- The part with the parser hunting behind the slip points. -/
abbrev State.slipped (s : State) (rest : List BufItem) : State :=
  s.withRsp { s.rsp with
    buffer := behindSlips rest
    parser := .hunt
    truncTimer := none }

theorem State.reachSlips_hunting {s : State} {rest : List BufItem} (hb : s.rsp.buffer = .slip :: rest)
    (hp : s.rsp.parser = .hunt ∨ s.rsp.parser = .trail) : s.reachSlips = s.slipped rest := by
  rw [State.reachSlips_slip hb]
  obtain hp | hp := hp <;> simp only [State.reachSlip, State.withRsp_rsp, hp] <;> rfl

theorem State.reachSlips_header {s : State} {rest : List BufItem} {m : Word} {r : Option Word}
    (hb : s.rsp.buffer = .slip :: rest) (hp : s.rsp.parser = .header m r) :
    s.reachSlips = (s.slipped rest).bumpBy Ctr.discardedWords (headerWords r) := by
  rw [State.reachSlips_slip hb]
  simp only [State.reachSlip, State.withRsp_rsp, hp]
  rfl

theorem State.reachSlips_samples {s : State} {rest : List BufItem} {b : Burst}
    (hb : s.rsp.buffer = .slip :: rest) (hp : s.rsp.parser = .samples b) :
    s.reachSlips = ((s.slipped rest).bump Ctr.slippedBursts).rejectCapture b.path := by
  rw [State.reachSlips_slip hb]
  simp only [State.reachSlip, State.withRsp_rsp, hp]
  rfl

theorem headerWords_eq (r : Option Word) : headerWords r = if r = none then 1 else 2 := by
  cases r <;> rfl

/-- Two increments of one counter are one by their sum (I.5). -/
theorem Counters.add_add (v : Counters) (c : Ctr) (m n : Nat) :
    Counters.add (Counters.add v c m) c n = Counters.add v c (m + n) := by
  refine Vector.ext fun i hi => ?_
  have hget := fun (u : Counters) (k : Nat) => Counters.add_get u c ⟨i, hi⟩ k
  by_cases h : (⟨i, hi⟩ : Ctr) = c
  · have := hget (Counters.add v c m) n
    have := hget v m
    have := hget v (m + n)
    simp only [h, if_true] at *
    omega
  · have := hget (Counters.add v c m) n
    have := hget v m
    have := hget v (m + n)
    simp only [h, if_false] at *
    omega

theorem State.bumpBy_bumpBy (s : State) (c : Ctr) (m n : Nat) :
    (s.bumpBy c m).bumpBy c n = s.bumpBy c (m + n) := by
  simp only [State.bumpBy, Counters.add_add]

theorem exec_parserTakes_of_settled {s t : State} (h : s.parserTakes = t) (ht : t.settled) :
    exec .parserTakesWord s = .next t := by
  have hrun : exec .parserTakesWord s = .next s.parserTakes.moveProfiles := rfl
  rw [hrun, h]
  exact congrArg Host.Outcome.next ht.moveProfiles

/-- A parser event that leaves the GAU, the PCU and the LDU alone sets off nothing in a settled path. -/
theorem exec_parserTakes_of_still {s t : State} (hs : s.settled) (h : s.parserTakes = t) (hg : t.gau = s.gau)
    (hp : t.pcu = s.pcu) (hl : t.ldu = s.ldu) : exec .parserTakesWord s = .next t :=
  exec_parserTakes_of_settled h (State.settled_of_gau hs hg hp hl)

/-! ### Words outside SAMPLES (R33, R39, R49) -/

theorem State.takeMark_of_idle {s : State} {w : Word} (h : s.rsp.parser = .hunt ∨ s.rsp.parser = .trail) :
    s.takeMark w = s.parserTo (.header w none) := by
  obtain h | h := h <;> simp only [State.takeMark, h]

theorem State.takeMark_of_header {s : State} {w m : Word} {r : Option Word} (h : s.rsp.parser = .header m r) :
    s.takeMark w = (s.bumpBy Ctr.discardedWords (headerWords r)).parserTo (.header w none) := by
  simp only [State.takeMark, h]

theorem State.takeOther_of_hunt {s : State} {w : Word} (h : s.rsp.parser = .hunt) :
    s.takeOther w = s.bump Ctr.discardedWords := by
  simp only [State.takeOther, h]

theorem State.takeOther_of_trail {s : State} {w : Word} (h : s.rsp.parser = .trail) :
    s.takeOther w = s.bump Ctr.excessWords := by
  simp only [State.takeOther, h]

theorem State.takeOther_of_reading {s : State} {w m : Word} (h : s.rsp.parser = .header m none) :
    s.takeOther w = s.parserTo (.header m (some w)) := by
  simp only [State.takeOther, h]

theorem State.parserTakes_mark {s : State} {w : Word} {rest : List BufItem}
    (hb : s.rsp.buffer = .word w :: rest) (hm : isMark w = true) :
    s.parserTakes = ((s.withRsp { s.rsp with buffer := rest }).takeMark w).reachSlips := by
  rw [State.parserTakes_word hb (State.mustWait_of_mark hm), if_pos hm]

theorem State.parserTakes_other {s : State} {w : Word} {rest : List BufItem}
    (hb : s.rsp.buffer = .word w :: rest) (hm : isMark w = false) (hw : s.mustWait w = false) :
    s.parserTakes = ((s.withRsp { s.rsp with buffer := rest }).takeOther w).reachSlips := by
  rw [State.parserTakes_word hb hw, if_neg (by rw [hm]; exact Bool.false_ne_true)]

/-- A slip point at the head, outside SAMPLES (R32). -/
theorem parserAtSlip {s : State} {rest : List BufItem} (hs : s.settled) (hb : s.rsp.buffer = .slip :: rest) :
    (s.rsp.parser = .hunt ∨ s.rsp.parser = .trail → exec .parserTakesWord s = .next (s.slipped rest))
    ∧ ∀ m r, s.rsp.parser = .header m r → exec .parserTakesWord s
      = .next ((s.slipped rest).bumpBy Ctr.discardedWords (if r = none then 1 else 2)) := by
  refine ⟨fun hp => ?_, fun m r hp => ?_⟩
  · exact exec_parserTakes_of_still hs ((State.parserTakes_slip hb).trans (State.reachSlips_hunting hb hp))
      rfl rfl rfl
  · rw [← headerWords_eq]
    exact exec_parserTakes_of_still hs ((State.parserTakes_slip hb).trans (State.reachSlips_header hb hp))
      rfl rfl rfl

/-- A word taken outside SAMPLES: what each parser state makes of it, before a slip point behind it (R33). -/
theorem State.parserTakes_outside {s : State} {w : Word} {rest : List BufItem}
    (hb : s.rsp.buffer = .word w :: rest) :
    let u := s.withRsp { s.rsp with buffer := rest }
    (isMark w = false → s.rsp.parser = .hunt → s.parserTakes = (u.bump Ctr.discardedWords).reachSlips)
    ∧ (isMark w = false → s.rsp.parser = .trail → s.parserTakes = (u.bump Ctr.excessWords).reachSlips)
    ∧ (∀ m, isMark w = false → s.rsp.parser = .header m none →
        s.parserTakes = (u.parserTo (.header m (some w))).reachSlips)
    ∧ (isMark w = true → s.rsp.parser = .hunt ∨ s.rsp.parser = .trail →
        s.parserTakes = (u.parserTo (.header w none)).reachSlips)
    ∧ ∀ m r, isMark w = true → s.rsp.parser = .header m r →
        s.parserTakes = ((u.bumpBy Ctr.discardedWords (headerWords r)).parserTo (.header w none)).reachSlips := by
  intro u
  have hfree : (∀ b, s.rsp.parser ≠ .samples b) → s.mustWait w = false := s.mustWait_of_not_samples w
  refine ⟨fun hm hp => ?_, fun hm hp => ?_, fun m hm hp => ?_, fun hm hp => ?_, fun m r hm hp => ?_⟩
  · rw [State.parserTakes_other hb hm (hfree (by simp [hp])), State.takeOther_of_hunt (s := u) hp]
  · rw [State.parserTakes_other hb hm (hfree (by simp [hp])), State.takeOther_of_trail (s := u) hp]
  · rw [State.parserTakes_other hb hm (hfree (by simp [hp])), State.takeOther_of_reading (s := u) hp]
  · rw [State.parserTakes_mark hb hm, State.takeMark_of_idle (s := u) hp]
  · rw [State.parserTakes_mark hb hm, State.takeMark_of_header (s := u) hp]

/-- Settles O25, by the item at the head, the parser's state and the item behind (R32, R33, R39, R49). -/
theorem parserOutsideSamples : Obligations.ParserOutsideSamples := by
  refine ⟨fun s rest hs hb => parserAtSlip hs hb, fun s w rest hs hb hslip => ?_, fun s w rest hs hb => ?_⟩
  · obtain ⟨hhunt, htrail, hreading, hidle, hheader⟩ := State.parserTakes_outside hb
    have alone : ∀ {t : State}, s.parserTakes = t.reachSlips → t.rsp.buffer = rest → t.gau = s.gau →
        t.pcu = s.pcu → t.ldu = s.ldu → exec .parserTakesWord s = .next t := fun h hr =>
      exec_parserTakes_of_still hs (h.trans (State.reachSlips_of_head _ (by rwa [hr])))
    refine ⟨fun hm hp => alone (hhunt hm hp) rfl rfl rfl rfl, fun hm hp => alone (htrail hm hp) rfl rfl rfl rfl,
      fun m hm hp => alone (hreading m hm hp) rfl rfl rfl rfl,
      fun hm hp => alone (hidle hm hp) rfl rfl rfl rfl, fun m r hm hp => ?_⟩
    rw [← headerWords_eq]
    exact alone (hheader m r hm hp) rfl rfl rfl rfl
  · obtain ⟨hhunt, htrail, hreading, hidle, hheader⟩ := State.parserTakes_outside hb
    intro slipped
    refine ⟨fun hm hp => ?_, fun hm hp => ?_, fun m hm hp => ?_, fun hm hp => ?_, fun m r hm hp => ?_⟩
    · exact exec_parserTakes_of_still hs ((hhunt hm hp).trans (State.reachSlips_hunting rfl (by exact .inl hp)))
        rfl rfl rfl
    · exact exec_parserTakes_of_still hs ((htrail hm hp).trans (State.reachSlips_hunting rfl (by exact .inr hp)))
        rfl rfl rfl
    · have hend := (hreading m hm hp).trans (State.reachSlips_header rfl rfl)
      exact exec_parserTakes_of_still hs hend rfl rfl rfl
    · have hend := (hidle hm hp).trans (State.reachSlips_header rfl rfl)
      exact exec_parserTakes_of_still hs hend rfl rfl rfl
    · have hwords : headerWords r + 1 = if r = none then 2 else 3 := by cases r <;> rfl
      have hdrop := (hheader m r hm hp).trans (State.reachSlips_header rfl rfl)
      have hend : s.parserTakes = ((s.slipped rest).bumpBy Ctr.discardedWords (headerWords r)).bumpBy
        Ctr.discardedWords 1 := hdrop
      rw [State.bumpBy_bumpBy, hwords] at hend
      exact exec_parserTakes_of_still hs hend rfl rfl rfl

/-! ### The first sample and a commit (R31, R53, R54) -/

theorem State.takeSample_within {s : State} {b : Burst} {w : Word} (h : b.next + 1 ≠ b.expected) :
    s.takeSample b w = (let u := if b.path then s.compareWord b w else s.passSample b.next w
      u.withRsp { u.rsp with parser := .samples { b with next := b.next + 1 } }) := by
  simp only [State.takeSample]
  exact if_neg h

theorem State.takeSample_last {s : State} {b : Burst} {w : Word} (h : b.next + 1 = b.expected) :
    s.takeSample b w = (if b.path then s.compareWord b w else s.passSample b.next w).completeBurst
      { b with next := b.next + 1 } := by
  simp only [State.takeSample]
  exact if_pos h

theorem State.takeOther_of_samples {s : State} {w : Word} {b : Burst} (h : s.rsp.parser = .samples b) :
    s.takeOther w = s.takeSample b w := by
  simp only [State.takeOther, h]

/-- The counters that a sample passed to the GAU can increase (R37). -/
def sampleCtrs : List Ctr := [Ctr.overRangeSamples, Ctr.saturatedSamples]

/-- The staging vector with one sample binned, where it is open (R54). -/
def State.binned (s : State) (k code : Nat) (sat : Bool) : Staging :=
  match s.gau.staging with
  | .staging v => .staging (v.take (s.gau.run s.progs[v.prog]) k code sat)
  | other => other

theorem State.binned_staging {s : State} {v : StageVec} (h : s.gau.staging = .staging v) (k code : Nat)
    (sat : Bool) : s.binned k code sat = .staging (v.take (s.gau.run s.progs[v.prog]) k code sat) := by
  rw [State.binned, h]

theorem State.binSample_eq (s : State) (k code : Nat) (sat : Bool) :
    s.binSample k code sat = s.withStaging (s.binned k code sat) := by
  have hsame : ∀ x, s.gau.staging = x → s = s.withStaging x := by
    rintro _ rfl
    rfl
  unfold State.binSample State.binned
  cases hst : s.gau.staging with
  | staging v => rfl
  | idle => exact hsame _ hst
  | committing v q => exact hsame _ hst

theorem State.passSample_eq (s : State) (k : Nat) (w : Word) : s.passSample k w
    = ((s.bumpIf (16383 < w.toNat) Ctr.overRangeSamples).bumpIf (16383 ≤ w.toNat)
        Ctr.saturatedSamples).binSample k (min w.toNat 16383) (16383 ≤ w.toNat) := by
  have hsat : sampleCode w = 16383 ↔ 16383 ≤ w.toNat := by rw [sampleCode]; omega
  simp only [State.passSample, hsat, State.bumpIf, decide_eq_true_eq]
  rfl

/-- A sample passed to the GAU (R37, R54): clamped, counted and binned. -/
theorem State.passSample_spec (s : State) (k : Nat) (w : Word) :
    (s.passSample k w).gau = { s.gau with staging := s.binned k (min w.toNat 16383) (16383 ≤ w.toNat) }
      ∧ (16383 < w.toNat → counted Ctr.overRangeSamples s (s.passSample k w))
      ∧ (16383 ≤ w.toNat → counted Ctr.saturatedSamples s (s.passSample k w))
      ∧ ctrsKept sampleCtrs s (s.passSample k w) := by
  rw [State.passSample_eq, State.binSample_eq]
  have hover := ctrsKept_bumpIf (cs := [Ctr.overRangeSamples]) s (16383 < w.toNat) (List.mem_singleton_self _)
  let u := s.bumpIf (16383 < w.toNat) Ctr.overRangeSamples
  have hsat := ctrsKept_bumpIf (cs := [Ctr.saturatedSamples]) u (16383 ≤ w.toNat) (List.mem_singleton_self _)
  refine ⟨?_, fun h => ?_, fun h => ?_,
    ctrsKept_trans (ctrsKept_mono hover (by decide)) (ctrsKept_mono hsat (by decide))⟩
  · simp [State.binned]
  · refine counted_before_kept ?_ hsat (by decide)
    show counted _ _ (s.bumpIf _ _)
    rw [decide_eq_true h]
    exact counted_bump s _
  · refine counted_after_kept hover (by decide) ?_
    show counted _ u (u.bumpIf _ _)
    rw [decide_eq_true h]
    exact counted_bump u _

/-- Settles O28, by the waiting word, the held open and the sample taken behind it (R31, R53, R54). -/
theorem commitEndReleasesWaitingWord : Obligations.CommitEndReleasesWaitingWord := by
  refine ⟨fun s v hst => ?_, fun s b v r w rest hs hp hpath hnext hexp hb hslip hm hst => ?_⟩
  · have hrun : exec .commitEnd s = .next s.commitEnds := rfl
    rw [hrun, State.commitEnds, hst]
    rfl
  · have hwait : s.mustWait w = true := by
      simp [State.mustWait, hp, hm, hpath, hnext, hst, Staging.busy]
    refine ⟨exec_parserTakes_of_still hs (State.parserTakes_wait hb hwait) rfl rfl rfl, _, rfl, ?_, ?_⟩
    · rw [State.commitEnds, hst]
      rfl
    · let u := s.withStaging (.staging (s.freshVec r))
      have hu : s.commitEnds = u := by rw [State.commitEnds, hst]
      rw [hu]
      have hus : u.settled := State.settled_of_banks hs rfl (fun _ _ => rfl) rfl rfl
      have hfree : u.mustWait w = false := by
        have hbusy : u.gau.staging.busy = false := rfl
        have hup : u.rsp.parser = .samples b := hp
        simp [State.mustWait, hup, hbusy]
      let u1 := u.withRsp { u.rsp with buffer := rest }
      have hup : u1.rsp.parser = .samples b := hp
      have hgau := (u1.passSample_spec 0 w).1
      have htake : u.parserTakes = (u1.passSample 0 w).withRsp
          { (u1.passSample 0 w).rsp with parser := .samples { b with next := 1 } } := by
        rw [State.parserTakes_other (s := u) hb hm hfree, State.takeOther_of_samples hup,
          State.takeSample_within (by omega), hpath, hnext]
        exact State.reachSlips_of_head _ (by simpa [u1] using hslip)
      refine ⟨_, exec_parserTakes_of_settled htake ?_, ?_, ?_⟩
      · exact State.settled_of_banks hus (by simp [hgau, u1]) (fun k _ => by simp [hgau, u1]) (by simp [u1]) (by simp [u1])
      · simp [u1, u]
      · have hbin := State.binned_staging (s := u1) rfl 0 (min w.toNat 16383) (16383 ≤ w.toNat)
        simp only [State.withRsp_gau, hgau, hbin]
        rfl

end Sys2Proof.Machine
end

section
/-! PROOFS. A raised notice stays raised: through everything that the line does within an event, the kind is
pending or in the NOTICE frame on the line (R125, R157, R158). -/

namespace Sys2Proof.Machine

/-! ### Steps of the line (R153, R155, R157) -/

/-- `m` follows from `l` with nothing started: the line and its CURRENT frame are the same, no flag is lost, and
NOTICES_RAISED is no smaller, within its bound. -/
structure Link.Still (l m : Link) : Prop where
  phase : m.slc.phase = l.slc.phase
  current : m.slc.current = l.slc.current
  flags : ∀ i, l.slc.noticeSet.getLsbD i = true → m.slc.noticeSet.getLsbD i = true
  raised : l.ctrs[Ctr.noticesRaised] ≤ Config.counterMax →
    l.ctrs[Ctr.noticesRaised] ≤ m.ctrs[Ctr.noticesRaised] ∧ m.ctrs[Ctr.noticesRaised] ≤ Config.counterMax

theorem Link.Still.refl (l : Link) : l.Still l := ⟨rfl, rfl, fun _ h => h, fun h => ⟨le_rfl, h⟩⟩

theorem Link.Still.trans {l m n : Link} (h : l.Still m) (k : m.Still n) : l.Still n :=
  ⟨k.phase.trans h.phase, k.current.trans h.current, fun i hi => k.flags i (h.flags i hi), fun hb =>
    ⟨(h.raised hb).1.trans (k.raised (h.raised hb).2).1, (k.raised (h.raised hb).2).2⟩⟩

theorem Link.still_bumpBy (l : Link) (c : Ctr) (n : Nat) : l.Still { l with ctrs := Counters.add l.ctrs c n } := by
  refine ⟨rfl, rfl, fun _ h => h, fun hb => ?_⟩
  have hget := Counters.add_get l.ctrs c Ctr.noticesRaised n
  show l.ctrs[Ctr.noticesRaised.val] ≤ (Counters.add l.ctrs c n)[Ctr.noticesRaised.val]
    ∧ (Counters.add l.ctrs c n)[Ctr.noticesRaised.val] ≤ Config.counterMax
  have hb' : l.ctrs[Ctr.noticesRaised.val] ≤ Config.counterMax := hb
  rw [hget]
  split
  · rename_i hc
    subst hc
    omega
  · exact ⟨le_rfl, hb'⟩

theorem Link.still_setFlag (l : Link) (k : NoticeKind) : l.Still (l.setFlag k) :=
  ⟨rfl, rfl, fun _ => Link.setFlag_get k, (l.still_bumpBy Ctr.noticesRaised 1).raised⟩

theorem Link.still_place (l : Link) (f : Frame) : l.Still (l.place f).link := by
  obtain ⟨hphase, hcurrent, -⟩ := Link.placeLoop_line (l.slc.queue.length + 1) l f false
  obtain ⟨-, -, hset, -⟩ := Link.placeLoop_queue (l.slc.queue.length + 1) l f false
  refine ⟨hphase, hcurrent, fun i hi => ?_, fun hb => ?_⟩
  · rw [← hi]
    exact congrArg (BitVec.getLsbD · i) hset
  · have hkeep : (l.place f).link.ctrs[Ctr.noticesRaised] = l.ctrs[Ctr.noticesRaised] :=
      Link.placeLoop_drops _ _ _ _ _ (by decide)
    rw [hkeep]
    exact ⟨le_rfl, hb⟩

/-- What the line does within one event: still steps, an idle line that starts, and a line held and let go. -/
inductive Link.Drifts : Link → Link → Prop where
  | still {l m : Link} : l.Still m → Link.Drifts l m
  | kick (l : Link) : Link.Drifts l l.kick
  | trans {l m n : Link} : Link.Drifts l m → Link.Drifts m n → Link.Drifts l n
  | held {l m : Link} : Link.Drifts l.hold m → Link.Drifts l (m.release l.slc.phase)

theorem Link.drifts_noticeAttempt (l : Link) : l.Drifts l.noticeAttempt := by
  unfold Link.noticeAttempt
  split
  · exact .still (.refl l)
  · refine .trans ?_ (.kick _)
    have hplace := l.still_place l.slc.noticeFrame
    split
    · exact .still (hplace.trans (Link.still_setFlag _ _))
    · exact .still hplace

theorem Link.drifts_raise (l : Link) (k : NoticeKind) : l.Drifts (l.raise k) := by
  unfold Link.raise
  split
  · exact .still (l.still_setFlag k)
  · exact .trans (.still (l.still_setFlag k)) (Link.drifts_noticeAttempt _)

theorem Link.drifts_attempt (l : Link) : l.Drifts l.attemptIfPending := by
  unfold Link.attemptIfPending
  split
  · exact l.drifts_noticeAttempt
  · exact .still (.refl l)

theorem Link.drifts_offer (l : Link) (k : FrameKind) (p : List Byte) : l.Drifts (l.offer k p).1 := by
  have hplace : l.Drifts (l.place ⟨k, l.slc.levels.of k, 0, p.length, p, 0, .nothing⟩).link.kick :=
    .trans (.still (l.still_place _)) (.kick _)
  unfold Link.offer
  dsimp only
  split
  · exact hplace.trans (Link.drifts_raise _ _)
  · exact hplace

theorem Link.Reaches.drifts {l m : Link} (h : l.Reaches m) : l.Drifts m := by
  induction h with
  | refl l => exact .still (.refl l)
  | trans _ _ ihl ihm => exact ihl.trans ihm
  | bumpBy l c n => exact .still (l.still_bumpBy c n)
  | raise l k => exact l.drifts_raise k
  | attempt l => exact l.drifts_attempt
  | offer l p _ => exact l.drifts_offer _ p
  | held _ ih => exact .held ih

/-! ### Raised and still raised (R157) -/

theorem Link.hold_of_busy {l : Link} (h : l.slc.phase ≠ .idle) : l.hold = l := if_neg h

theorem Link.release_of_busy (l : Link) {w : LinePhase} (h : w ≠ .idle) : l.release w = l := if_neg h

/-- On a line that is busy or held nothing starts. -/
theorem Link.Drifts.busy {l m : Link} (h : l.Drifts m) (hl : l.slc.phase ≠ .idle) : l.Still m := by
  induction h with
  | still h => exact h
  | kick l =>
    rw [Link.kick_of_not_idle l hl]
    exact .refl l
  | trans _ _ ihl ihm =>
    have hfirst := ihl hl
    exact hfirst.trans (ihm (hfirst.phase ▸ hl))
  | held _ ih =>
    rw [Link.release_of_busy _ hl]
    rw [Link.hold_of_busy hl] at ih
    exact ih hl

/-- Bit `i` is pending, or a NOTICE frame is CURRENT on a line that is not idle. -/
def Link.firm (l : Link) (i : Nat) : Prop :=
  l.slc.noticeSet.getLsbD i = true ∨ l.slc.phase ≠ .idle ∧ ∃ f : Frame, l.slc.current = some f ∧ f.kind = .notice

theorem Link.Still.firm {l m : Link} (h : l.Still m) {i : Nat} (hi : l.firm i) : m.firm i := by
  obtain hset | ⟨hphase, f, hcur, hkind⟩ := hi
  · exact .inl (h.flags i hset)
  · exact .inr ⟨h.phase ▸ hphase, f, h.current.trans hcur, hkind⟩

/-- A line let start takes the pending set with it in a NOTICE frame, or leaves it (R157). -/
theorem Link.kick_firm {l : Link} {i : Nat} (hi : l.firm i) : l.kick.firm i := by
  obtain hset | hcur := hi
  · unfold Link.kick
    split
    · split
      · rename_i f _
        by_cases hnotice : f.kind = .notice ∧ f.sent = 0
        · refine .inr ⟨by show LinePhase.sending ≠ .idle; decide, (l.slc.without f).filled f, rfl, ?_⟩
          rw [Slc.filled, if_pos hnotice]
          exact hnotice.1
        · refine .inl ?_
          have hplain := (Link.startBlock_plain (l := { l with slc := l.slc.without f }) hnotice).1
          obtain ⟨hsame, -, -⟩ := l.slc.without_notices f
          rw [← hset, Link.startPending, hplain]
          exact congrArg (BitVec.getLsbD · i) hsame
      · exact .inl hset
    · exact .inl hset
  · rw [Link.kick_of_not_idle l hcur.1]
    exact .inr hcur

theorem Link.Drifts.firm {l m : Link} (h : l.Drifts m) {i : Nat} (hi : l.firm i) : m.firm i := by
  induction h with
  | still h => exact h.firm hi
  | kick l => exact Link.kick_firm hi
  | trans _ _ ihl ihm => exact ihm (ihl hi)
  | @held l m h ih =>
    by_cases hidle : l.slc.phase = .idle
    · have hset : l.slc.noticeSet.getLsbD i = true := hi.resolve_right fun hb => hb.1 hidle
      have hhold : l.hold = { l with slc := { l.slc with phase := .boundary } } := if_pos hidle
      have hbusy : l.hold.slc.phase ≠ .idle := by rw [hhold]; show LinePhase.boundary ≠ .idle; decide
      have hkept := (h.busy hbusy).flags i (by rw [hhold]; exact hset)
      have hrelease : m.release l.slc.phase = Link.kick { m with slc := { m.slc with phase := .idle } } := if_pos hidle
      rw [hrelease]
      exact Link.kick_firm (.inl hkept)
    · rw [Link.hold_of_busy hidle] at ih
      rw [Link.release_of_busy _ hidle]
      exact ih hi

theorem Link.Drifts.raised {l m : Link} (h : l.Drifts m) (hl : l.ctrs[Ctr.noticesRaised] ≤ Config.counterMax) :
    l.ctrs[Ctr.noticesRaised] ≤ m.ctrs[Ctr.noticesRaised] ∧ m.ctrs[Ctr.noticesRaised] ≤ Config.counterMax := by
  induction h with
  | still h => exact h.raised hl
  | kick l =>
    have hkeep : l.kick.ctrs[Ctr.noticesRaised] = l.ctrs[Ctr.noticesRaised] := l.kick_ctrs _ (by decide)
    rw [hkeep]
    exact ⟨le_rfl, hl⟩
  | trans _ _ ihl ihm =>
    obtain ⟨hle, hmax⟩ := ihl hl
    exact ⟨hle.trans (ihm hmax).1, (ihm hmax).2⟩
  | @held l m h ih =>
    have hhold : l.hold.ctrs = l.ctrs := by
      unfold Link.hold
      split <;> rfl
    have hkeep : (m.release l.slc.phase).ctrs[Ctr.noticesRaised] = m.ctrs[Ctr.noticesRaised] :=
      m.release_ctrs _ _ (by decide)
    rw [hhold] at ih
    rw [hkeep]
    exact ih hl

/-- A raise leaves its kind pending or on the line (R157). -/
theorem Link.raise_firm (l : Link) (k : NoticeKind) : (l.raise k).firm k.bit := by
  have hset : (l.setFlag k).firm k.bit := .inl (l.setFlag_self k)
  unfold Link.raise
  split
  · exact hset
  · exact (Link.drifts_noticeAttempt _).firm hset

/-- A raise counts in NOTICES_RAISED, short of the counter's bound (R157). -/
theorem Link.raise_raised {l : Link} (k : NoticeKind) (h : l.ctrs[Ctr.noticesRaised] < Config.counterMax) :
    l.ctrs[Ctr.noticesRaised] < (l.raise k).ctrs[Ctr.noticesRaised]
      ∧ (l.raise k).ctrs[Ctr.noticesRaised] ≤ Config.counterMax := by
  have hset : (l.setFlag k).ctrs[Ctr.noticesRaised] = min (l.ctrs[Ctr.noticesRaised] + 1) Config.counterMax :=
    Counters.add_get_self _ _ _
  rw [Nat.min_eq_left h] at hset
  have hup : l.ctrs[Ctr.noticesRaised] < (l.setFlag k).ctrs[Ctr.noticesRaised] := hset ▸ Nat.lt_succ_self _
  have hmax : (l.setFlag k).ctrs[Ctr.noticesRaised] ≤ Config.counterMax := hset ▸ h
  unfold Link.raise
  split
  · exact ⟨hup, hmax⟩
  · obtain ⟨hle, hbound⟩ := (Link.drifts_noticeAttempt (l.setFlag k)).raised hmax
    exact ⟨hup.trans_le hle, hbound⟩

/-- The kind `k` has been raised between `s` and `t`: it is counted within the counter's bound, and pending or
in the NOTICE frame on the line (R157, I.5). -/
def State.told (s t : State) (k : NoticeKind) : Prop :=
  (s.ctrs[Ctr.noticesRaised] < Config.counterMax → s.ctrs[Ctr.noticesRaised] < t.ctrs[Ctr.noticesRaised]
      ∧ t.ctrs[Ctr.noticesRaised] ≤ Config.counterMax)
    ∧ t.link.firm k.bit

theorem State.raise_told (s : State) (k : NoticeKind) : s.told (s.raise k) k :=
  ⟨fun h => Link.raise_raised (l := s.link) k h, s.link.raise_firm k⟩

/-- What happens before a raise, short of its counter, and behind it, short of the line, changes nothing of it. -/
theorem State.told.between {s u v t : State} {k : NoticeKind} (h : u.told v k)
    (hu : u.ctrs[Ctr.noticesRaised] = s.ctrs[Ctr.noticesRaised])
    (ht : t.ctrs[Ctr.noticesRaised] = v.ctrs[Ctr.noticesRaised]) (hslc : t.slc = v.slc) : s.told t k := by
  obtain ⟨hraised, hfirm⟩ := h
  refine ⟨fun hs => ?_, ?_⟩
  · rw [ht, ← hu]
    exact hraised (hu ▸ hs)
  · have hsame : t.slc = v.link.slc := hslc
    unfold Link.firm at hfirm ⊢
    rw [← hsame] at hfirm
    exact hfirm

/-- Nothing that the line does behind a raise takes it back. -/
theorem State.told.reaches {s u t : State} {k : NoticeKind} (h : s.told u k) (ht : u.link.Reaches t.link) :
    s.told t k := by
  obtain ⟨hraised, hfirm⟩ := h
  refine ⟨fun hs => ?_, ht.drifts.firm hfirm⟩
  obtain ⟨hlt, hmax⟩ := hraised hs
  obtain ⟨hle, hbound⟩ := ht.drifts.raised (l := u.link) hmax
  exact ⟨hlt.trans_le hle, hbound⟩

/-- A kind that has been raised is counted, and pending or just sent (R157). -/
theorem State.told.counted_and_told {s t : State} {k : NoticeKind} (h : s.told t k) :
    (s.ctrs[Ctr.noticesRaised] < Config.counterMax → s.ctrs[Ctr.noticesRaised] < t.ctrs[Ctr.noticesRaised])
      ∧ (t.slc.noticeSet.getLsbD k.bit = true ∨ ∃ f : Frame, t.slc.current = some f ∧ f.kind = .notice) :=
  ⟨fun hs => (h.1 hs).1, h.2.imp_right And.right⟩

end Sys2Proof.Machine
end

section
/-! PROOFS. The words of a path check: how one is judged, what it counts and raises, and how sync is gained and
lost over a run of them (R45 to R48). -/

namespace Sys2Proof.Machine

/-! ### One word judged (R46, R47) -/

/-- The errors of the window that a word ends up in (R47). -/
def PathCheck.windowAfter (c : PathCheck) (ok : Bool) : Nat :=
  (if c.wordIndex % 48 = 0 then 0 else c.windowErrors) + (if ok then 0 else 1)

/-- A word that gains sync: the forty-eighth correct one in a row (R47). -/
def PathCheck.gains (c : PathCheck) (ok : Bool) : Bool := !c.inSync && ok && decide (c.correctRun + 1 = 48)

/-- A word that loses sync: the tenth error of its window (R47). -/
def PathCheck.loses (c : PathCheck) (ok : Bool) : Bool := c.inSync && !ok && decide (10 ≤ c.windowAfter ok)

/-- The record after a word (R46, R47). -/
def PathCheck.judged (c : PathCheck) (ok : Bool) : PathCheck := { c with
  compared := c.compared + 1
  wordIndex := c.wordIndex + 1
  windowErrors := c.windowAfter ok
  errors := if c.inSync && !ok then c.errors + 1 else c.errors
  inSync := c.gains ok || (c.inSync && !c.loses ok)
  correctRun := if c.inSync then (if c.loses ok then 0 else c.correctRun) else if ok then c.correctRun + 1 else 0
  syncChanges := if c.gains ok || c.loses ok then c.syncChanges + 1 else c.syncChanges }

theorem PathCheck.compare_eq (c : PathCheck) (ok : Bool) :
    c.compare ok = (c.judged ok, c.inSync && !ok, c.gains ok || c.loses ok) := by
  simp only [PathCheck.compare, PathCheck.judged, PathCheck.gains, PathCheck.loses]
  rw [← PathCheck.windowAfter]
  by_cases hsync : c.inSync = true <;> cases ok
  · by_cases hwin : 10 ≤ c.windowAfter false <;> simp [hsync, hwin]
  · simp [hsync]
  · simp [hsync]
  · by_cases hrun : c.correctRun + 1 = 48 <;> simp [hsync, hrun]

/-! ### Sync gained and lost over a run of words (R47) -/

/-- The record after `n` words, all correct or all wrong. -/
abbrev PathCheck.feed (c : PathCheck) (n : Nat) (ok : Bool) : PathCheck :=
  (List.replicate n ok).foldl (fun d x => (d.compare x).1) c

theorem PathCheck.feed_succ (c : PathCheck) (n : Nat) (ok : Bool) :
    c.feed (n + 1) ok = (c.feed n ok).judged ok := by
  rw [PathCheck.feed, List.replicate_succ', List.foldl_append]
  exact congrArg Prod.fst (PathCheck.compare_eq _ ok)

/-- Out of sync, `n` correct words make a run of `n` short of the forty-eighth. -/
theorem PathCheck.feed_correct {c : PathCheck} (hsync : c.inSync = false) (hrun : c.correctRun = 0) {n : Nat}
    (hn : n < 48) : (c.feed n true).inSync = false ∧ (c.feed n true).correctRun = n
      ∧ (c.feed n true).errors = c.errors ∧ (c.feed n true).compared = c.compared + n
      ∧ (c.feed n true).syncChanges = c.syncChanges := by
  induction n with
  | zero => exact ⟨hsync, hrun, rfl, rfl, rfl⟩
  | succ n ih =>
    obtain ⟨ihsync, ihrun, iherr, ihcmp, ihchg⟩ := ih (by omega)
    have hgain : (c.feed n true).gains true = false := by
      rw [PathCheck.gains, ihrun, ihsync]
      simp only [decide_eq_false (show ¬ n + 1 = 48 by omega), Bool.and_false]
    have hlose : (c.feed n true).loses true = false := by simp [PathCheck.loses]
    rw [PathCheck.feed_succ]
    simp only [PathCheck.judged, hgain, hlose, ihsync, ihrun, iherr, ihcmp, ihchg]
    exact ⟨rfl, rfl, rfl, Nat.add_assoc _ _ _, rfl⟩

/-- In sync, `n` wrong words at the start of a window make `n` errors in it, short of the tenth. -/
theorem PathCheck.feed_wrong {c : PathCheck} (hsync : c.inSync = true) (hword : c.wordIndex % 48 = 0) {n : Nat}
    (hn : n < 10) : (c.feed n false).inSync = true ∧ (c.feed n false).wordIndex = c.wordIndex + n
      ∧ (c.feed n false).windowAfter false = n + 1 ∧ (c.feed n false).errors = c.errors + n
      ∧ (c.feed n false).syncChanges = c.syncChanges := by
  induction n with
  | zero => exact ⟨hsync, rfl, congrArg (· + 1) (if_pos hword), rfl, rfl⟩
  | succ n ih =>
    obtain ⟨ihsync, ihword, ihwin, iherr, ihchg⟩ := ih (by omega)
    have hgain : (c.feed n false).gains false = false := by simp [PathCheck.gains]
    have hlose : (c.feed n false).loses false = false := by
      rw [PathCheck.loses, ihwin]
      simp only [decide_eq_false (show ¬ 10 ≤ n + 1 by omega), Bool.and_false]
    have hin : ¬ (c.wordIndex + n + 1) % 48 = 0 := by omega
    rw [PathCheck.feed_succ]
    have hwin : ((c.feed n false).judged false).windowAfter false = n + 1 + 1 := by
      have hnext : ((c.feed n false).judged false).windowAfter false
          = (if ((c.feed n false).wordIndex + 1) % 48 = 0 then 0 else (c.feed n false).windowAfter false) + 1 := rfl
      rw [hnext, ihword, if_neg hin, ihwin]
    refine ⟨?_, ?_, hwin, ?_, ?_⟩ <;> simp [PathCheck.judged, hgain, hlose, ihsync, ihword, iherr, ihchg, Nat.add_assoc]

/-- The forty-eighth correct word in a row gains sync (R47). -/
theorem PathCheck.feed_gained {c : PathCheck} (hsync : c.inSync = false) (hrun : c.correctRun = 0) :
    (c.feed 48 true).inSync = true ∧ (c.feed 48 true).errors = c.errors
      ∧ (c.feed 48 true).compared = c.compared + 48 ∧ (c.feed 48 true).syncChanges = c.syncChanges + 1 := by
  obtain ⟨hs, hr, he, hc, hg⟩ := PathCheck.feed_correct hsync hrun (show 47 < 48 by decide)
  have hgain : (c.feed 47 true).gains true = true := by simp [PathCheck.gains, hs, hr]
  rw [PathCheck.feed_succ]
  simp [PathCheck.judged, hgain, hs, he, hc, hg]

/-- The tenth wrong word of a window loses sync (R47). -/
theorem PathCheck.feed_lost {c : PathCheck} (hsync : c.inSync = true) (hword : c.wordIndex % 48 = 0) :
    (c.feed 10 false).inSync = false ∧ (c.feed 10 false).errors = c.errors + 10
      ∧ (c.feed 10 false).correctRun = 0 ∧ (c.feed 10 false).syncChanges = c.syncChanges + 1 := by
  obtain ⟨hs, -, hw, he, hg⟩ := PathCheck.feed_wrong hsync hword (show 9 < 10 by decide)
  have hlose : (c.feed 9 false).loses false = true := by simp [PathCheck.loses, hs, hw]
  have hgain : (c.feed 9 false).gains false = false := by simp [PathCheck.gains]
  rw [PathCheck.feed_succ]
  simp [PathCheck.judged, hgain, hlose, hs, he, hg]

/-! ### A word of a path-check burst (R40, R45 to R48) -/

/-- Whether a word is the pattern's (R46). -/
abbrev Burst.matches (b : Burst) (w : Word) : Bool := decide (w.toNat = patternWord b.tag b.next)

/-- The counters of a compared word (R46, R47). -/
def compareCtrs : List Ctr := [Ctr.pathWordsCompared, Ctr.pathWordErrors]

/-- A compared word, before its notice (R46, R47). -/
def State.compared (s : State) (b : Burst) (w : Word) : State :=
  ((s.withRsp { s.rsp with path := s.rsp.path.judged (b.matches w) }).bump Ctr.pathWordsCompared).bumpIf
    (s.rsp.path.inSync && !b.matches w) Ctr.pathWordErrors

theorem State.compared_ctrsKept (s : State) (b : Burst) (w : Word) : ctrsKept compareCtrs s (s.compared b w) :=
  ctrsKept_trans (ctrsKept_bump (s.withRsp _) (by decide)) (ctrsKept_bumpIf _ _ (by decide))

theorem State.compared_eq (s : State) (b : Burst) (w : Word) : s.compared b w = { s with
    rsp := { s.rsp with path := s.rsp.path.judged (b.matches w) }
    ctrs := (s.compared b w).ctrs } := (State.bumpIf_spec _ _ _).2.2

theorem State.compareWord_eq (s : State) (b : Burst) (w : Word) : s.compareWord b w
    = if s.rsp.path.gains (b.matches w) || s.rsp.path.loses (b.matches w)
      then ((s.compared b w).bump Ctr.pathSyncChanges).raise .pathSyncChange else s.compared b w := by
  simp only [State.compareWord, PathCheck.compare_eq]
  rfl

/-- The counters of a compared word and of a sync change (R46, R47). -/
def comparedCtrs : List Ctr := compareCtrs ++ [Ctr.pathSyncChanges] ++ raiseCtrs

/-- What a compared word does (R46, R47). -/
structure State.Compares (s : State) (b : Burst) (w : Word) (t : State) : Prop where
  others : t = { s with
    rsp := { s.rsp with path := s.rsp.path.judged (b.matches w) }
    slc := t.slc
    ctrs := t.ctrs }
  compared : counted Ctr.pathWordsCompared s t
  error : s.rsp.path.inSync = true → b.matches w = false → counted Ctr.pathWordErrors s t
  noError : s.rsp.path.inSync = false ∨ b.matches w = true →
    t.ctrs[Ctr.pathWordErrors] = s.ctrs[Ctr.pathWordErrors]
  change : s.rsp.path.gains (b.matches w) = true ∨ s.rsp.path.loses (b.matches w) = true →
    counted Ctr.pathSyncChanges s t ∧ s.told t .pathSyncChange
  noChange : s.rsp.path.gains (b.matches w) = false → s.rsp.path.loses (b.matches w) = false →
    t.slc = s.slc ∧ ctrsKept compareCtrs s t
  settings : t.slc.sameSettings s.slc
  kept : ctrsKept comparedCtrs s t

/-- The error of a compared word (R47). -/
theorem State.compared_errors (s : State) (b : Burst) (w : Word) :
    (s.rsp.path.inSync = true → b.matches w = false → counted Ctr.pathWordErrors s (s.compared b w))
    ∧ (s.rsp.path.inSync = false ∨ b.matches w = true →
        (s.compared b w).ctrs[Ctr.pathWordErrors] = s.ctrs[Ctr.pathWordErrors]) := by
  let u := (s.withRsp { s.rsp with path := s.rsp.path.judged (b.matches w) }).bump Ctr.pathWordsCompared
  have hkept : ctrsKept [Ctr.pathWordsCompared] s u := ctrsKept_bump (s.withRsp _) (List.mem_singleton_self _)
  refine ⟨fun hsync hok => ?_, fun h => ?_⟩
  · have herr : s.compared b w = u.bump Ctr.pathWordErrors := if_pos (by rw [hsync, hok]; rfl)
    rw [herr]
    exact counted_after_kept hkept (by decide) (counted_bump u _)
  · have hnone : s.compared b w = u := if_neg (by obtain h | h := h <;> simp [h])
    rw [hnone]
    exact hkept _ (by decide)

theorem State.compareWord_compares (s : State) (b : Burst) (w : Word) : s.Compares b w (s.compareWord b w) := by
  have hcount : counted Ctr.pathWordsCompared s (s.compared b w) :=
    counted_before_kept (counted_bump (s.withRsp _) _) (ctrsKept_bumpIf (cs := [Ctr.pathWordErrors]) _ _
      (List.mem_singleton_self _)) (by decide)
  obtain ⟨herr, hnone⟩ := s.compared_errors b w
  have hkept := s.compared_ctrsKept b w
  have hsame := s.compared_eq b w
  have hslc : (s.compared b w).slc = s.slc := (State.bumpIf_spec _ _ _).2.1
  rw [State.compareWord_eq]
  split
  · rename_i hchange
    let u := (s.compared b w).bump Ctr.pathSyncChanges
    have hbump : ctrsKept [Ctr.pathSyncChanges] (s.compared b w) u := ctrsKept_bump _ (List.mem_singleton_self _)
    have hraise := u.raise_ctrsKept .pathSyncChange
    have htail : ctrsKept ([Ctr.pathSyncChanges] ++ raiseCtrs) (s.compared b w) (u.raise .pathSyncChange) :=
      ctrsKept_trans (ctrsKept_mono hbump (by simp)) (ctrsKept_mono hraise (by simp +contextual))
    refine ⟨?_, counted_before_kept hcount htail (by decide),
      fun hs ho => counted_before_kept (herr hs ho) htail (by decide),
      fun h => (htail _ (by decide)).trans (hnone h), fun _ => ⟨?_, ?_⟩, fun hg hl => ?_, ?_,
      ctrsKept_trans (ctrsKept_mono hkept (by decide)) (ctrsKept_mono htail (by decide))⟩
    · exact congrArg (fun x : State => { x with
        slc := (u.raise .pathSyncChange).slc
        ctrs := (u.raise .pathSyncChange).ctrs }) hsame
    · exact counted_after_kept hkept (by decide) (counted_before_kept (counted_bump _ _) hraise (by decide))
    · exact (u.raise_told .pathSyncChange).between
        ((hbump _ (by decide)).trans (hkept _ (by decide))) rfl rfl
    · rw [hg, hl] at hchange
      exact absurd hchange Bool.false_ne_true
    · rw [← hslc]
      exact (Link.raise_settings u.link .pathSyncChange).1
  · rename_i hquiet
    refine ⟨?_, hcount, herr, hnone, fun h => absurd (by simpa using h) hquiet, fun _ _ => ⟨hslc, hkept⟩,
      hslc ▸ Slc.sameSettings_refl _, ctrsKept_mono hkept (by decide)⟩
    rw [hslc]
    exact hsame

/-- What the last word of a path-check burst does behind its comparison (R40, R45). -/
structure State.PathBurstDone (s t : State) : Prop where
  rsp : t.rsp = { s.rsp with
    parser := .trail
    truncTimer := none
    path := { s.rsp.path with
      capture := none
      settled := s.rsp.path.settled + 1
      running := decide (s.rsp.path.issued ≠ s.rsp.path.n) } }
  counted : counted Ctr.pathBursts s t
  kept : ctrsKept [Ctr.pathBursts] s t
  others : t = { s with rsp := t.rsp, ctrs := t.ctrs }

theorem State.completeBurst_path {s : State} {b : Burst} (hb : b.path = true) (hrun : s.rsp.path.running = true) :
    s.PathBurstDone (s.completeBurst b) := by
  have heq : s.completeBurst b = ((s.parserTo .trail).bump Ctr.pathBursts).settlePath := by
    simp only [State.completeBurst, hb, if_true]
  rw [heq]
  exact ⟨State.settlePath_rsp (s := (s.parserTo .trail).bump Ctr.pathBursts) hrun, counted_bump (s.parserTo _) _,
    ctrsKept_bump (s.parserTo _) (List.mem_singleton_self _), rfl⟩

/-- A word of a path-check burst never waits (R31). -/
theorem State.mustWait_of_path {s : State} {b : Burst} (w : Word) (hp : s.rsp.parser = .samples b)
    (hpath : b.path = true) : s.mustWait w = false := by
  simp [State.mustWait, hp, hpath]

/-- Settles O29: the two runs of words by induction on their number, and the word taken by its place in the
burst, past what the comparison does (R40, R45 to R48). -/
theorem pathSyncGainedAndLost : Obligations.PathSyncGainedAndLost := by
  refine ⟨fun c => ⟨fun hs hr => ⟨fun n hn => (PathCheck.feed_correct hs hr hn).1, PathCheck.feed_gained hs hr⟩,
    fun hs hw => ⟨fun n hn => (PathCheck.feed_wrong hs hw hn).1, PathCheck.feed_lost hs hw⟩⟩, ?_⟩
  intro s b w rest hs hp hpath hrun hb hslip hm c ok window gained left judged
  let u := s.withRsp { s.rsp with buffer := rest }
  let v := u.compareWord b w
  have hv : u.Compares b w v := u.compareWord_compares b w
  have htake : s.parserTakes = (u.takeSample b w).reachSlips := by
    rw [State.parserTakes_other hb hm (State.mustWait_of_path w hp hpath), State.takeOther_of_samples (s := u) hp]
  have hrsp : v.rsp = { s.rsp with buffer := rest, path := judged } := congrArg State.rsp hv.others
  have hlast : b.next + 1 = b.expected → u.takeSample b w = v.completeBurst { b with next := b.next + 1 } := by
    intro h
    rw [State.takeSample_last h, hpath]
    rfl
  have hwithin : b.next + 1 ≠ b.expected → u.takeSample b w
      = v.withRsp { v.rsp with parser := .samples { b with next := b.next + 1 } } := by
    intro h
    rw [State.takeSample_within h, hpath]
    rfl
  have hdone := State.completeBurst_path (s := v) (b := { b with next := b.next + 1 }) hpath
    (by rw [hrsp]; exact hrun)
  obtain ⟨t, ht⟩ : ∃ t, u.takeSample b w = t := ⟨_, rfl⟩
  rw [ht] at htake hlast hwithin
  have hkept : t.rsp.buffer = rest ∧ ctrsKept [Ctr.pathBursts] v t ∧ t = { v with rsp := t.rsp, ctrs := t.ctrs } := by
    by_cases h : b.next + 1 = b.expected
    · rw [hlast h]
      exact ⟨by rw [hdone.rsp, hrsp], hdone.kept, hdone.others⟩
    · rw [hwithin h]
      exact ⟨by rw [State.withRsp_rsp, hrsp], ctrsKept_refl _ _, rfl⟩
  obtain ⟨hbuf, hctrs, hothers⟩ := hkept
  have hslc : t.slc = v.slc := (congrArg State.slc hothers :)
  have htrun : s.parserTakes = t :=
    htake.trans (State.reachSlips_of_head t (by rwa [hbuf]))
  have hall : t = { s with rsp := t.rsp, slc := t.slc, ctrs := t.ctrs } := by
    have hput := congrArg (fun x : State => { x with rsp := t.rsp, slc := t.slc, ctrs := t.ctrs }) hv.others
    have hsame : t = { v with rsp := t.rsp, slc := t.slc, ctrs := t.ctrs } := by
      rw [hslc]
      exact hothers
    exact hsame.trans hput
  refine ⟨t, exec_parserTakes_of_still hs htrun (congrArg State.gau hall :) (congrArg State.pcu hall :)
    (congrArg State.ldu hall :), fun h => ⟨?_, ?_⟩, fun h => ⟨?_, ?_⟩,
    counted_before_kept hv.compared hctrs (by decide),
    fun hi ho => counted_before_kept (hv.error hi ho) hctrs (by decide),
    fun h => (hctrs _ (by decide)).trans (hv.noError h), fun h => ?_, fun hg hl => ⟨?_, ?_⟩,
    ctrsKept_trans (ctrsKept_mono hv.kept (by decide)) (ctrsKept_mono hctrs (by decide)), ?_, hall⟩
  · rw [hwithin h, State.withRsp_rsp, hrsp]
  · rw [hwithin h]
    exact hv.kept _ (by decide)
  · rw [hlast h, hdone.rsp, hrsp]
  · rw [hlast h]
    exact counted_after_kept (s := s) (u := v) hv.kept (by decide) hdone.counted
  · obtain ⟨hc, htold⟩ := hv.change h
    exact ⟨counted_before_kept hc hctrs (by decide), (htold.between rfl (hctrs _ (by decide)) hslc).counted_and_told⟩
  · exact hslc.trans (hv.noChange hg hl).1
  · exact ctrsKept_trans (ctrsKept_mono (hv.noChange hg hl).2 (by decide)) (ctrsKept_mono hctrs (by decide))
  · rw [hslc]
    exact hv.settings

end Sys2Proof.Machine
end

section
/-! PROOFS. The judgement of a fired shot's reading that does not trip: its servo fed, its bin and its mark
counted (R12, R14, R15, R18 to R20). -/

namespace Sys2Proof.Machine

/-! ### A servo fed (R18 to R20) -/

/-- The error of a reading (R18). -/
abbrev State.readingErr (s : State) (p : Prog) (e : Nat) : Int := (s.progs[p].eRef : Int) - e

/-- Program p's servo behind a reading, its armed flag aside (R18, R19). -/
abbrev State.fedServo (s : State) (p : Prog) (e : Nat) : Servo :=
  s.fcu.servos[p].feed s.progs[p] (s.readingErr p e)

/-- The servos behind a reading of program p (R17 to R20). -/
def State.fedServos (s : State) (p : Prog) (e : Nat) : Vector Servo 4 :=
  if s.fcu.servos[p].mode = .manual then s.fcu.servos
  else s.fcu.servos.set p ((s.fedServo p e).rearm s.progs[p] (s.readingErr p e))

/-- The reading drives an armed servo to its limit (R20). -/
def State.limitReached (s : State) (p : Prog) (e : Nat) : Prop :=
  s.fcu.servos[p].mode ≠ .manual ∧ 0 < s.readingErr p e
    ∧ (s.fedServo p e).drive = s.progs[p].driveMax ∧ s.fcu.servos[p].armed = true

/-- A change of mode counted (R18, R19). -/
def State.lockCounted (s : State) (before after : ServoMode) : State :=
  match lockEvent before after with
  | some c => s.bump c
  | none => s

/-- The counters of a change of mode. -/
def lockCtrs : List Ctr := [Ctr.servoLocks, Ctr.servoUnlocks]

theorem State.lockCounted_ctrsKept (s : State) (before after : ServoMode) :
    ctrsKept lockCtrs s (s.lockCounted before after) := by
  unfold State.lockCounted
  split
  · rename_i c hc
    refine ctrsKept_bump s ?_
    cases before <;> cases after <;> cases hc <;> decide
  · exact ctrsKept_refl _ s

theorem State.lockCounted_eq (s : State) (before after : ServoMode) :
    s.lockCounted before after = { s with ctrs := (s.lockCounted before after).ctrs } := by
  unfold State.lockCounted
  split <;> rfl

/-- The counters of a servo fed: its changes of mode, and the raise of DRIVE_LIMIT. -/
def feedCtrs : List Ctr := lockCtrs ++ raiseCtrs

/-- What a reading `e` does to program p's servo, its counters and its notice (R17 to R20). -/
structure State.Feeds (s : State) (p : Prog) (e : Nat) (t : State) : Prop where
  others : t = { s with
    fcu := { s.fcu with servos := s.fedServos p e }
    slc := t.slc
    ctrs := t.ctrs }
  locks : s.fcu.servos[p].mode = .acquire → (s.fedServo p e).mode = .track → counted Ctr.servoLocks s t
  unlocks : s.fcu.servos[p].mode = .track → (s.fedServo p e).mode = .acquire → counted Ctr.servoUnlocks s t
  limit : s.limitReached p e → s.told t .driveLimit
  noLimit : ¬ s.limitReached p e → t.slc = s.slc
  settings : t.slc.sameSettings s.slc
  kept : ctrsKept feedCtrs s t

theorem State.feedServo_manual {s : State} {p : Prog} (h : s.fcu.servos[p].mode = .manual) (e : Nat) :
    s.feedServo p e = s := by
  simp only [State.feedServo]
  exact if_pos h

/-- The servo of program p and its counter behind a reading, before DRIVE_LIMIT (R18, R19). -/
def State.fed (s : State) (p : Prog) (e : Nat) : State :=
  (s.withFcu { s.fcu with servos := s.fedServos p e }).lockCounted s.fcu.servos[p].mode (s.fedServo p e).mode

theorem State.feedServo_eq {s : State} {p : Prog} (h : s.fcu.servos[p].mode ≠ .manual) (e : Nat) :
    s.feedServo p e = if (s.fedServo p e).atLimit s.progs[p] (s.readingErr p e) then (s.fed p e).raise .driveLimit
      else s.fed p e := by
  have hservos : s.fedServos p e = s.fcu.servos.set p ((s.fedServo p e).rearm s.progs[p] (s.readingErr p e)) :=
    if_neg h
  simp only [State.feedServo, State.fed, hservos]
  exact if_neg h

theorem State.limitReached_iff {s : State} {p : Prog} (h : s.fcu.servos[p].mode ≠ .manual) (e : Nat) :
    s.limitReached p e ↔ (s.fedServo p e).atLimit s.progs[p] (s.readingErr p e) = true := by
  rw [Servo.atLimit_iff, Servo.feed_armed]
  exact and_iff_right h

theorem State.fed_others (s : State) (p : Prog) (e : Nat) : s.fed p e = { s with
    fcu := { s.fcu with servos := s.fedServos p e }
    ctrs := (s.fed p e).ctrs } := State.lockCounted_eq _ _ _

theorem State.fed_ctrsKept (s : State) (p : Prog) (e : Nat) : ctrsKept lockCtrs s (s.fed p e) :=
  State.lockCounted_ctrsKept (s.withFcu _) _ _

theorem State.fed_lock {s : State} {p : Prog} {e : Nat} {c : Ctr}
    (h : lockEvent s.fcu.servos[p].mode (s.fedServo p e).mode = some c) : counted c s (s.fed p e) := by
  rw [State.fed, State.lockCounted, h]
  exact counted_bump (s.withFcu _) c

theorem State.feedServo_feeds (s : State) (p : Prog) (e : Nat) : s.Feeds p e (s.feedServo p e) := by
  by_cases hmode : s.fcu.servos[p].mode = .manual
  · have hservos : s.fedServos p e = s.fcu.servos := if_pos hmode
    rw [State.feedServo_manual hmode]
    refine ⟨by rw [hservos], fun h => ?_, fun h => ?_, fun h => absurd hmode h.1, fun _ => rfl,
      Slc.sameSettings_refl _, ctrsKept_refl _ s⟩
    · rw [hmode] at h; cases h
    · rw [hmode] at h; cases h
  · have hlimit := State.limitReached_iff hmode e
    have hkept := s.fed_ctrsKept p e
    have hslc : (s.fed p e).slc = s.slc := (congrArg State.slc (s.fed_others p e) :)
    have hlock : s.fcu.servos[p].mode = .acquire → (s.fedServo p e).mode = .track →
        counted Ctr.servoLocks s (s.fed p e) := fun h h' => State.fed_lock (by rw [h, h']; rfl)
    have hunlock : s.fcu.servos[p].mode = .track → (s.fedServo p e).mode = .acquire →
        counted Ctr.servoUnlocks s (s.fed p e) := fun h h' => State.fed_lock (by rw [h, h']; rfl)
    rw [State.feedServo_eq hmode]
    split
    · rename_i hat
      have hraise := (s.fed p e).raise_ctrsKept .driveLimit
      refine ⟨?_, fun h h' => counted_before_kept (hlock h h') hraise (by decide),
        fun h h' => counted_before_kept (hunlock h h') hraise (by decide),
        fun _ => ((s.fed p e).raise_told .driveLimit).between (hkept _ (by decide)) rfl rfl,
        fun h => absurd (hlimit.2 hat) h, hslc ▸ (Link.raise_settings (s.fed p e).link .driveLimit).1,
        ctrsKept_trans (ctrsKept_mono hkept (by decide)) (ctrsKept_mono hraise (by decide))⟩
      exact congrArg (fun x : State => { x with
        slc := ((s.fed p e).raise .driveLimit).slc
        ctrs := ((s.fed p e).raise .driveLimit).ctrs }) (s.fed_others p e)
    · rename_i hat
      refine ⟨?_, hlock, hunlock, fun h => absurd (hlimit.1 h) hat, fun _ => hslc,
        hslc ▸ Slc.sameSettings_refl _, ctrsKept_mono hkept (by decide)⟩
      rw [hslc]
      exact s.fed_others p e

/-! ### The judgement (R12, R14, R15) -/

/-- A fired shot behind a reading that is not above 5/4 of E_ref, before a misfire trip (R12, R14, R15). -/
def State.shotJudged (s : State) (sh : Shot) (e : Nat) : State :=
  let weak := decide (2 * e < s.progs[sh.prog].eRef)
  let u := (s.withFcu { s.fcu with
    shot := some { sh with headerTaken := true, weak := sh.weak || weak }
    lostRun := 0
    weakRun := if 2 * e < s.progs[sh.prog].eRef then s.fcu.weakRun + 1 else 0 }).bumpIf weak Ctr.weakShots
  (u.feedServo sh.prog e).bump (energyBin e s.progs[sh.prog].eRef)

theorem State.judge_of_fire {s : State} {sh : Shot} (hk : sh.kind = .fire) (e : Nat) :
    s.judge sh e = (s.matchShot sh).judgeFire sh e := by
  rw [State.judge, hk]

theorem State.judgeFire_normal {s : State} {sh : Shot} {e : Nat} (hk : sh.kind = .fire)
    (hw : ¬ 2 * e < s.progs[sh.prog].eRef) (he : 4 * e ≤ 5 * s.progs[sh.prog].eRef) :
    s.judge sh e = s.shotJudged sh e := by
  simp only [State.judge_of_fire hk, State.judgeFire, State.matchShot_frame, hw, he, if_false, if_true,
    State.shotJudged, decide_false, Bool.or_false]
  rfl

theorem State.judgeFire_weak {s : State} {sh : Shot} {e : Nat} (hk : sh.kind = .fire)
    (hw : 2 * e < s.progs[sh.prog].eRef) : s.judge sh e = if 16 ≤ s.fcu.weakRun + 1
      then (s.shotJudged sh e).tripFcu .misfire sh.slot else s.shotJudged sh e := by
  simp only [State.judge_of_fire hk, State.judgeFire, State.judgeWeak, State.matchShot_frame, hw, if_true,
    State.shotJudged, decide_true, Bool.or_true]
  rfl

/-- The bins of the energy histogram (R12). -/
def binCtrs : List Ctr :=
  [Ctr.energyBin1, Ctr.energyBin2, Ctr.energyBin3, Ctr.energyBin4, Ctr.energyBin5, Ctr.energyBin6, Ctr.energyBin7]

theorem energyBin_mem (e ref : Nat) : energyBin e ref ∈ binCtrs := by
  unfold energyBin
  (repeat' split) <;> decide

/-- The counters of a judgement that does not trip. -/
def judgeCtrs : List Ctr := Ctr.weakShots :: binCtrs ++ feedCtrs

/-- A servo is fed by its record, its program's and the reading alone (R17 to R20). -/
theorem State.fedServos_congr {s u : State} (hp : u.progs = s.progs) (hv : u.fcu.servos = s.fcu.servos) (p : Prog)
    (e : Nat) : u.fedServos p e = s.fedServos p e ∧ u.fedServo p e = s.fedServo p e
      ∧ (u.limitReached p e ↔ s.limitReached p e) := by
  simp only [State.fedServos, State.fedServo, State.limitReached, State.readingErr, hp, hv, and_self]

/-- What the judgement of a fired shot does short of a trip (R12, R14, R15, R18 to R20). -/
structure State.Judges (s : State) (sh : Shot) (e : Nat) (t : State) : Prop where
  others : t = { s with
    fcu := { s.fcu with
      shot := some { sh with headerTaken := true, weak := sh.weak || decide (2 * e < s.progs[sh.prog].eRef) }
      lostRun := 0
      weakRun := if 2 * e < s.progs[sh.prog].eRef then s.fcu.weakRun + 1 else 0
      servos := s.fedServos sh.prog e }
    slc := t.slc
    ctrs := t.ctrs }
  bin : counted (energyBin e s.progs[sh.prog].eRef) s t
  weak : 2 * e < s.progs[sh.prog].eRef → counted Ctr.weakShots s t
  locks : s.fcu.servos[sh.prog].mode = .acquire → (s.fedServo sh.prog e).mode = .track →
    counted Ctr.servoLocks s t
  unlocks : s.fcu.servos[sh.prog].mode = .track → (s.fedServo sh.prog e).mode = .acquire →
    counted Ctr.servoUnlocks s t
  limit : s.limitReached sh.prog e → s.told t .driveLimit
  noLimit : ¬ s.limitReached sh.prog e → t.slc = s.slc
  settings : t.slc.sameSettings s.slc
  kept : ctrsKept judgeCtrs s t

theorem State.shotJudged_judges (s : State) (sh : Shot) (e : Nat) : s.Judges sh e (s.shotJudged sh e) := by
  let weak := decide (2 * e < s.progs[sh.prog].eRef)
  let s0 := s.withFcu { s.fcu with
    shot := some { sh with headerTaken := true, weak := sh.weak || weak }
    lostRun := 0
    weakRun := if 2 * e < s.progs[sh.prog].eRef then s.fcu.weakRun + 1 else 0 }
  obtain ⟨u, hu⟩ : ∃ u, s0.bumpIf weak Ctr.weakShots = u := ⟨_, rfl⟩
  have huSame : u = { s0 with ctrs := u.ctrs } := hu ▸ (State.bumpIf_spec s0 weak Ctr.weakShots).2.2
  have huKept : ctrsKept [Ctr.weakShots] s u := hu ▸ ctrsKept_bumpIf s0 weak (List.mem_singleton_self _)
  have huWeak : 2 * e < s.progs[sh.prog].eRef → counted Ctr.weakShots s u := by
    intro h
    have hbump : s0.bumpIf weak Ctr.weakShots = s0.bump Ctr.weakShots := if_pos (decide_eq_true h)
    rw [← hu, hbump]
    exact counted_bump s0 _
  obtain ⟨hservos, hservo, hlimit⟩ := State.fedServos_congr (s := s) (u := u) (congrArg State.progs huSame :)
    (congrArg (fun x : State => x.fcu.servos) huSame :) sh.prog e
  have huServo : u.fcu.servos = s.fcu.servos := (congrArg (fun x : State => x.fcu.servos) huSame :)
  have hfed := u.feedServo_feeds sh.prog e
  obtain ⟨v, hv⟩ : ∃ v, u.feedServo sh.prog e = v := ⟨_, rfl⟩
  rw [hv] at hfed
  have ht : s.shotJudged sh e = v.bump (energyBin e s.progs[sh.prog].eRef) := by
    rw [← hv, ← hu]
    rfl
  have hbin : ctrsKept binCtrs v (s.shotJudged sh e) := ht ▸ ctrsKept_bump v (energyBin_mem _ _)
  have hbefore : ∀ {c : Ctr}, counted c u v → c ∉ [Ctr.weakShots] → c ∉ binCtrs → counted c s (s.shotJudged sh e) :=
    fun h hc hb => counted_before_kept (counted_after_kept huKept hc h) hbin hb
  have hcold : ctrsKept (Ctr.weakShots :: feedCtrs) s v :=
    ctrsKept_trans (ctrsKept_mono huKept (by simp)) (ctrsKept_mono hfed.kept fun _ h => List.mem_cons_of_mem _ h)
  have hslc : (s.shotJudged sh e).slc = v.slc := ht ▸ rfl
  refine ⟨?_, ?_, fun h => ?_, fun h h' => ?_, fun h h' => ?_, fun h => ?_, fun h => ?_, ?_, ?_⟩
  · have hfrom := congrArg (fun x : State => { x with
      slc := v.slc
      ctrs := (s.shotJudged sh e).ctrs }) hfed.others
    rw [hservos] at hfrom
    have hbase := congrArg (fun x : State => { x with
      fcu := { x.fcu with servos := s.fedServos sh.prog e }
      slc := v.slc
      ctrs := (s.shotJudged sh e).ctrs }) huSame
    rw [hslc]
    refine Eq.trans ?_ (hfrom.trans hbase)
    rw [ht]
    rfl
  · refine counted_after_kept hcold (fun h => ?_) (ht ▸ counted_bump v _)
    have hdisjoint : ∀ c ∈ binCtrs, c ∉ Ctr.weakShots :: feedCtrs := by decide
    exact hdisjoint _ (energyBin_mem _ _) h
  · exact counted_before_kept (counted_before_kept (huWeak h) hfed.kept (by decide)) hbin (by decide)
  · exact hbefore (hfed.locks (by rw [huServo]; exact h) (by rw [hservo]; exact h')) (by decide) (by decide)
  · exact hbefore (hfed.unlocks (by rw [huServo]; exact h) (by rw [hservo]; exact h')) (by decide) (by decide)
  · exact (hfed.limit (hlimit.2 h)).between (huKept _ (by decide)) (hbin _ (by decide)) hslc
  · exact hslc.trans ((hfed.noLimit (mt hlimit.1 h)).trans (congrArg State.slc huSame :))
  · have huSlc : u.slc = s.slc := (congrArg State.slc huSame :)
    rw [hslc, ← huSlc]
    exact hfed.settings
  · exact ctrsKept_trans (ctrsKept_mono hcold (by decide)) (ctrsKept_mono hbin (by decide))

/-- A reading that passes: of a dark capture below half of E_ref, or of a fired shot not above 5/4 of it, short
of the sixteenth WEAK in a row (R12 to R14). -/
def State.passes (s : State) (sh : Shot) (e : Nat) : Prop :=
  sh.kind = .dark ∧ 2 * e < s.progs[sh.prog].eRef
    ∨ sh.kind = .fire ∧ 4 * e ≤ 5 * s.progs[sh.prog].eRef ∧ s.fcu.weakRun < 15

theorem State.judge_of_pass {s : State} {sh : Shot} {e : Nat} (hk : sh.kind = .fire)
    (he : 4 * e ≤ 5 * s.progs[sh.prog].eRef) (hr : s.fcu.weakRun < 15) : s.judge sh e = s.shotJudged sh e := by
  by_cases hw : 2 * e < s.progs[sh.prog].eRef
  · rw [State.judgeFire_weak hk hw, if_neg (by omega)]
  · exact State.judgeFire_normal hk hw he

/-- What the judgement of a passing reading leaves alone, whatever the capture (R12, R13, R15). -/
structure State.Passed (s : State) (sh : Shot) (e : Nat) (t : State) : Prop where
  others : t = { s with fcu := t.fcu, slc := t.slc, ctrs := t.ctrs }
  fcu : t.fcu = { s.fcu with
    shot := t.fcu.shot
    lostRun := 0
    weakRun := t.fcu.weakRun
    servos := if sh.kind = .fire then s.fedServos sh.prog e else s.fcu.servos }
  kept : ctrsKept judgeCtrs s t

theorem State.passes.judge {s : State} {sh : Shot} {e : Nat} (h : s.passes sh e) : s.Passed sh e (s.judge sh e) := by
  obtain ⟨hk, he⟩ | ⟨hk, he, hr⟩ := h
  · rw [s.judge_darkPasses sh e hk he]
    have hservos : (if sh.kind = .fire then s.fedServos sh.prog e else s.fcu.servos) = s.fcu.servos :=
      if_neg (by rw [hk]; decide)
    refine ⟨rfl, ?_, ctrsKept_refl _ s⟩
    rw [hservos]
    rfl
  · rw [State.judge_of_pass hk he hr]
    have hj := s.shotJudged_judges sh e
    have hservos : (if sh.kind = .fire then s.fedServos sh.prog e else s.fcu.servos) = s.fedServos sh.prog e :=
      if_pos hk
    have hfcu := congrArg State.fcu hj.others
    refine ⟨?_, ?_, hj.kept⟩
    · rw [hfcu]
      exact hj.others
    · rw [hservos, hfcu]

end Sys2Proof.Machine
end

section
/-! PROOFS. Bursts rejected before completion: headers that fail, and bursts in SAMPLES that end short, slipped
or truncated, of a shot or a path check (R32, R34 to R36, R38, R40, R45, R55). -/

namespace Sys2Proof.Machine

/-! ### What moves the profile path leaves of the parser -/

theorem State.moveProfiles_staging (s : State) : s.moveProfiles.gau.staging = s.gau.staging :=
  State.moveProfiles_rel (R := fun s t => t.gau.staging = s.gau.staging) (fun _ => rfl) (fun h k => k.trans h)
    (fun s b k => by
      by_cases h : s.gau.banks[b].outcome.getD .void = .void
      · rw [s.condBegin_of_void k h, s.passVoid_gau]; rfl
      · rw [s.condBegin_of_not_void k h]; rfl)
    (fun s k => by simp)
    (fun s => by unfold State.countWait; split; · rfl
                 · dsimp only; split <;> rfl) s

/-! ### The capture rejected (R8, R40, R45, R55) -/

theorem State.closeIfDone_staging (s : State) (b : Fin 6) : (s.closeIfDone b).gau.staging = s.gau.staging := by
  unfold State.closeIfDone
  dsimp only
  split <;> rfl

theorem State.settleOwn_staging (s : State) (slot : Fin 32) : (s.settleOwn slot).gau.staging = s.gau.staging := by
  unfold State.settleOwn
  split
  · rfl
  · exact State.closeIfDone_staging _ _

/-- The path check with its capture settled (R45, R48). -/
def PathCheck.settledOne (c : PathCheck) : PathCheck := { c with
  capture := none
  settled := c.settled + 1
  running := decide (c.issued ≠ c.n) }

/-- The path check as the settlement of the burst's capture leaves it. -/
abbrev State.checkLeft (s : State) (path : Bool) : PathCheck :=
  if path then s.rsp.path.settledOne else s.rsp.path

/-- The FCU as the settlement of the burst's capture leaves it. -/
abbrev State.fcuLeft (s : State) (path : Bool) : Fcu := if path then s.fcu else { s.fcu with shot := none }

/-- What a rejection leaves: the capture settled, the vector IDLE (R8, R40, R45, R55). -/
structure State.Rejected (path : Bool) (s t : State) : Prop where
  rsp : t.rsp = { s.rsp with path := s.checkLeft path }
  fcu : t.fcu = s.fcuLeft path
  staging : t.gau.staging = .idle
  kept : ctrsKept outcomeCtrs s t

theorem State.rejectCapture_rejected {s : State} {path : Bool} (h : path = true → s.rsp.path.running = true) :
    s.Rejected path (s.rejectCapture path) := by
  cases path with
  | true =>
    exact ⟨State.settlePath_rsp (s := s.discardStaging) (h rfl), rfl, rfl, ctrsKept_refl _ _⟩
  | false =>
    refine ⟨?_, s.rejectCapture_fcu, ?_, s.rejectCapture_ctrsKept⟩
    · simp only [State.rejectCapture, Bool.false_eq_true, if_false]
      split <;> simp [State.checkLeft]
    · simp only [State.rejectCapture, Bool.false_eq_true, if_false]
      split
      · unfold State.settleShot
        split
        · exact State.settleOwn_staging _ _
        · rfl
      · rfl

/-! ### Behind the slip points -/

theorem behindSlips_of_head {rest : List BufItem} (h : rest.head? ≠ some .slip) : behindSlips rest = rest := by
  cases rest with
  | nil => rfl
  | cons x xs =>
    cases x with
    | slip => exact absurd rfl h
    | word w => rfl

/-- The slip points at the head change nothing else of a parser that hunts (R32). -/
theorem State.reachSlips_hunt {s : State} (hp : s.rsp.parser = .hunt) (ht : s.rsp.truncTimer = none) :
    s.reachSlips = s.withRsp { s.rsp with buffer := behindSlips s.rsp.buffer } := by
  by_cases hslip : s.rsp.buffer.head? = some .slip
  · obtain ⟨rest, hb⟩ : ∃ rest, s.rsp.buffer = .slip :: rest := by
      cases hb : s.rsp.buffer with
      | nil => rw [hb] at hslip; cases hslip
      | cons x xs => rw [hb] at hslip; cases hslip; exact ⟨xs, rfl⟩
    have hbehind : behindSlips s.rsp.buffer = behindSlips rest := by rw [hb]; rfl
    rw [State.reachSlips_hunting hb (.inl hp), State.slipped, ← hp, ← ht, hbehind]
  · rw [State.reachSlips_of_head s hslip, behindSlips_of_head hslip]
    rfl

/-! ### What an event that ends a capture leaves -/

/-- `t` follows from `s` with the given RSP and FCU and an IDLE vector, counted by `c` (R40). -/
structure State.Ends (s : State) (r : Rsp) (f : Fcu) (c : Ctr) (t : State) : Prop where
  rsp : t.rsp = r
  fcu : t.fcu = f
  staging : t.gau.staging = .idle
  counted : counted c s t

theorem State.Ends.moved {s t : State} {r : Rsp} {f : Fcu} {c : Ctr} (h : s.Ends r f c t) (hc : c ∉ pathCtrs) :
    s.Ends r f c t.moveProfiles :=
  ⟨(by simp [h.rsp]), (by simp [h.fcu]), (State.moveProfiles_staging t).trans h.staging,
    counted_before_kept h.counted (State.moveProfiles_ctrsKept t) hc⟩

/-! ### Bursts in SAMPLES (R32, R38, R40) -/

/-- A rejected burst, counted by `c` first (R40). -/
theorem State.rejectBurst_ends {s : State} {b : Burst} (hrun : b.path = true → s.rsp.path.running = true) {c : Ctr}
    (hc : c ∉ outcomeCtrs) :
    s.Ends { s.rsp with parser := .hunt, truncTimer := none, path := s.checkLeft b.path } (s.fcuLeft b.path) c
        ((s.bump c).rejectBurst b)
      ∧ ctrsKept (c :: outcomeCtrs) s ((s.bump c).rejectBurst b) := by
  have hrej := State.rejectCapture_rejected (s := (s.bump c).parserTo .hunt) hrun
  have hbump : ctrsKept [c] s (s.bump c) := ctrsKept_bump s (List.mem_singleton_self _)
  exact ⟨⟨hrej.rsp, hrej.fcu, hrej.staging, counted_before_kept (counted_bump s c) hrej.kept hc⟩,
    ctrsKept_trans (ctrsKept_mono hbump (by simp))
      (ctrsKept_mono hrej.kept fun _ h => List.mem_cons_of_mem _ h)⟩

theorem State.takeMark_of_samples {s : State} {w : Word} {b : Burst} (h : s.rsp.parser = .samples b) :
    s.takeMark w = (((s.bump Ctr.shortBursts).rejectBurst b).raise .slip).parserTo (.header w none) := by
  simp only [State.takeMark, h]

/-- A raise behind it changes the line and the counters of raises alone. -/
theorem State.Ends.raised {s t : State} {r : Rsp} {f : Fcu} {c : Ctr} (h : s.Ends r f c t) (hc : c ∉ raiseCtrs)
    (k : NoticeKind) : s.Ends r f c (t.raise k) :=
  ⟨h.rsp, h.fcu, h.staging, counted_before_kept h.counted (t.raise_ctrsKept k) hc⟩

/-- A slip point reached in SAMPLES (R32, R40). -/
theorem State.reachSlips_ends {s : State} {b : Burst} {rest : List BufItem} (hp : s.rsp.parser = .samples b)
    (hrun : b.path = true → s.rsp.path.running = true) (hb : s.rsp.buffer = .slip :: rest) :
    s.Ends { s.rsp with
        buffer := behindSlips rest
        parser := .hunt
        truncTimer := none
        path := s.checkLeft b.path } (s.fcuLeft b.path) Ctr.slippedBursts s.reachSlips
      ∧ ctrsKept (Ctr.slippedBursts :: outcomeCtrs) s s.reachSlips := by
  rw [State.reachSlips_samples hb hp]
  obtain ⟨⟨hrsp, hfcu, hstaging, hcount⟩, hkept⟩ := State.rejectBurst_ends
    (s := s.withRsp { s.rsp with buffer := behindSlips rest }) hrun (c := Ctr.slippedBursts) (by decide)
  exact ⟨⟨hrsp, hfcu, hstaging, hcount⟩, hkept⟩

/-- A slip point at the head of the buffer ends the burst in SAMPLES (R32). -/
theorem burstSlipped {s : State} {b : Burst} {rest : List BufItem} (hp : s.rsp.parser = .samples b)
    (hrun : b.path = true → s.rsp.path.running = true) (hb : s.rsp.buffer = .slip :: rest) :
    s.Ends { s.rsp with
      buffer := behindSlips rest
      parser := .hunt
      truncTimer := none
      path := s.checkLeft b.path } (s.fcuLeft b.path) Ctr.slippedBursts s.parserTakes.moveProfiles := by
  rw [State.parserTakes_slip hb]
  exact (State.reachSlips_ends hp hrun hb).1.moved (by decide)

/-- The truncation timer ends the burst in SAMPLES (R40). -/
theorem burstTruncated {s : State} {b : Burst} {us : Nat} (hp : s.rsp.parser = .samples b)
    (hrun : b.path = true → s.rsp.path.running = true) (ht : s.rsp.truncTimer = some us) :
    s.Ends { s.rsp with parser := .hunt, truncTimer := none, path := s.checkLeft b.path } (s.fcuLeft b.path)
      Ctr.truncatedBursts s.truncate.moveProfiles := by
  have heq : s.truncate = ((s.bump Ctr.truncatedBursts).rejectBurst b).raise .slip := by
    simp only [State.truncate, ht, hp]
  rw [heq]
  exact ((State.rejectBurst_ends hrun (by decide)).1.raised (by decide) _).moved (by decide)

/-- A mark ends the burst in SAMPLES, and begins a header that a slip point behind it drops (R32, R38). -/
theorem burstShort {s : State} {b : Burst} {w : Word} {rest : List BufItem} (hp : s.rsp.parser = .samples b)
    (hrun : b.path = true → s.rsp.path.running = true) (hb : s.rsp.buffer = .word w :: rest)
    (hm : isMark w = true) :
    (rest.head? ≠ some .slip → s.parserTakes.moveProfiles.rsp = { s.rsp with
      buffer := rest
      parser := .header w none
      truncTimer := none
      path := s.checkLeft b.path })
    ∧ (rest.head? = some .slip → s.parserTakes.moveProfiles.rsp = { s.rsp with
        buffer := behindSlips rest
        parser := .hunt
        truncTimer := none
        path := s.checkLeft b.path } ∧ counted Ctr.discardedWords s s.parserTakes.moveProfiles)
    ∧ s.parserTakes.moveProfiles.fcu = s.fcuLeft b.path
    ∧ s.parserTakes.moveProfiles.gau.staging = .idle
    ∧ counted Ctr.shortBursts s s.parserTakes.moveProfiles := by
  let u := s.withRsp { s.rsp with buffer := rest }
  obtain ⟨hends, hkept⟩ := State.rejectBurst_ends (s := u) hrun (c := Ctr.shortBursts) (by decide)
  obtain ⟨v, hv⟩ : ∃ v, (u.bump Ctr.shortBursts).rejectBurst b = v := ⟨_, rfl⟩
  rw [hv] at hends hkept
  have hraised := hends.raised (by decide) .slip
  let x := (v.raise .slip).parserTo (.header w none)
  have htake : s.parserTakes = x.reachSlips := by
    rw [State.parserTakes_mark hb hm, State.takeMark_of_samples (s := u) hp, hv]
  have hxrsp : x.rsp = { s.rsp with
      buffer := rest
      parser := .header w none
      truncTimer := none
      path := s.checkLeft b.path } := by
    show { (v.raise .slip).rsp with parser := .header w none, truncTimer := none } = _
    rw [hraised.rsp]
    rfl
  have hxfcu : x.fcu = s.fcuLeft b.path := hraised.fcu
  have hxstaging : x.gau.staging = .idle := hraised.staging
  have hshort : counted Ctr.shortBursts s x := hraised.counted
  have hdiscarded : x.ctrs[Ctr.discardedWords] = s.ctrs[Ctr.discardedWords] :=
    (v.raise_ctrsKept .slip _ (by decide)).trans (hkept _ (by decide))
  have hmoved : ∀ y : State, y.moveProfiles.rsp = y.rsp ∧ y.moveProfiles.fcu = y.fcu :=
    fun y => ⟨by simp, by simp⟩
  by_cases hslip : rest.head? = some .slip
  · obtain ⟨tail, htail⟩ : ∃ tail, rest = .slip :: tail := by
      cases rest with
      | nil => cases hslip
      | cons y ys => cases hslip; exact ⟨ys, rfl⟩
    have hxbuf : x.rsp.buffer = .slip :: tail := by rw [hxrsp, ← htail]
    have hend : s.parserTakes = (x.slipped tail).bump Ctr.discardedWords :=
      htake.trans (State.reachSlips_header (m := w) (r := none) hxbuf (by rw [hxrsp]))
    have hbump := ctrsKept_bump (cs := [Ctr.discardedWords]) (c := Ctr.discardedWords) (x.slipped tail)
      (List.mem_singleton_self _)
    have hcount : counted Ctr.discardedWords s ((x.slipped tail).bump Ctr.discardedWords) := by
      have h := counted_bump (x.slipped tail) Ctr.discardedWords
      unfold counted at h ⊢
      rw [h]
      exact congrArg (fun n => min (n + 1) Config.counterMax) hdiscarded
    have hbehind : behindSlips rest = behindSlips tail := by rw [htail]; rfl
    rw [hend]
    refine ⟨fun h => absurd hslip h, fun _ => ⟨?_, ?_⟩, ?_, ?_, ?_⟩
    · rw [(hmoved _).1, hbehind]
      show { x.rsp with buffer := behindSlips tail, parser := .hunt, truncTimer := none } = _
      rw [hxrsp]
    · exact counted_before_kept hcount (State.moveProfiles_ctrsKept _) (by decide)
    · rw [(hmoved _).2]
      exact hxfcu
    · rw [State.moveProfiles_staging]
      exact hxstaging
    · exact counted_before_kept (counted_before_kept hshort hbump (by decide)) (State.moveProfiles_ctrsKept _)
        (by decide)
  · have hend : s.parserTakes = x := htake.trans (State.reachSlips_of_head x (by rw [hxrsp]; exact hslip))
    rw [hend]
    exact ⟨fun _ => (hmoved x).1.trans hxrsp, fun h => absurd h hslip, (hmoved x).2.trans hxfcu,
      (State.moveProfiles_staging x).trans hxstaging,
      counted_before_kept hshort (State.moveProfiles_ctrsKept x) (by decide)⟩

/-- The parser behind a sample that is not the last. -/
abbrev State.nextSample (s : State) (b : Burst) : State :=
  s.withRsp { s.rsp with parser := .samples { b with next := b.next + 1 } }

theorem State.takeSample_shot {s : State} {b : Burst} {w : Word} (hpath : b.path = false)
    (h : b.next + 1 ≠ b.expected) : s.takeSample b w = (s.passSample b.next w).nextSample b :=
  (State.takeSample_within h).trans
    (congrArg (State.nextSample · b) (if_neg (by rw [hpath]; exact Bool.false_ne_true)))

theorem State.takeSample_path {s : State} {b : Burst} {w : Word} (hpath : b.path = true)
    (h : b.next + 1 ≠ b.expected) : s.takeSample b w = (s.compareWord b w).nextSample b :=
  (State.takeSample_within h).trans (congrArg (State.nextSample · b) (if_pos hpath))

/-- What happened before, short of the counter, does not matter. -/
theorem State.Ends.after {s v t : State} {r : Rsp} {f : Fcu} {c : Ctr} {cs : List Ctr} (h : v.Ends r f c t)
    (hk : ctrsKept cs s v) (hc : c ∉ cs) : s.Ends r f c t :=
  ⟨h.rsp, h.fcu, h.staging, counted_after_kept hk hc h.counted⟩

/-- A word within a burst of a shot or a dark capture, a slip point behind it (R32, R37, R40). -/
theorem sampleSlipped {s : State} {b : Burst} {w : Word} {rest : List BufItem} (hp : s.rsp.parser = .samples b)
    (hpath : b.path = false) (hb : s.rsp.buffer = .word w :: .slip :: rest) (hm : isMark w = false)
    (hnext : b.next + 1 < b.expected) (hfree : b.next ≠ 0 ∨ s.gau.staging.busy = false) :
    s.Ends { s.rsp with buffer := behindSlips rest, parser := .hunt, truncTimer := none }
        { s.fcu with shot := none } Ctr.slippedBursts s.parserTakes.moveProfiles
      ∧ (16383 ≤ w.toNat → counted Ctr.saturatedSamples s s.parserTakes.moveProfiles) := by
  let u := s.withRsp { s.rsp with buffer := .slip :: rest }
  let b1 : Burst := { b with next := b.next + 1 }
  obtain ⟨x, hx⟩ : ∃ x, u.passSample b.next w = x := ⟨_, rfl⟩
  have hwait : s.mustWait w = false := by
    obtain h | h := hfree <;> simp [State.mustWait, hp, h]
  have hxrsp : x.rsp = u.rsp := hx ▸ (by simp)
  have hxfcu : x.fcu = s.fcu := hx ▸ (by simp [u])
  obtain ⟨-, -, hsat, hkept⟩ := u.passSample_spec b.next w
  rw [hx] at hsat hkept
  let v := x.withRsp { x.rsp with parser := .samples b1 }
  have hvrsp : v.rsp = { s.rsp with buffer := .slip :: rest, parser := .samples b1 } :=
    congrArg (fun r : Rsp => { r with parser := .samples b1 }) hxrsp
  have htake : s.parserTakes = v.reachSlips := by
    rw [State.parserTakes_other hb hm hwait, State.takeOther_of_samples (s := u) hp,
      State.takeSample_shot hpath hnext.ne, hx]
  obtain ⟨hends, hslipKept⟩ := State.reachSlips_ends (s := v) (b := b1) (rest := rest) rfl
    (fun h => absurd (hpath.symm.trans h) Bool.false_ne_true) (by rw [hvrsp])
  have hcheck : v.checkLeft b1.path = s.rsp.path := by
    rw [State.checkLeft, hvrsp, if_neg (by show ¬ b.path = true; rw [hpath]; exact Bool.false_ne_true)]
  have hfcu : v.fcuLeft b1.path = { s.fcu with shot := none } := by
    rw [State.fcuLeft, if_neg (by show ¬ b.path = true; rw [hpath]; exact Bool.false_ne_true)]
    show { x.fcu with shot := none } = _
    rw [hxfcu]
  rw [hcheck, hfcu, hvrsp] at hends
  have hfrom : s.Ends _ _ _ v.reachSlips := hends.after (cs := sampleCtrs) hkept (by decide)
  rw [htake]
  refine ⟨hfrom.moved (by decide), fun h => ?_⟩
  exact counted_before_kept (counted_before_kept (hsat h) hslipKept (by decide)) (State.moveProfiles_ctrsKept _)
    (by decide)

/-- A word within a path-check burst, compared before the slip point behind it (R32, R45, R46). -/
theorem pathWordSlipped {s : State} {b : Burst} {w : Word} {rest : List BufItem} (hp : s.rsp.parser = .samples b)
    (hpath : b.path = true) (hrun : s.rsp.path.running = true) (hb : s.rsp.buffer = .word w :: .slip :: rest)
    (hm : isMark w = false) (hnext : b.next + 1 < b.expected) :
    s.Ends { s.rsp with
        buffer := behindSlips rest
        parser := .hunt
        truncTimer := none
        path := (s.rsp.path.judged (b.matches w)).settledOne } s.fcu Ctr.slippedBursts s.parserTakes.moveProfiles
      ∧ counted Ctr.pathWordsCompared s s.parserTakes.moveProfiles := by
  let u := s.withRsp { s.rsp with buffer := .slip :: rest }
  let b1 : Burst := { b with next := b.next + 1 }
  obtain ⟨x, hx⟩ : ∃ x, u.compareWord b w = x := ⟨_, rfl⟩
  have hcmp : u.Compares b w x := hx ▸ u.compareWord_compares b w
  have hxrsp : x.rsp = { u.rsp with path := s.rsp.path.judged (b.matches w) } := (congrArg State.rsp hcmp.others :)
  have hxfcu : x.fcu = s.fcu := (congrArg State.fcu hcmp.others :)
  let v := x.withRsp { x.rsp with parser := .samples b1 }
  have hvrsp : v.rsp = { s.rsp with
      buffer := .slip :: rest
      parser := .samples b1
      path := s.rsp.path.judged (b.matches w) } := congrArg (fun r : Rsp => { r with parser := .samples b1 }) hxrsp
  have htake : s.parserTakes = v.reachSlips := by
    rw [State.parserTakes_other hb hm (State.mustWait_of_path w hp hpath), State.takeOther_of_samples (s := u) hp,
      State.takeSample_path hpath hnext.ne, hx]
  obtain ⟨hends, hslipKept⟩ := State.reachSlips_ends (s := v) (b := b1) (rest := rest) rfl
    (fun _ => by rw [hvrsp]; exact hrun) (by rw [hvrsp])
  have hcheck : v.checkLeft b1.path = (s.rsp.path.judged (b.matches w)).settledOne := by
    rw [State.checkLeft, hvrsp]
    exact if_pos hpath
  have hfcu : v.fcuLeft b1.path = s.fcu := (if_pos (c := b1.path = true) hpath).trans hxfcu
  rw [hcheck, hfcu, hvrsp] at hends
  have hfrom : s.Ends _ _ _ v.reachSlips := hends.after (cs := comparedCtrs) hcmp.kept (by decide)
  rw [htake]
  exact ⟨hfrom.moved (by decide), counted_before_kept (counted_before_kept (u := v) hcmp.compared hslipKept (by decide))
    (State.moveProfiles_ctrsKept _) (by decide)⟩

/-! ### Headers that fail (R34 to R36) -/

/-- The count word of a header taken. -/
theorem State.parserTakes_count {s : State} {m r w : Word} {rest : List BufItem}
    (hb : s.rsp.buffer = .word w :: rest) (hm : isMark w = false) (hp : s.rsp.parser = .header m (some r)) :
    s.parserTakes = ((s.withRsp { s.rsp with buffer := rest }).takeHeader m r w).reachSlips := by
  rw [State.parserTakes_other hb hm (s.mustWait_of_not_samples w (by simp [hp]))]
  have hup : (s.withRsp { s.rsp with buffer := rest }).rsp.parser = .header m (some r) := hp
  simp only [State.takeOther, hup]

theorem State.takeHeader_stray {s : State} (m r w : Word) (h : s.rsp.path.running = true ∧ s.rsp.path.capture = none
    ∨ s.rsp.path.running = false ∧ s.fcu.shot = none) :
    s.takeHeader m r w = (s.bump Ctr.strayBursts).failHeader := by
  unfold State.takeHeader
  obtain ⟨hrun, hnone⟩ | ⟨hrun, hnone⟩ := h <;> simp only [hrun, hnone, if_true, Bool.false_eq_true, if_false]

theorem State.takeHeader_shot {s : State} {sh : Shot} (m r w : Word) (hrun : s.rsp.path.running = false)
    (hs : s.fcu.shot = some sh) : s.takeHeader m r w = s.shotHeader sh m r w := by
  simp only [State.takeHeader, hrun, hs, Bool.false_eq_true, if_false]

theorem State.takeHeader_path {s : State} {c : PathCapture} (m r w : Word) (hrun : s.rsp.path.running = true)
    (hc : s.rsp.path.capture = some c) : s.takeHeader m r w = s.pathHeader c m w := by
  simp only [State.takeHeader, hrun, hc, if_true]

/-- What a header that fails for the cause `c` leaves, with the slip points behind it (R33, R35, R36). -/
structure State.HeaderFails (s : State) (path : Bool) (c : Ctr) (t : State) : Prop where
  ends : s.Ends { s.rsp with
    buffer := behindSlips s.rsp.buffer
    parser := .hunt
    truncTimer := none
    path := s.checkLeft path } (s.fcuLeft path) c t
  discarded : t.ctrs[Ctr.discardedWords] = min (s.ctrs[Ctr.discardedWords] + 3) Config.counterMax

theorem State.headerFails {s : State} {path : Bool} (hrun : path = true → s.rsp.path.running = true) {c : Ctr}
    (hc : c ∉ Ctr.discardedWords :: outcomeCtrs) :
    s.HeaderFails path c (((s.bump c).failHeader).rejectCapture path).reachSlips := by
  let u := (s.bump c).failHeader
  have hrej : u.Rejected path (u.rejectCapture path) := State.rejectCapture_rejected hrun
  have hslips := State.reachSlips_hunt (s := u.rejectCapture path) (by rw [hrej.rsp]; rfl) (by rw [hrej.rsp]; rfl)
  have hwords : ctrsKept [Ctr.discardedWords] (s.bump c) u :=
    ctrsKept_bumpBy ((s.bump c).parserTo .hunt) 3 (List.mem_singleton_self _)
  have hne : Ctr.discardedWords ∉ [c] := fun h => hc (List.mem_cons.2 (.inl (List.mem_singleton.1 h).symm))
  have hbefore : (s.bump c).ctrs[Ctr.discardedWords] = s.ctrs[Ctr.discardedWords] :=
    ctrsKept_bump (cs := [c]) s (List.mem_singleton_self c) _ hne
  rw [hslips]
  refine ⟨⟨?_, hrej.fcu, hrej.staging, counted_before_kept (u := u) (counted_before_kept (counted_bump s c) hwords
    fun h => hc (List.mem_cons.2 (.inl (List.mem_singleton.1 h)))) hrej.kept fun h => hc (List.mem_cons_of_mem _ h)⟩, ?_⟩
  · rw [State.withRsp_rsp, hrej.rsp]
    rfl
  · have hadd : u.ctrs[Ctr.discardedWords] = min ((s.bump c).ctrs[Ctr.discardedWords] + 3) Config.counterMax :=
      Counters.add_get_self _ _ _
    rw [← hbefore, ← hadd]
    exact hrej.kept _ (by decide)

theorem State.shotHeader_tag {s : State} {sh : Shot} {m : Word} (r w : Word)
    (h : markTag m ≠ sh.tag ∨ markTest m = true) :
    s.shotHeader sh m r w = ((s.bump Ctr.tagErrors).failHeader).rejectCapture false := by
  rw [State.shotHeader]
  exact if_pos h

theorem State.shotHeader_length {s : State} {sh : Shot} {m r w : Word} (ht : markTag m = sh.tag)
    (hm : markTest m = false) (hj : (s.judge sh (readingOf r)).fcu.state ≠ .tripped)
    (hw : w.toNat ≠ (s.judge sh (readingOf r)).fcu.firing.recordLen) : s.shotHeader sh m r w
      = (((s.judge sh (readingOf r)).bump Ctr.lengthErrors).failHeader).rejectCapture false := by
  simp [State.shotHeader, ht, hm, hj, hw]

theorem State.pathHeader_tag {s : State} {c : PathCapture} {m : Word} (w : Word)
    (h : markTag m ≠ c.tag ∨ markTest m = false) :
    s.pathHeader c m w = ((s.bump Ctr.tagErrors).failHeader).rejectCapture true := by
  rw [State.pathHeader]
  exact if_pos h

/-- The path check with its capture's header taken (R45). -/
abbrev State.pathTaken (s : State) (c : PathCapture) : State :=
  s.withRsp { s.rsp with path := { s.rsp.path with capture := some { c with headerTaken := true } } }

theorem State.pathHeader_length {s : State} {c : PathCapture} {m w : Word} (ht : markTag m = c.tag)
    (hm : markTest m = true) (hw : w.toNat ≠ c.len) : s.pathHeader c m w
      = (((s.pathTaken c).bump Ctr.lengthErrors).failHeader).rejectCapture true := by
  simp [State.pathHeader, ht, hm, hw]

/-- A header rejected behind a state `v` that a judgement may have changed, with the profile path moved. -/
theorem headerRejected {s v : State} {path : Bool} {c : Ctr}
    (htake : s.parserTakes = (((v.bump c).failHeader).rejectCapture path).reachSlips)
    (hrun : path = true → v.rsp.path.running = true) (hv : ctrsKept judgeCtrs s v)
    (hc : c = Ctr.tagErrors ∨ c = Ctr.lengthErrors) :
    s.Ends { v.rsp with
      buffer := behindSlips v.rsp.buffer
      parser := .hunt
      truncTimer := none
      path := v.checkLeft path } (v.fcuLeft path) c s.parserTakes.moveProfiles
    ∧ s.parserTakes.moveProfiles.ctrs[Ctr.discardedWords]
      = min (s.ctrs[Ctr.discardedWords] + 3) Config.counterMax := by
  have hclean : c ∉ Ctr.discardedWords :: outcomeCtrs ∧ c ∉ judgeCtrs ∧ c ∉ pathCtrs := by
    obtain rfl | rfl := hc <;> decide
  have hbefore : v.ctrs[Ctr.discardedWords] = s.ctrs[Ctr.discardedWords] := hv _ (by decide)
  obtain ⟨hends, hwords⟩ := State.headerFails hrun hclean.1
  rw [htake]
  refine ⟨(hends.after hv hclean.2.1).moved hclean.2.2, ?_⟩
  rw [← hbefore, ← hwords]
  exact State.moveProfiles_ctrsKept _ _ (by decide)

/-- Settles O26: every rejection is one settlement of the capture (R40, R45, R55), behind what the header's
judgement or the word before a slip point did. -/
theorem burstRejectedBeforeCompletion : Obligations.BurstRejectedBeforeCompletion := by
  intro s hs left hunting lost
  refine ⟨fun m r w rest hb hm hp => ?_, fun b sh hp hpath hshot => ?_, fun b hp hpath hrun => ?_, fun h => ?_⟩
  · have hcount := State.parserTakes_count hb hm hp
    let u := s.withRsp { s.rsp with buffer := rest }
    refine ⟨fun h => ?_, fun sh hrun hs => ⟨fun htag => ?_, fun htag htest hlen hfcu hpass => ?_⟩,
      fun c hrun hcap => ⟨fun htag => ?_, fun htag htest hlen => ?_⟩⟩
    · have hstray := u.takeHeader_stray m r w h
      have hend := hcount.trans ((congrArg State.reachSlips hstray).trans (State.reachSlips_hunt rfl rfl))
      exact exec_parserTakes_of_still hs hend rfl rfl rfl
    · rw [State.takeHeader_shot (s := u) m r w hrun hs, State.shotHeader_tag r w htag] at hcount
      obtain ⟨hends, hwords⟩ := headerRejected hcount nofun (ctrsKept_refl _ s) (.inl rfl)
      exact ⟨_, rfl, hends.rsp, hends.fcu, hends.staging, hends.counted, hwords⟩
    · have hjudge : u.Passed sh (readingOf r) (u.judge sh (readingOf r)) := State.passes.judge hpass
      obtain ⟨v, hv⟩ : ∃ v, u.judge sh (readingOf r) = v := ⟨_, rfl⟩
      rw [hv] at hjudge
      have hfiring : v.fcu.firing = s.fcu.firing := (congrArg Fcu.firing hjudge.fcu :)
      have hstate : v.fcu.state = .running := by rw [hjudge.fcu]; exact hfcu
      have hrsp : v.rsp = u.rsp := (congrArg State.rsp hjudge.others :)
      rw [State.takeHeader_shot (s := u) m r w hrun hs, State.shotHeader_length htag htest
        (by rw [hv, hstate]; decide) (by rw [hv, hfiring]; exact hlen), hv] at hcount
      obtain ⟨hends, hwords⟩ := headerRejected hcount nofun hjudge.kept (.inr rfl)
      refine ⟨_, rfl, ?_, ?_, ?_, ?_, hends.staging, hends.counted, hwords⟩
      · rw [hends.rsp, State.checkLeft, hrsp]
        rfl
      · rw [hends.fcu]
        rfl
      · rw [hends.fcu]
        exact hstate
      · rw [hends.fcu, State.fcuLeft, hjudge.fcu]
        rfl
    · rw [State.takeHeader_path (s := u) m r w hrun hcap, State.pathHeader_tag w htag] at hcount
      obtain ⟨hends, -⟩ := headerRejected hcount (fun _ => hrun) (ctrsKept_refl _ s) (.inl rfl)
      exact ⟨_, rfl, hends.rsp, hends.fcu, hends.counted⟩
    · rw [State.takeHeader_path (s := u) m r w hrun hcap, State.pathHeader_length htag htest hlen] at hcount
      obtain ⟨hends, -⟩ := headerRejected hcount (fun _ => hrun) (ctrsKept_refl _ s) (.inr rfl)
      exact ⟨_, rfl, hends.rsp, hends.fcu, hends.counted⟩
  · have hnot : b.path = true → s.rsp.path.running = true := fun h => absurd (hpath.symm.trans h) Bool.false_ne_true
    have hcheck : s.checkLeft b.path = s.rsp.path := by rw [hpath]; rfl
    have hfcu : s.fcuLeft b.path = { s.fcu with shot := none } := by rw [hpath]; rfl
    refine ⟨fun w rest hb hm => ?_, fun rest hb => ?_, fun w rest hb hm hnext hfree => ?_, fun us ht => ?_⟩
    · have hshort := burstShort hp hnot hb hm
      rw [hcheck, hfcu] at hshort
      exact ⟨_, rfl, hshort⟩
    · have hslip := burstSlipped hp hnot hb
      rw [hcheck, hfcu] at hslip
      exact ⟨_, rfl, hslip.rsp, hslip.fcu, hslip.staging, hslip.counted⟩
    · obtain ⟨hends, hsat⟩ := sampleSlipped hp hpath hb hm hnext hfree
      exact ⟨_, rfl, hends.rsp, hends.fcu, hends.staging, hends.counted, hsat⟩
    · have htrunc := burstTruncated hp hnot ht
      rw [hcheck, hfcu] at htrunc
      exact ⟨_, rfl, htrunc.rsp, htrunc.fcu, htrunc.staging, htrunc.counted⟩
  · have hcheck : s.checkLeft b.path = lost := by rw [hpath]; rfl
    have hfcu : s.fcuLeft b.path = s.fcu := by rw [hpath]; rfl
    refine ⟨fun w rest hb hm => ?_, fun rest hb => ?_, fun w rest hb hm hnext => ?_, fun us ht => ?_⟩
    · have hshort := burstShort hp (fun _ => hrun) hb hm
      rw [hcheck, hfcu] at hshort
      exact ⟨_, rfl, hshort⟩
    · have hslip := burstSlipped hp (fun _ => hrun) hb
      rw [hcheck, hfcu] at hslip
      exact ⟨_, rfl, hslip.rsp, hslip.fcu, hslip.staging, hslip.counted⟩
    · obtain ⟨hends, hcmp⟩ := pathWordSlipped hp hpath hrun hb hm hnext
      rw [show s.rsp.path.compare _ = _ from PathCheck.compare_eq _ _]
      exact ⟨_, rfl, hends.rsp, hends.fcu, hends.staging, hends.counted, hcmp⟩
    · have htrunc := burstTruncated hp (fun _ => hrun) ht
      rw [hcheck, hfcu] at htrunc
      exact ⟨_, rfl, htrunc.rsp, htrunc.fcu, htrunc.staging, htrunc.counted⟩
  · have hsame : s.truncate = s := by
      unfold State.truncate
      split
      · rename_i us b ht hb
        obtain h | h := h
        · exact absurd hb (h b)
        · rw [h] at ht
          cases ht
      · rfl
    have hrun : exec .truncationTimerExpiry s = .next s.truncate.moveProfiles := rfl
    rw [hrun, hsame, hs.moveProfiles]

end Sys2Proof.Machine
end

section
/-! PROOFS. The last sample of a burst: the shot or the dark capture added into its bank or discarded, and the
bank closed where its window is complete (R40, R55, R61 to R64, R67). -/

namespace Sys2Proof.Machine

/-! ### Banks written (R61, R62) -/

theorem Gau.setBank_self (g : Gau) (b : Fin 6) : g.setBank b g.banks[b] = g := by simp [Gau.setBank]

/-- The bank of a shot is found by its state and its mark alone (R61). -/
theorem Gau.ownBank_setBank {g : Gau} {slot : Fin 32} {k : Fin 6} {m : Bank} (h : g.ownBank slot = some k)
    (hs : m.state = g.banks[k].state) (ho : m.ownShot = g.banks[k].ownShot) :
    (g.setBank k m).ownBank slot = some k := by
  rw [← h, Gau.ownBank, Gau.ownBank]
  congr 1
  funext b
  have hget := Gau.setBank_get g k b m
  by_cases hb : b = k
  · rw [if_pos hb] at hget
    rw [hget, hs, ho, hb]
  · rw [if_neg hb] at hget
    rw [hget]

/-- The settlement of a shot clears the mark in its bank, which may close it (R61, R62). -/
theorem State.settleOwn_setBank {y : State} {g : Gau} {slot : Fin 32} {k : Fin 6} {m : Bank}
    (hg : y.gau = g.setBank k m) (h : g.ownBank slot = some k) (hs : m.state = g.banks[k].state)
    (ho : m.ownShot = g.banks[k].ownShot) :
    y.settleOwn slot = (y.withGau (g.setBank k { m with ownShot := none })).closeIfDone k := by
  have hget : (g.setBank k m).banks[k] = m := (Gau.setBank_get g k k m).trans (if_pos rfl)
  simp only [State.settleOwn, hg, Gau.ownBank_setBank h hs ho]
  rw [hget, Gau.setBank_setBank]

theorem State.closeIfDone_open {z : State} {g : Gau} {k : Fin 6} {m : Bank} (hg : z.gau = g.setBank k m)
    (he : m.elapsed < m.copy.nTarget) : z.closeIfDone k = z := by
  have hget : (g.setBank k m).banks[k] = m := (Gau.setBank_get g k k m).trans (if_pos rfl)
  rw [State.closeIfDone]
  refine if_neg fun h => ?_
  rw [hg, hget] at h
  exact he.ne h.1

theorem State.closeIfDone_done {z : State} {g : Gau} {k : Fin 6} {m : Bank} (hg : z.gau = g.setBank k m)
    (he : m.elapsed = m.copy.nTarget) (ho : m.ownShot = none) :
    z.closeIfDone k = z.closeBank k
      ∧ (z.closeBank k).gau = { g.setBank k m.closedAs with queue := g.queue ++ [k] }
      ∧ counted (outcomeOf m.nAcc m.copy.nTarget).ctr z (z.closeBank k) := by
  have hget : (g.setBank k m).banks[k] = m := (Gau.setBank_get g k k m).trans (if_pos rfl)
  have hbank : z.gau.banks[k] = m := by rw [hg, hget]
  refine ⟨?_, ?_, ?_⟩
  · rw [State.closeIfDone]
    exact if_pos (by rw [hbank]; exact ⟨he, ho⟩)
  · rw [State.closeBank_gau, hbank, hg, Gau.setBank_setBank]
    rfl
  · have hcount := counted_bump (z.withGau { z.gau.setBank k z.gau.banks[k].closedAs with
      queue := z.gau.queue ++ [k] }) (outcomeOf z.gau.banks[k].nAcc z.gau.banks[k].copy.nTarget).ctr
    rw [hbank] at hcount
    have hclose : z.closeBank k = (z.withGau { z.gau.setBank k m.closedAs with
        queue := z.gau.queue ++ [k] }).bump (outcomeOf m.nAcc m.copy.nTarget).ctr := by rw [← hbank]; rfl
    rw [hclose]
    exact hcount

/-- A bank closed behind others waiting, with the PCU and the LDU busy, sets off nothing (R71, R90). -/
theorem State.settled_of_closed {s t : State} {k : Fin 6} (hs : s.settled) (hq : t.gau.queue = s.gau.queue ++ [k])
    (hne : s.gau.queue ≠ []) (hfresh : k ∉ s.gau.queue)
    (hb : ∀ j : Fin 6, j ≠ k → t.gau.banks[j] = s.gau.banks[j]) (hp : t.pcu = s.pcu) (hl : t.ldu = s.ldu)
    (hpcu : s.pcu.job.isSome = true) (hldu : s.ldu.job.isSome = true) : t.settled := by
  refine ⟨State.condReady_none_of_job (by rw [hp]; exact hpcu), State.detReady_none_of_job (by rw [hl]; exact hldu),
    State.waitSettled_iff.2 fun b ⟨hhead, hstate, hfree, hcounted⟩ => ?_⟩
  obtain ⟨c, cs, hcs⟩ := List.exists_cons_of_ne_nil hne
  rw [hq, hcs] at hhead
  obtain rfl : c = b := Option.some.inj hhead
  have hck : c ≠ k := fun h => hfresh (by rw [hcs, h]; exact List.mem_cons_self)
  rw [hb c hck] at hstate hcounted
  exact State.waitSettled_iff.1 hs.2.2 c ⟨by rw [hcs]; rfl, hstate, hp ▸ hfree, hcounted⟩

/-! ### The last sample of a burst (R40) -/

theorem State.completeBurst_accepted {s : State} {b : Burst} {sh : Shot} (hb : b.path = false)
    (hs : s.fcu.shot = some sh) (hk : sh.kind = .fire) (hw : sh.weak = false) : s.completeBurst b
      = (((s.parserTo .trail).bump Ctr.firedAccepted).commitFire sh.slot).settleShot sh .accepted := by
  have hshot : (s.parserTo .trail).fcu.shot = some sh := hs
  simp only [State.completeBurst, hb, hshot, hk, hw, Bool.false_eq_true, if_false]

theorem State.completeBurst_weak {s : State} {b : Burst} {sh : Shot} (hb : b.path = false)
    (hs : s.fcu.shot = some sh) (hk : sh.kind = .fire) (hw : sh.weak = true) :
    s.completeBurst b = (s.parserTo .trail).settleShot sh .rejected := by
  have hshot : (s.parserTo .trail).fcu.shot = some sh := hs
  simp only [State.completeBurst, hb, hshot, hk, hw, Bool.false_eq_true, if_false, if_true]

theorem State.completeBurst_dark {s : State} {b : Burst} {sh : Shot} (hb : b.path = false)
    (hs : s.fcu.shot = some sh) (hk : sh.kind = .dark) : s.completeBurst b
      = (((s.parserTo .trail).bump Ctr.darkAccepted).commitDark sh.prog).settleShot sh .accepted := by
  have hshot : (s.parserTo .trail).fcu.shot = some sh := hs
  simp only [State.completeBurst, hb, hshot, hk, Bool.false_eq_true, if_false]

theorem State.settleShot_fire {s : State} {sh : Shot} (hk : sh.kind = .fire) (fate : Fate) :
    s.settleShot sh fate = (if fate = .accepted then s.withFcu { s.fcu with shot := none }
      else (s.withFcu { s.fcu with shot := none }).discardStaging).settleOwn sh.slot := by
  simp only [State.settleShot, hk]

theorem State.settleShot_dark {s : State} {sh : Shot} (hk : sh.kind = .dark) (fate : Fate) :
    s.settleShot sh fate = s.withFcu { s.fcu with shot := none } := by
  simp only [State.settleShot, hk]

theorem StageVec.take_energy (v : StageVec) (run : List GateEntry) (k code : Nat) (sat : Bool) :
    (v.take run k code sat).energy = v.energy := by
  unfold StageVec.take
  split <;> rfl

/-- A bank behind the settlement of its shot: added, unless the shot was WEAK, and its mark cleared (R55, R61). -/
def Bank.settledShot (k : Bank) (sh : Shot) (v : StageVec) : Bank :=
  { if sh.weak then k else k.addShot v with ownShot := none }

theorem Bank.settledShot_window (k : Bank) (sh : Shot) (v : StageVec) :
    (k.settledShot sh v).elapsed = k.elapsed ∧ (k.settledShot sh v).copy = k.copy
      ∧ (k.settledShot sh v).state = k.state ∧ (k.settledShot sh v).ownShot = none := by
  unfold Bank.settledShot
  cases sh.weak <;> exact ⟨rfl, rfl, rfl, rfl⟩

/-- What the completion of a fired shot's burst does, before its bank may close (R40, R55, R61). -/
structure State.ShotCompletes (x : State) (sh : Shot) (v : StageVec) (k : Fin 6) (z : State) : Prop where
  gau : z.gau = ({ x.gau with staging := if sh.weak then .idle else .committing v none } : Gau).setBank k
    (x.gau.banks[k].settledShot sh v)
  fcu : z.fcu = { x.fcu with shot := none }
  rsp : z.rsp = { x.rsp with parser := .trail, truncTimer := none }
  pcu : z.pcu = x.pcu
  ldu : z.ldu = x.ldu
  accepted : sh.weak = false → counted Ctr.firedAccepted x z
  weak : sh.weak = true → z.ctrs = x.ctrs
  kept : ctrsKept [Ctr.firedAccepted] x z

theorem State.commitFire_own {s : State} {slot : Fin 32} {v : StageVec} {k : Fin 6}
    (hst : s.gau.staging = .staging v) (h : s.gau.ownBank slot = some k) : s.commitFire slot
      = (s.withGau (s.gau.setBank k (s.gau.banks[k].addShot v))).withStaging (.committing v none) := by
  simp only [State.commitFire, hst, h, Staging.contents]

theorem State.completeBurst_fire {x : State} {b : Burst} {sh : Shot} {v : StageVec} {k : Fin 6} (hb : b.path = false)
    (hs : x.fcu.shot = some sh) (hk : sh.kind = .fire) (hst : x.gau.staging = .staging v)
    (h : x.gau.ownBank sh.slot = some k) :
    ∃ z, x.completeBurst b = z.closeIfDone k ∧ x.ShotCompletes sh v k z := by
  cases hw : sh.weak with
  | true =>
    let g : Gau := { x.gau with staging := .idle }
    let y := ((x.parserTo .trail).withFcu { x.fcu with shot := none }).discardStaging
    have hy : y.gau = g.setBank k g.banks[k] := (Gau.setBank_self g k).symm
    let z := y.withGau (g.setBank k { g.banks[k] with ownShot := none })
    refine ⟨z, ?_, ?_, rfl, rfl, rfl, rfl, fun h => absurd (hw.symm.trans h) (by decide), fun _ => rfl,
      ctrsKept_refl _ x⟩
    · rw [State.completeBurst_weak hb hs hk hw, State.settleShot_fire hk]
      exact State.settleOwn_setBank hy h rfl rfl
    · simp only [Bank.settledShot, hw]
      rfl
  | false =>
    let x1 := (x.parserTo .trail).bump Ctr.firedAccepted
    let g : Gau := { x.gau with staging := .committing v none }
    let y := (x1.commitFire sh.slot).withFcu { (x1.commitFire sh.slot).fcu with shot := none }
    have hcommit := State.commitFire_own (s := x1) hst h
    have hy : y.gau = g.setBank k (g.banks[k].addShot v) := (congrArg State.gau hcommit :)
    have hfcu : y.fcu = { x.fcu with shot := none } := by
      show { (x1.commitFire sh.slot).fcu with shot := none } = _
      rw [hcommit]
      rfl
    have hctrs : (x1.commitFire sh.slot).ctrs = x1.ctrs := by simp
    have hrsp : (x1.commitFire sh.slot).rsp = x1.rsp := by simp
    have hpcu : (x1.commitFire sh.slot).pcu = x1.pcu := by simp
    have hldu : (x1.commitFire sh.slot).ldu = x1.ldu := by simp
    have hcount : counted Ctr.firedAccepted x x1 := counted_bump (x.parserTo _) _
    have hkept : ctrsKept [Ctr.firedAccepted] x x1 := ctrsKept_bump (x.parserTo _) (List.mem_singleton_self _)
    let z := y.withGau (g.setBank k { g.banks[k].addShot v with ownShot := none })
    refine ⟨z, ?_, ?_, hfcu, hrsp, hpcu, hldu, fun _ => ?_, fun h => absurd (hw.symm.trans h) (by decide), ?_⟩
    · rw [State.completeBurst_accepted hb hs hk hw, State.settleShot_fire hk]
      exact State.settleOwn_setBank hy h rfl rfl
    · simp only [Bank.settledShot, hw]
      rfl
    · show (x1.commitFire sh.slot).ctrs[Ctr.firedAccepted] = _
      rw [hctrs]
      exact hcount
    · intro c hc
      show (x1.commitFire sh.slot).ctrs[c] = _
      rw [hctrs]
      exact hkept c hc

/-- The vector with the last sample binned (R54). -/
abbrev State.lastVec (s : State) (b : Burst) (v : StageVec) (w : Word) : StageVec :=
  v.take (s.gau.run s.progs[v.prog]) b.next (min w.toNat 16383) (16383 ≤ w.toNat)

/-- `x` is `s` with the last sample of its burst passed, before the burst completes (R37, R54). -/
structure State.LastPassed (s : State) (b : Burst) (v : StageVec) (w : Word) (rest : List BufItem) (x : State) :
    Prop where
  taken : ∀ t, x.completeBurst { b with next := b.next + 1 } = t → t.rsp.buffer = rest → s.parserTakes = t
  gau : x.gau = { s.gau with staging := .staging (s.lastVec b v w) }
  fcu : x.fcu = s.fcu
  rsp : x.rsp = { s.rsp with buffer := rest }
  pcu : x.pcu = s.pcu
  ldu : x.ldu = s.ldu
  overRange : 16383 < w.toNat → counted Ctr.overRangeSamples s x
  saturated : 16383 ≤ w.toNat → counted Ctr.saturatedSamples s x
  kept : ctrsKept sampleCtrs s x

theorem State.lastPassed {s : State} {b : Burst} {v : StageVec} {w : Word} {rest : List BufItem}
    (hp : s.rsp.parser = .samples b) (hpath : b.path = false) (hnext : b.next ≠ 0)
    (hlast : b.next + 1 = b.expected) (hb : s.rsp.buffer = .word w :: rest) (hslip : rest.head? ≠ some .slip)
    (hm : isMark w = false) (hst : s.gau.staging = .staging v) :
    s.LastPassed b v w rest ((s.withRsp { s.rsp with buffer := rest }).passSample b.next w) := by
  let u := s.withRsp { s.rsp with buffer := rest }
  obtain ⟨hgau, hover, hsat, hkept⟩ := u.passSample_spec b.next w
  have hwait : s.mustWait w = false := by simp [State.mustWait, hp, hnext]
  refine ⟨fun t ht hbuf => ?_, ?_, by simp, by simp, by simp, by simp, hover, hsat, hkept⟩
  · rw [State.parserTakes_other hb hm hwait, State.takeOther_of_samples (s := u) hp, State.takeSample_last hlast,
      if_neg (by rw [hpath]; exact Bool.false_ne_true), ht]
    exact State.reachSlips_of_head t (by rw [hbuf]; exact hslip)
  · rw [hgau, State.binned_staging (s := u) hst]
    rfl

/-- The last sample of a fired shot, its bank's window still open (R55, R61). -/
theorem shotAdded {s x : State} {b : Burst} {sh : Shot} {v : StageVec} {w : Word} {rest : List BufItem} {k : Fin 6}
    (hs : s.settled) (hx : s.LastPassed b v w rest x) (hpath : b.path = false) (hshot : s.fcu.shot = some sh)
    (hk : sh.kind = .fire) (hown : s.gau.ownBank sh.slot = some k) :
    ∃ z : State, x.completeBurst { b with next := b.next + 1 } = z.closeIfDone k
      ∧ x.ShotCompletes sh (s.lastVec b v w) k z
      ∧ (∀ j : Fin 6, z.gau.banks[j] = if j = k then s.gau.banks[k].settledShot sh (s.lastVec b v w)
          else s.gau.banks[j])
      ∧ z.settled ∧ z.rsp.buffer = rest := by
  obtain ⟨z, hz, hdone⟩ := State.completeBurst_fire (x := x) (b := { b with next := b.next + 1 }) hpath
    (hx.fcu ▸ hshot) hk (v := s.lastVec b v w) (by rw [hx.gau]) (k := k) (by rw [hx.gau]; exact hown)
  have hbanks : ∀ j : Fin 6, z.gau.banks[j] = if j = k then s.gau.banks[k].settledShot sh (s.lastVec b v w)
      else s.gau.banks[j] := by
    intro j
    rw [hdone.gau, hx.gau]
    exact Gau.setBank_get _ k j _
  refine ⟨z, hz, hdone, hbanks, State.settled_of_banks hs ?_ (fun j hj => ?_) (hdone.pcu.trans hx.pcu)
    (hdone.ldu.trans hx.ldu), by rw [hdone.rsp, hx.rsp]⟩
  · rw [hdone.gau, hx.gau]
    rfl
  · rw [hbanks j] at hj ⊢
    split at hj
    · rw [(Bank.settledShot_window _ _ _).2.2.1, (Gau.ownBank_state hown).1] at hj
      cases hj
    · rename_i hne
      rw [if_neg hne]

/-- The counters of a dark capture's commit (R64). -/
def darkCtrs : List Ctr := [Ctr.darkNoBank, Ctr.darkOverCap, Ctr.darkAdded]

theorem State.commitDark_none {s : State} {p : Prog} (h : s.gau.accBank p = none) :
    s.commitDark p = s.discardStaging.bump Ctr.darkNoBank := by
  rw [State.commitDark, h]

theorem State.commitDark_full {s : State} {p : Prog} {k : Fin 6} (h : s.gau.accBank p = some k)
    (hcap : s.gau.banks[k].dAcc = 16384) : s.commitDark p = s.discardStaging.bump Ctr.darkOverCap := by
  rw [State.commitDark, h]
  exact if_pos hcap

theorem State.commitDark_adds {s : State} {p : Prog} {k : Fin 6} {v : StageVec} (h : s.gau.accBank p = some k)
    (hcap : s.gau.banks[k].dAcc ≠ 16384) (hst : s.gau.staging = .staging v) : s.commitDark p
      = ((s.withGau (s.gau.setBank k (s.gau.banks[k].addDark v))).withStaging (.committing v none)).bump
          Ctr.darkAdded := by
  rw [State.commitDark, h]
  dsimp only
  rw [if_neg (show ¬ _ = Config.darkCap from hcap), hst]
  rfl

theorem State.commitDark_ctrsKept (s : State) (p : Prog) : ctrsKept darkCtrs s (s.commitDark p) := by
  unfold State.commitDark
  split
  · exact ctrsKept_bump s.discardStaging (by decide)
  · split
    · exact ctrsKept_bump s.discardStaging (by decide)
    · split
      · exact ctrsKept_bump (State.withStaging _ _) (by decide)
      · exact ctrsKept_refl _ _

/-- What the completion of a dark capture's burst does (R40, R55, R64). -/
theorem State.completeBurst_darkSpec {x : State} {b : Burst} {sh : Shot} {v : StageVec} (hb : b.path = false)
    (hs : x.fcu.shot = some sh) (hk : sh.kind = .dark) (hst : x.gau.staging = .staging v) :
    let t := x.completeBurst b
    t.fcu = { x.fcu with shot := none } ∧ t.rsp = { x.rsp with parser := .trail, truncTimer := none }
      ∧ t.pcu = x.pcu ∧ t.ldu = x.ldu ∧ counted Ctr.darkAccepted x t
      ∧ (x.gau.accBank sh.prog = none → t.gau = { x.gau with staging := .idle } ∧ counted Ctr.darkNoBank x t)
      ∧ ∀ k : Fin 6, x.gau.accBank sh.prog = some k →
        (x.gau.banks[k].dAcc = 16384 → t.gau = { x.gau with staging := .idle } ∧ counted Ctr.darkOverCap x t)
        ∧ (x.gau.banks[k].dAcc ≠ 16384 → counted Ctr.darkAdded x t
          ∧ t.gau = ({ x.gau with staging := .committing v none } : Gau).setBank k (x.gau.banks[k].addDark v)) := by
  let x1 := (x.parserTo .trail).bump Ctr.darkAccepted
  intro t
  have ht : t = (x1.commitDark sh.prog).withFcu { (x1.commitDark sh.prog).fcu with shot := none } := by
    show x.completeBurst b = _
    rw [State.completeBurst_dark hb hs hk, State.settleShot_dark hk]
  have hcount : counted Ctr.darkAccepted x x1 := counted_bump (x.parserTo _) _
  have hkept : ctrsKept [Ctr.darkAccepted] x x1 := ctrsKept_bump (x.parserTo _) (List.mem_singleton_self _)
  have hdark := x1.commitDark_ctrsKept sh.prog
  rw [ht]
  refine ⟨by simp [x1], by simp [x1]; rfl, by simp [x1], by simp [x1],
    counted_before_kept (u := x1) hcount hdark (by decide), fun hacc => ?_, fun k hacc => ⟨fun hcap => ?_, fun hcap => ?_⟩⟩
  · rw [State.commitDark_none (s := x1) hacc]
    exact ⟨rfl, counted_after_kept hkept (by decide) (counted_bump x1.discardStaging _)⟩
  · rw [State.commitDark_full (s := x1) hacc hcap]
    exact ⟨rfl, counted_after_kept hkept (by decide) (counted_bump x1.discardStaging _)⟩
  · rw [State.commitDark_adds (s := x1) hacc hcap hst]
    exact ⟨counted_after_kept hkept (by decide) (counted_bump (State.withStaging _ _) _), rfl⟩

/-- Settles O27, by the kind of the capture, and of a fired shot by its bank's window (R40, R55, R61 to R64). -/
theorem lastSampleCommitsOrDiscards : Obligations.LastSampleCommitsOrDiscards := by
  intro s b sh v w rest hs hp hpath hnext hlast hb hslip hm hshot hst v1 added
  obtain ⟨x, hxeq⟩ : ∃ x, (s.withRsp { s.rsp with buffer := rest }).passSample b.next w = x := ⟨_, rfl⟩
  have hx : s.LastPassed b v w rest x := hxeq ▸ State.lastPassed hp hpath hnext hlast hb hslip hm hst
  have hadded : ∀ k : Fin 6, sh.weak = false → s.gau.banks[k].settledShot sh v1 = added s.gau.banks[k] := by
    intro k hw
    have henergy : v1.energy = v.energy := StageVec.take_energy _ _ _ _ _
    simp only [Bank.settledShot, hw, Bank.addShot, henergy]
    rfl
  have hweak : ∀ k : Fin 6, sh.weak = true →
      s.gau.banks[k].settledShot sh v1 = { s.gau.banks[k] with ownShot := none } := by
    intro k hw
    simp only [Bank.settledShot, hw]
    rfl
  refine ⟨fun k hk hown hopen => ?_, fun k hk hown hfull hpcu hldu hne hfresh => ?_, fun hk => ?_⟩
  · obtain ⟨z, hz, hdone, hbanks, hsettled, hbuf⟩ := shotAdded hs hx hpath hshot hk hown
    obtain ⟨helapsed, hcopy, -, -⟩ := Bank.settledShot_window s.gau.banks[k] sh v1
    have hzt : z.closeIfDone k = z := State.closeIfDone_open hdone.gau (by
      rw [hx.gau]
      show (s.gau.banks[k].settledShot sh v1).elapsed < (s.gau.banks[k].settledShot sh v1).copy.nTarget
      rw [helapsed, hcopy]
      exact hopen)
    have htake : s.parserTakes = z := hx.taken z (hz.trans hzt) hbuf
    have hbank : z.gau.banks[k] = s.gau.banks[k].settledShot sh v1 := (hbanks k).trans (if_pos rfl)
    refine ⟨z, exec_parserTakes_of_settled htake hsettled, by rw [hdone.fcu, hx.fcu], by rw [hdone.rsp, hx.rsp],
      fun hw => ⟨counted_after_kept hx.kept (by decide) (hdone.accepted hw), ?_, hbank.trans (hadded k hw)⟩,
      fun hw => ⟨?_, ?_, hbank.trans (hweak k hw)⟩, fun j hj => (hbanks j).trans (if_neg hj), ?_,
      fun h => counted_before_kept (hx.overRange h) hdone.kept (by decide),
      fun h => counted_before_kept (hx.saturated h) hdone.kept (by decide),
      ctrsKept_trans (ctrsKept_mono hx.kept (by decide)) (ctrsKept_mono hdone.kept (by decide))⟩
    · rw [hdone.gau, hw]
      rfl
    · rw [hdone.weak hw]
      exact hx.kept _ (by decide)
    · rw [hdone.gau, hw]
      rfl
    · rw [hdone.gau, hx.gau]
      rfl
  · obtain ⟨z, hz, hdone, hbanks, hsettled, hbuf⟩ := shotAdded hs hx hpath hshot hk hown
    obtain ⟨helapsed, hcopy, -, hmark⟩ := Bank.settledShot_window s.gau.banks[k] sh v1
    have hgau := hdone.gau
    rw [hx.gau] at hgau
    obtain ⟨hclose, hcgau, hcount⟩ := State.closeIfDone_done hgau (by
      show (s.gau.banks[k].settledShot sh v1).elapsed = (s.gau.banks[k].settledShot sh v1).copy.nTarget
      rw [helapsed, hcopy]
      exact hfull) hmark
    have htake : s.parserTakes = z.closeBank k := hx.taken _ (hz.trans hclose) hbuf
    have hdoneBank : ∀ done : Bank, (done = if sh.weak then { s.gau.banks[k] with ownShot := none }
        else added s.gau.banks[k]) → s.gau.banks[k].settledShot sh v1 = done := by
      rintro _ rfl
      cases hw : sh.weak
      · exact hadded k hw
      · exact hweak k hw
    intro done
    rw [hdoneBank done rfl] at hcgau hcount
    have hcbanks : ∀ j : Fin 6, (z.closeBank k).gau.banks[j] = if j = k then done.closedAs else s.gau.banks[j] := by
      intro j
      rw [hcgau]
      exact Gau.setBank_get _ k j _
    have hpcuT : (z.closeBank k).pcu = s.pcu := hdone.pcu.trans hx.pcu
    have hlduT : (z.closeBank k).ldu = s.ldu := hdone.ldu.trans hx.ldu
    have hq : (z.closeBank k).gau.queue = s.gau.queue ++ [k] := by rw [hcgau]
    have hout := outcomeOf_eq done.nAcc done.copy.nTarget
    have hcounted : ∀ o, outcomeOf done.nAcc done.copy.nTarget = o → counted o.ctr s (z.closeBank k) := by
      rintro o rfl
      have hclean : ∀ o : ProfileOutcome, o.ctr ∉ sampleCtrs ∧ o.ctr ∉ [Ctr.firedAccepted] := by
        intro o
        cases o <;> decide
      exact counted_after_kept hx.kept (hclean _).1 (counted_after_kept hdone.kept (hclean _).2 hcount)
    refine ⟨_, exec_parserTakes_of_settled htake (State.settled_of_closed hs hq hne hfresh
      (fun j hj => (hcbanks j).trans (if_neg hj)) hpcuT hlduT hpcu hldu), ?_, hq, ?_,
      fun j hj => (hcbanks j).trans (if_neg hj), hpcuT, hlduT, fun h => ?_, fun h h' => ?_, fun h h' => ?_⟩
    · exact hdone.fcu.trans (by rw [hx.fcu])
    · rw [(hcbanks k).trans (if_pos rfl), ← hout]
      rfl
    · exact hcounted _ (hout.trans (if_pos h))
    · exact hcounted _ (hout.trans ((if_neg (by omega)).trans (if_neg (by omega))))
    · exact hcounted _ (hout.trans ((if_neg (by omega)).trans (if_pos h)))
  · obtain ⟨hfcu, hrsp, hpcu, hldu, hcount, hnone, hsome⟩ := State.completeBurst_darkSpec (x := x)
      (b := { b with next := b.next + 1 }) (v := v1) hpath (hx.fcu ▸ hshot) hk (by rw [hx.gau])
    obtain ⟨t, ht⟩ : ∃ t, x.completeBurst { b with next := b.next + 1 } = t := ⟨_, rfl⟩
    rw [ht] at hfcu hrsp hpcu hldu hcount hnone hsome
    rw [hx.gau] at hnone hsome
    have htake : s.parserTakes = t := hx.taken t ht (by rw [hrsp, hx.rsp])
    have hbanks : t.gau = { s.gau with staging := .idle } ∨ ∃ k : Fin 6, s.gau.accBank sh.prog = some k
        ∧ t.gau = ({ s.gau with staging := .committing v1 none } : Gau).setBank k (s.gau.banks[k].addDark v1) := by
      cases hacc : s.gau.accBank sh.prog with
      | none => exact .inl (hnone hacc).1
      | some k =>
        by_cases hcap : s.gau.banks[k].dAcc = 16384
        · exact .inl ((hsome k hacc).1 hcap).1
        · exact .inr ⟨k, rfl, ((hsome k hacc).2 hcap).2⟩
    have hqueue : t.gau.queue = s.gau.queue := by
      obtain h | ⟨k, -, h⟩ := hbanks
      · rw [h]
      · rw [h]
        rfl
    have hsettled : t.settled := by
      refine State.settled_of_banks hs hqueue (fun j hj => ?_) (hpcu.trans hx.pcu) (hldu.trans hx.ldu)
      obtain h | ⟨k, hacc, h⟩ := hbanks
      · rw [h]
      · have hget := Gau.setBank_get ({ s.gau with staging := .committing v1 none } : Gau) k j
          (s.gau.banks[k].addDark v1)
        rw [h] at hj ⊢
        rw [hget] at hj ⊢
        split at hj
        · exact absurd ((Gau.accBank_state hacc).1.symm.trans hj) (by decide)
        · rename_i hne
          rw [if_neg hne]
    refine ⟨t, exec_parserTakes_of_settled htake hsettled, by rw [hfcu, hx.fcu], by rw [hrsp, hx.rsp],
      counted_after_kept hx.kept (by decide) hcount, hqueue, fun h => ?_, fun k hacc => ⟨fun hcap => ?_, fun hcap => ?_⟩⟩
    · exact ⟨(hnone h).1, counted_after_kept hx.kept (by decide) (hnone h).2⟩
    · obtain ⟨hgau, hover⟩ := (hsome k hacc).1 hcap
      exact ⟨hgau, counted_after_kept hx.kept (by decide) hover⟩
    · obtain ⟨hadd, hgau⟩ := (hsome k hacc).2 hcap
      have hget := fun j => Gau.setBank_get ({ s.gau with staging := .committing v1 none } : Gau) k j
        (s.gau.banks[k].addDark v1)
      rw [hgau]
      exact ⟨counted_after_kept hx.kept (by decide) hadd, rfl, (hget k).trans (if_pos rfl),
        fun j hj => (hget j).trans (if_neg hj)⟩

end Sys2Proof.Machine
end

section
/-! PROOFS. A header that matches its capture: the shot judged and fed, SAMPLES entered, the open held in a commit;
the slip point behind it, and the sixteenth WEAK in a row (R14, R15, R20, R21, R32, R36, R41, R53). -/

namespace Sys2Proof.Machine

/-! ### SAMPLES entered (R36, R53) -/

/-- What the open of a vector leaves (R53). -/
structure State.Opens (s : State) (q : OpenReq) (t : State) : Prop where
  others : t = s.withStaging t.gau.staging
  free : s.gau.staging.busy = false → t.gau.staging = .staging (s.freshVec q)
  held : ∀ v h, s.gau.staging = .committing v h → t.gau.staging = .committing v (some q)

theorem State.openStaging_opens (s : State) (q : OpenReq) : s.Opens q (s.openStaging q) := by
  unfold State.openStaging
  split
  · rename_i v h hst
    refine ⟨rfl, fun hb => ?_, fun v' h' hst' => ?_⟩
    · rw [hst] at hb
      cases hb
    · rw [hst] at hst'
      cases hst'
      rfl
  · rename_i hst
    exact ⟨rfl, fun _ => rfl, fun v h hb => absurd hb (hst v h)⟩

/-- The part in SAMPLES for a shot or a dark capture whose header has been judged (R36). -/
def State.inSamples (s : State) (sh : Shot) (e : Nat) : State :=
  (s.enterSamples false sh.tag s.fcu.firing.recordLen).openStaging ⟨sh.prog, sh.kind, e⟩

theorem State.inSamples_opens (s : State) (sh : Shot) (e : Nat) : State.Opens
    (s.enterSamples false sh.tag s.fcu.firing.recordLen) ⟨sh.prog, sh.kind, e⟩ (s.inSamples sh e) :=
  State.openStaging_opens _ _

theorem State.inSamples_others (s : State) (sh : Shot) (e : Nat) : s.inSamples sh e = { s with
    rsp := { s.rsp with
      parser := .samples ⟨false, sh.tag, s.fcu.firing.recordLen, 0⟩
      truncTimer := some s.fcu.firing.shotPeriod }
    gau := { s.gau with staging := (s.inSamples sh e).gau.staging } } := (s.inSamples_opens sh e).others

theorem State.shotHeader_enters {s : State} {sh : Shot} {m r w : Word} (ht : markTag m = sh.tag)
    (hm : markTest m = false) (hj : (s.judge sh (readingOf r)).fcu.state ≠ .tripped)
    (hw : w.toNat = (s.judge sh (readingOf r)).fcu.firing.recordLen) :
    s.shotHeader sh m r w = (s.judge sh (readingOf r)).inSamples sh (readingOf r) := by
  simp only [State.shotHeader, ht, hm, hj, hw, ne_eq, not_true_eq_false, Bool.false_eq_true, or_self, if_false]
  rfl

/-- A matched header that passes, with the right count: what its judgement left, in SAMPLES (R36). -/
theorem State.shotHeader_passes {s : State} {sh : Shot} {m r w : Word} (ht : markTag m = sh.tag)
    (hm : markTest m = false) (hrun : s.fcu.state = .running) (hw : w.toNat = s.fcu.firing.recordLen)
    (h : s.passes sh (readingOf r)) :
    s.shotHeader sh m r w = (s.judge sh (readingOf r)).inSamples sh (readingOf r) := by
  have hfcu := h.judge.fcu
  refine State.shotHeader_enters ht hm ?_ ?_
  · rw [hfcu]
    show s.fcu.state ≠ .tripped
    rw [hrun]
    decide
  · rw [hfcu]
    exact hw

/-- SAMPLES is entered for a capture of a settled profile path (R36). -/
theorem State.inSamples_settled {s u : State} {sh : Shot} {e : Nat} (hs : s.settled) (hg : u.gau = s.gau)
    (hp : u.pcu = s.pcu) (hl : u.ldu = s.ldu) : (u.inSamples sh e).settled := by
  rw [State.inSamples_others]
  exact State.settled_of_banks hs (congrArg Gau.queue hg :)
    (fun b _ => by show u.gau.banks[b] = _; rw [hg]) hp hl

/-- The capture's vector is opened, or the open is held in a commit (R53). -/
theorem State.inSamples_staging {s u t : State} {sh : Shot} {e : Nat} (hg : u.gau = s.gau) (hp : u.progs = s.progs)
    (ht : t.gau.staging = (u.inSamples sh e).gau.staging) :
    (s.gau.staging.busy = false → t.gau.staging = .staging ⟨sh.prog, sh.kind, e,
        List.replicate s.progs[sh.prog].gateCount ⟨0, 0⟩⟩)
      ∧ ∀ v h, s.gau.staging = .committing v h → t.gau.staging = .committing v (some ⟨sh.prog, sh.kind, e⟩) := by
  obtain ⟨-, hfree, hheld⟩ := u.inSamples_opens sh e
  rw [ht]
  refine ⟨fun h => ?_, fun v h hst => hheld v h (by rw [← hg] at hst; exact hst)⟩
  rw [hfree (by rw [← hg] at h; exact h)]
  show Staging.staging ⟨_, _, _, List.replicate u.progs[sh.prog].gateCount _⟩ = _
  rw [hp]

/-- The part with the word taken off the buffer. -/
abbrev State.takenTo (s : State) (rest : List BufItem) : State := s.withRsp { s.rsp with buffer := rest }

/-- A fired shot's header that passes (R14, R15, R18 to R20, R36): what it leaves, by its judgement. -/
theorem fireHeaderPasses {s : State} {sh : Shot} {rest : List BufItem} {m r w : Word} (h : s.headerAt sh rest m r w)
    (hrun : s.fcu.state = .running) (hk : sh.kind = .fire) (hw : w.toNat = s.fcu.firing.recordLen)
    (he : 4 * readingOf r ≤ 5 * s.progs[sh.prog].eRef) (hr : s.fcu.weakRun < 15) :
    ∃ v : State, (s.takenTo rest).Judges sh (readingOf r) v ∧ s.parserTakes = v.inSamples sh (readingOf r) := by
  obtain ⟨-, -, -, -, -, -, htag, htest⟩ := id h
  have hpass : (s.takenTo rest).passes sh (readingOf r) := .inr ⟨hk, he, hr⟩
  refine ⟨(s.takenTo rest).shotJudged sh (readingOf r), State.shotJudged_judges _ _ _, ?_⟩
  rw [State.parserTakes_headerAt h, State.shotHeader_passes (s := s.takenTo rest) htag htest hrun hw hpass,
    State.judge_of_pass (s := s.takenTo rest) hk he hr]

/-- A fired shot's header that passes, event by event: its judgement stands, and SAMPLES is entered (R36, R53). -/
theorem fireHeaderMatched {s : State} {sh : Shot} {rest : List BufItem} {m r w : Word} (h : s.headerAt sh rest m r w)
    (hrun : s.fcu.state = .running) (hk : sh.kind = .fire) (hw : w.toNat = s.fcu.firing.recordLen)
    (he : 4 * readingOf r ≤ 5 * s.progs[sh.prog].eRef) (hr : s.fcu.weakRun < 15) :
    ∃ v : State, (s.takenTo rest).Judges sh (readingOf r) v
      ∧ (v.inSamples sh (readingOf r)).moveProfiles = s.parserTakes.moveProfiles
      ∧ s.parserTakes.moveProfiles.fcu = v.fcu
      ∧ (∀ c, counted c s v → c ∉ pathCtrs → counted c s s.parserTakes.moveProfiles)
      ∧ s.parserTakes.moveProfiles.rsp = { s.rsp with
          buffer := rest
          parser := .samples ⟨false, sh.tag, s.fcu.firing.recordLen, 0⟩
          truncTimer := some s.fcu.firing.shotPeriod }
      ∧ (s.told v .driveLimit → s.told s.parserTakes.moveProfiles .driveLimit)
      ∧ (s.settled → s.parserTakes.moveProfiles.slc = v.slc) := by
  obtain ⟨v, hj, htake⟩ := fireHeaderPasses h hrun hk hw he hr
  obtain ⟨y, hy⟩ : ∃ y, v.inSamples sh (readingOf r) = y := ⟨_, rfl⟩
  have hsame := v.inSamples_others sh (readingOf r)
  rw [hy] at hsame htake
  have hgau : v.gau = s.gau := (congrArg State.gau hj.others :)
  have hpcu : v.pcu = s.pcu := (congrArg State.pcu hj.others :)
  have hldu : v.ldu = s.ldu := (congrArg State.ldu hj.others :)
  have hrsp : v.rsp = { s.rsp with buffer := rest } := (congrArg State.rsp hj.others :)
  have hfiring : v.fcu.firing = s.fcu.firing := (congrArg (fun x : State => x.fcu.firing) hj.others :)
  have hyslc : y.slc = v.slc := (congrArg State.slc hsame :)
  have hyctrs : y.ctrs = v.ctrs := (congrArg State.ctrs hsame :)
  rw [htake]
  refine ⟨v, hj, by rw [hy], ?_, fun c hc hpath => ?_, ?_, fun ht => ?_, fun hs => ?_⟩
  · rw [y.moveProfiles_frame.2.1]
    exact (congrArg State.fcu hsame :)
  · have hyc : counted c s y := by
      unfold counted
      rw [hyctrs]
      exact hc
    exact counted_before_kept hyc (State.moveProfiles_ctrsKept y) hpath
  · rw [y.moveProfiles_frame.2.2.1, (congrArg State.rsp hsame :), hrsp, hfiring]
  · exact (ht.between rfl (by rw [hyctrs]) hyslc).reaches (State.quiet_moveProfiles y).link
  · have hsettled : y.settled := hy ▸ State.inSamples_settled hs hgau hpcu hldu
    rw [hsettled.moveProfiles, hyslc]

/-- A dark capture's header that passes (R13, R15, R36). -/
theorem darkHeaderMatched {s : State} {sh : Shot} {rest : List BufItem} {m r w : Word} (h : s.headerAt sh rest m r w)
    (hrun : s.fcu.state = .running) (hk : sh.kind = .dark) (hw : w.toNat = s.fcu.firing.recordLen)
    (he : 2 * readingOf r < s.progs[sh.prog].eRef) :
    s.parserTakes = ((s.takenTo rest).matchShot sh).inSamples sh (readingOf r) := by
  obtain ⟨-, -, -, -, -, -, htag, htest⟩ := id h
  rw [State.parserTakes_headerAt h, State.shotHeader_passes (s := s.takenTo rest) htag htest hrun hw (.inl ⟨hk, he⟩),
    (s.takenTo rest).judge_darkPasses sh (readingOf r) hk he]

/-- A path-check capture's header that matches: its mark is taken and SAMPLES entered (R36, R45). -/
theorem State.pathHeader_enters {s : State} {c : PathCapture} {m w : Word} (ht : markTag m = c.tag)
    (hm : markTest m = true) (hw : w.toNat = c.len) :
    s.pathHeader c m w = (s.pathTaken c).enterSamples true c.tag c.len := by
  simp [State.pathHeader, ht, hm, hw]

/-- A burst that a slip point ends at the event that begins it (R32, R40): `y` is what the header left. -/
theorem headerSlipped {s y : State} {b : Burst} {rest : List BufItem} (htake : s.parserTakes = y.reachSlips)
    (hp : y.rsp.parser = .samples b) (hrun : b.path = true → y.rsp.path.running = true)
    (hb : y.rsp.buffer = .slip :: rest) (hk : ctrsKept judgeCtrs s y) :
    s.Ends { y.rsp with
      buffer := behindSlips rest
      parser := .hunt
      truncTimer := none
      path := y.checkLeft b.path } (y.fcuLeft b.path) Ctr.slippedBursts s.parserTakes.moveProfiles := by
  rw [htake]
  exact ((State.reachSlips_ends hp hrun hb).1.after hk (by decide)).moved (by decide)

/-- The sixteenth WEAK shot in a row trips at its judgement, fed and counted (R14, R21, R36, R41). -/
theorem sixteenthWeakTrips {s : State} {sh : Shot} {rest : List BufItem} {m r w : Word}
    (h : s.headerAt sh rest m r w) (hk : sh.kind = .fire) (hweak : 2 * readingOf r < s.progs[sh.prog].eRef)
    (hr : s.fcu.weakRun = 15) :
    s.tripsTo s.parserTakes.moveProfiles .misfire sh.slot
      ∧ counted Ctr.weakShots s s.parserTakes.moveProfiles
      ∧ counted (energyBin (readingOf r) s.progs[sh.prog].eRef) s s.parserTakes.moveProfiles
      ∧ counted Ctr.strayBursts s s.parserTakes.moveProfiles
      ∧ s.parserTakes.moveProfiles.gau.staging = .idle
      ∧ s.parserTakes.moveProfiles.fcu.servos = s.fedServos sh.prog (readingOf r)
      ∧ s.parserTakes.moveProfiles.rsp = { s.rsp with buffer := rest, parser := .hunt, truncTimer := none } := by
  have hj := (s.takenTo rest).shotJudged_judges sh (readingOf r)
  obtain ⟨j, hjeq⟩ : ∃ j, (s.takenTo rest).shotJudged sh (readingOf r) = j := ⟨_, rfl⟩
  have htrip : (s.takenTo rest).judge sh (readingOf r) = j.tripFcu .misfire sh.slot := by
    rw [State.judgeFire_weak (s := s.takenTo rest) hk hweak,
      if_pos (show 16 ≤ (s.takenTo rest).fcu.weakRun + 1 from (congrArg (· + 1) hr).ge), hjeq]
  rw [hjeq] at hj
  have hjrsp : j.rsp = { s.rsp with buffer := rest } := (congrArg State.rsp hj.others :)
  have hjfcu := (congrArg State.fcu hj.others :)
  obtain ⟨-, -, -, -, -, -, -, htime, -⟩ := hj.settings
  have hdrop : j.samplingShot = false := by
    obtain ⟨-, -, -, hparser, -⟩ := h
    exact j.samplingShot_of_header (by rw [hjrsp]; exact hparser)
  have hkept := j.tripFcu_ctrsKept .misfire sh.slot hdrop
  obtain ⟨x, hx⟩ : ∃ x, j.tripFcu .misfire sh.slot = x := ⟨_, rfl⟩
  have hxfcu := j.tripFcu_fcu .misfire sh.slot
  have hxrsp : x.rsp = { s.rsp with buffer := rest } := by
    rw [← hx, State.tripFcu_rsp, j.dropBurst_of_not_sampling hdrop, hjrsp]
  have hxstaging : x.gau.staging = .idle := by
    rw [← hx]
    simp [State.tripFcu]
  have hstray := ctrsKept_bump (cs := [Ctr.strayBursts]) (c := Ctr.strayBursts) x (by decide)
  have hend := (x.bump Ctr.strayBursts).failHeader_moveProfiles_ctrsKept
  have hmisfire := j.tripFcu_counted .misfire sh.slot
  rw [State.parserTakes_of_trip h htrip, hx]
  rw [hx] at hkept hxfcu hmisfire
  have hafter : ∀ {c : Ctr}, counted c s j → c ∉ tripCtrs .misfire → c ∉ Ctr.strayBursts :: discardCtrs →
      counted c s ((x.bump Ctr.strayBursts).failHeader).moveProfiles := fun hc ht hn =>
    counted_before_kept (counted_before_kept (counted_before_kept hc hkept ht) hstray
      fun hm => hn (List.mem_cons.2 (.inl (List.mem_singleton.1 hm)))) hend fun hm => hn (List.mem_cons_of_mem _ hm)
  have hbins : ∀ c ∈ binCtrs, c ∉ tripCtrs .misfire ∧ c ∉ Ctr.strayBursts :: discardCtrs := by decide
  have hbin := hbins _ (energyBin_mem (readingOf r) s.progs[sh.prog].eRef)
  have hfcu : ((x.bump Ctr.strayBursts).failHeader).moveProfiles.fcu = x.fcu := by simp
  have htrips : counted TripCause.misfire.ctr s ((x.bump Ctr.strayBursts).failHeader).moveProfiles :=
    counted_after_kept hj.kept (by decide) (counted_before_kept (counted_before_kept hmisfire hstray (by decide)) hend
      (by decide))
  refine ⟨?_, hafter (hj.weak hweak) (by decide) (by decide), hafter hj.bin hbin.1 hbin.2, ?_, ?_, ?_, ?_⟩
  · have htime' : j.slc.time = s.slc.time := htime
    unfold State.tripsTo
    rw [hfcu, hxfcu, hjfcu, htime']
    exact ⟨rfl, rfl, rfl, rfl, rfl, rfl, rfl, rfl, rfl, rfl, rfl, htrips⟩
  · exact counted_after_kept hj.kept (by decide) (counted_after_kept hkept (by decide)
      (counted_before_kept (counted_bump x _) hend (by decide)))
  · rw [State.moveProfiles_staging]
    exact hxstaging
  · rw [hfcu, hxfcu, hjfcu]
    rfl
  · simp [hxrsp]

/-- Settles O16, clause by clause: the judgement of the header, then what its burst does next. -/
theorem matchedHeaderEntersSamples : Obligations.MatchedHeaderEntersSamples := by
  unfold Obligations.MatchedHeaderEntersSamples
  intro opened err fed servosFed atLimit
  refine ⟨fun s sh rest m r w h hrun hk hw he hr => ?_, fun s sh rest m r w h hrun hk hw he => ?_,
    fun s c rest m r w hs hb hslip hm hp hrun hcap htag htest hlen => ?_, fun s rest m r w hs hb hm hp => ?_,
    fun s sh rest m r w h hrun hk hweak hr => ⟨_, rfl, sixteenthWeakTrips h hk hweak hr⟩⟩
  · intro weak
    obtain ⟨v, hj, hmove, hfcu, hcounted, hrsp, htold, hslc⟩ := fireHeaderMatched h hrun hk hw he hr
    have hvfcu := congrArg State.fcu hj.others
    have hstaging : s.parserTakes.moveProfiles.gau.staging = (v.inSamples sh (readingOf r)).gau.staging := by
      rw [← hmove, State.moveProfiles_staging]
    have hbin : energyBin (readingOf r) s.progs[sh.prog].eRef ∉ pathCtrs := by
      have hdisjoint : ∀ c ∈ binCtrs, c ∉ pathCtrs := by decide
      exact hdisjoint _ (energyBin_mem _ _)
    rw [hvfcu] at hfcu
    refine ⟨_, rfl, by rw [hfcu]; rfl, by rw [hfcu], ?_, by rw [hfcu]; exact hrun,
      hcounted _ hj.bin hbin, fun hwk => ?_, hrsp, ?_,
      by rw [hfcu]; rfl, fun ha ht => hcounted _ (hj.locks ha ht) (by decide),
      fun ht ha => hcounted _ (hj.unlocks ht ha) (by decide), fun hlim => ?_, fun hs hlim => ?_⟩
    · rw [hfcu]
      show (if 2 * readingOf r < s.progs[sh.prog].eRef then s.fcu.weakRun + 1 else 0) = if weak then _ else 0
      simp only [weak, decide_eq_true_eq]
    · exact hcounted _ (hj.weak (of_decide_eq_true hwk)) (by decide)
    · have hopen := State.inSamples_staging (s := s) (congrArg State.gau hj.others :) (congrArg State.progs hj.others :)
        hstaging
      rw [hk] at hopen
      exact hopen
    · exact (htold (hj.limit hlim)).counted_and_told
    · exact (hslc hs).trans (hj.noLimit hlim)
  · have htake := darkHeaderMatched h hrun hk hw he
    let y := ((s.takenTo rest).matchShot sh).inSamples sh (readingOf r)
    have hsame := ((s.takenTo rest).matchShot sh).inSamples_others sh (readingOf r)
    have hrun : exec .parserTakesWord s = .next y.moveProfiles := by
      have hexec : exec .parserTakesWord s = .next s.parserTakes.moveProfiles := rfl
      rw [hexec, htake]
    have hopen := State.inSamples_staging (s := s) (u := (s.takenTo rest).matchShot sh) (sh := sh)
      (e := readingOf r) rfl rfl
      (State.moveProfiles_staging y)
    rw [hk] at hopen
    refine ⟨_, hrun, ?_, ?_, hopen⟩
    · rw [y.moveProfiles_frame.2.1, (congrArg State.fcu hsame : y.fcu = _)]
      rfl
    · rw [y.moveProfiles_frame.2.2.1, (congrArg State.rsp hsame : y.rsp = _)]
      rfl
  · have hcount := State.parserTakes_count hb hm hp
    rw [State.takeHeader_path (s := s.takenTo rest) m r w hrun hcap, State.pathHeader_enters htag htest hlen,
      State.reachSlips_of_head _ (by exact hslip)] at hcount
    exact exec_parserTakes_of_still hs hcount rfl rfl rfl
  · intro hunting
    have hcount := State.parserTakes_count hb hm hp
    let u := s.takenTo (.slip :: rest)
    refine ⟨fun sh hrun hshot hstate htag htest hlen hpass => ?_, fun c hrun hcap htag htest hlen => ?_⟩
    · have hpassed : u.Passed sh (readingOf r) (u.judge sh (readingOf r)) := State.passes.judge hpass
      rw [State.takeHeader_shot (s := u) m r w hrun hshot,
        State.shotHeader_passes (s := u) htag htest hstate hlen hpass] at hcount
      obtain ⟨v, hv⟩ : ∃ v, u.judge sh (readingOf r) = v := ⟨_, rfl⟩
      rw [hv] at hpassed hcount
      obtain ⟨y, hy⟩ : ∃ y, v.inSamples sh (readingOf r) = y := ⟨_, rfl⟩
      have hsame := v.inSamples_others sh (readingOf r)
      rw [hy] at hcount hsame
      have hvrsp : v.rsp = u.rsp := (congrArg State.rsp hpassed.others :)
      have hyrsp : y.rsp = { s.rsp with
          buffer := .slip :: rest
          parser := .samples ⟨false, sh.tag, v.fcu.firing.recordLen, 0⟩
          truncTimer := some v.fcu.firing.shotPeriod } := by
        have hfrom := (congrArg State.rsp hsame :)
        rw [hvrsp] at hfrom
        exact hfrom
      have hyfcu : y.fcu = v.fcu := (congrArg State.fcu hsame :)
      have hyctrs : y.ctrs = v.ctrs := (congrArg State.ctrs hsame :)
      have hends := headerSlipped hcount (b := ⟨false, sh.tag, v.fcu.firing.recordLen, 0⟩) (rest := rest)
        (by rw [hyrsp]) nofun (by rw [hyrsp]) (fun c hc => by rw [hyctrs]; exact hpassed.kept c hc)
      have hfcu : s.parserTakes.moveProfiles.fcu = { v.fcu with shot := none } := by
        rw [hends.fcu, ← hyfcu]
        rfl
      rw [hpassed.fcu] at hfcu
      refine ⟨_, rfl, ?_, by rw [hfcu], by rw [hfcu]; exact hstate, by rw [hfcu], hends.staging, by rw [hfcu]; rfl,
        hends.counted⟩
      rw [hends.rsp, State.checkLeft, hyrsp]
      rfl
    · rw [State.takeHeader_path (s := u) m r w hrun hcap, State.pathHeader_enters htag htest hlen] at hcount
      have hends := headerSlipped hcount (b := ⟨true, c.tag, c.len, 0⟩) (rest := rest) rfl (fun _ => hrun) rfl
        (fun _ _ => rfl)
      exact ⟨_, rfl, hends.rsp, hends.fcu, hends.staging, hends.counted⟩

end Sys2Proof.Machine
end
